-- ==== Sys2Proof/Word.lean ====
section
/-! DEFINITION. The words of the machine: bytes, parcels, instruction words, register cells.

Integer registers are XLEN bits wide and XLEN is a parameter of the configuration (00_scope.md R7), so a register
cell is stored at 128 bits, the largest XLEN and FLEN of the spec (10_state.md R31, R41), holding its value
zero-extended; the accessors of Machine/Ops.lean read and write it at the configured width. -/

namespace Sys2Proof

/-- A byte of memory: 8 bits (00_scope.md R12). -/
abbrev Byte := BitVec 8

/-- A 16-bit naturally aligned unit of instruction encoding (30_encoding.md R150). -/
abbrev Parcel := BitVec 16

/-- The bits of one instruction, a 16-bit one zero-extended (30_encoding.md R151, ILEN = 32). -/
abbrev InstBits := BitVec 32

/-- A register cell, an address or a trap's information: at most 128 bits, zero-extended. -/
abbrev Cell := BitVec 128

/-- A 5-bit register number (30_encoding.md R154). -/
abbrev Reg := BitVec 5

/-- A 3-bit register number of a compressed format, naming x8..x15 or f8..f15 (30_encoding.md R181). -/
abbrev Reg3 := BitVec 3

end Sys2Proof
end

