-- ==== Sys2Proof/Config.lean ====
section
/-! DEFINITION. The configuration record of 00_scope.md R7 and 92_eei_decisions.md (what an implementation or an execution
environment fixes for a run), and the free values: constants without a body, of which nothing can be proved, for
everything the spec leaves to the implementation at each occasion. -/

namespace Sys2Proof

/-- XLEN: 32, 64 or 128 (00_scope.md R7; 10_state.md R31). -/
inductive Xlen where
  | rv32
  | rv64
  | rv128
  deriving DecidableEq, Repr

/-- The number of bits of an integer register. -/
def Xlen.bits : Xlen → Nat
  | .rv32 => 32
  | .rv64 => 64
  | .rv128 => 128

/-- XLEN/8, the bytes of an integer register (49_zc.md XB). -/
def Xlen.bytes : Xlen → Nat
  | .rv32 => 4
  | .rv64 => 8
  | .rv128 => 16

/-- EXT: one flag per extension of 00_scope.md R10, and the tags Zba and Zbb (92_eei_decisions.md D14). -/
structure ExtSet where
  m : Bool := false
  zmmul : Bool := false
  a : Bool := false
  zicsr : Bool := false
  zicntr : Bool := false
  zihpm : Bool := false
  f : Bool := false
  d : Bool := false
  q : Bool := false
  zfh : Bool := false
  zfhmin : Bool := false
  c : Bool := false
  zifencei : Bool := false
  zihintntl : Bool := false
  zihintpause : Bool := false
  zimop : Bool := false
  zcmop : Bool := false
  zfinx : Bool := false
  zdinx : Bool := false
  zhinx : Bool := false
  zhinxmin : Bool := false
  zfa : Bool := false
  zicbom : Bool := false
  zicboz : Bool := false
  zicbop : Bool := false
  zawrs : Bool := false
  zca : Bool := false
  zcf : Bool := false
  zcd : Bool := false
  zcb : Bool := false
  zcmp : Bool := false
  zcmt : Bool := false
  zce : Bool := false
  ztso : Bool := false
  zba : Bool := false
  zbb : Bool := false
  deriving DecidableEq, Repr

/-- ENDIAN: byte order of explicit data accesses (20_memory.md R72). -/
inductive Endian where
  | little
  | big
  deriving DecidableEq, Repr

/-- MISALIGNED: treatment of misaligned loads and stores (20_memory.md R78). -/
inductive Misaligned where
  | invisible
  | mayTrap
  deriving DecidableEq, Repr

/-- The three kinds of permitted access of a region (20_memory.md R70). -/
inductive AccessKind where
  | fetch
  | load
  | store
  deriving DecidableEq, Repr

/-- Main memory or an I/O device; an address in no region is vacant (20_memory.md R70). -/
inductive RegionKind where
  | mainMemory
  | io
  deriving DecidableEq, Repr

/-- The class of AMOs a region supports (43_m_a.md R379; 92_eei_decisions.md section 3): no AMO; swap, AMOSWAP; logical,
also AMOAND, AMOOR and AMOXOR; arithmetic, also AMOADD, AMOMIN, AMOMAX, AMOMINU and AMOMAXU. The spec names the four
classes alone: which AMO belongs to which, and that each holds those before it, is the model's choice, taken from the
family (PRESUMED, assumption log 26). -/
inductive AmoClass where
  | none
  | swap
  | logical
  | arithmetic
  deriving DecidableEq, Repr

/-- Rank of an AMO class: a region of a class supports the AMOs of every class of smaller or equal rank (that the classes
nest is the model's choice, assumption log 26). -/
def AmoClass.rank : AmoClass → Nat
  | .none => 0
  | .swap => 1
  | .logical => 2
  | .arithmetic => 3

/-- One range of MEMMAP and its attributes (20_memory.md R70; 92_eei_decisions.md D4). -/
structure Region where
  base : Nat
  size : Nat
  kind : RegionKind := .mainMemory
  readable : Bool := true
  writable : Bool := true
  executable : Bool := true
  /-- The access widths in bytes that the region supports ("support word access only"). They limit the explicit accesses
  of loads, stores, LR, SC, AMOs, PUSH and POP alone (assumption log 29). -/
  widths : List Nat := [1, 2, 4, 8, 16]
  /-- The region supports LR and SC. The spec gives a region one of three LR/SC classes (none, non-eventual, eventual:
  92_eei_decisions.md section 3); that the two latter are one here, since the guarantee that sets them apart
  (43_m_a.md R378) is no matter of a single step, is the model's choice (DESIGN CHOICE, assumption log 31). -/
  lrsc : Bool := true
  amo : AmoClass := .arithmetic
  /-- The misaligned atomicity granule in bytes, where the region has one (20_memory.md R79). -/
  mag : Option Nat := none
  cboZero : Bool := true
  /-- The loads and stores of the PUSH and POP instructions are performed here; a region of non-idempotent memory may
  turn them away (49_zc.md R724). -/
  pushPop : Bool := true
  deriving DecidableEq, Repr

/-- RESERVATION_SET (00_scope.md R7; 43_m_a.md R369; 92_eei_decisions.md D9): exactly the addressed bytes; with them the
naturally aligned granule of 2^k bytes around the first; or with them any set of the implementation's. -/
inductive ReservationShape where
  | exact
  | granule (log2 : Nat)
  | superset
  deriving DecidableEq, Repr

/-- SC_FAIL: whether an SC that may succeed can fail spuriously (92_eei_decisions.md D9). -/
inductive ScFail where
  | nondeterministic
  | never
  deriving DecidableEq, Repr

/-- CBIE_EFF: what CBO.INVAL does (10_state.md R57; 92_eei_decisions.md D12). -/
inductive CbieEff where
  | illegal
  | flush
  | inval
  deriving DecidableEq, Repr

/-- JVT_BASE_LEGAL: the set of values the WARL field jvt.BASE can hold (10_state.md R56), each as the address with six
zero bits below it: all; one read-only value; the multiples of 2^k; or the values of a list. -/
inductive JvtBase where
  | any
  | readOnly (base : Cell)
  | alignedTo (log2 : Nat)
  | oneOf (first : Cell) (rest : List Cell)
  deriving DecidableEq, Repr

/-- What the execution environment does with an exception (60_exceptions.md R751). The contained kind is absent: its
mechanism is not in the source (60_exceptions.md R774). `decided`: the environment decides at each occasion, by the
exception, pc and the machine state. -/
inductive TrapAction where
  | fatal
  | requested
  | invisible
  | decided
  deriving DecidableEq, Repr, Inhabited

/-- TRAP: the action per exception (60_exceptions.md R751, R753); every field defaults to fatal (D7). -/
structure TrapPolicy where
  instructionAddressMisaligned : TrapAction := .fatal
  instructionAccessFault : TrapAction := .fatal
  illegalInstruction : TrapAction := .fatal
  breakpoint : TrapAction := .fatal
  loadAddressMisaligned : TrapAction := .fatal
  loadAccessFault : TrapAction := .fatal
  storeAddressMisaligned : TrapAction := .fatal
  storeAccessFault : TrapAction := .fatal
  environmentCall : TrapAction := .fatal
  interrupt : TrapAction := .fatal
  deriving DecidableEq, Repr

/-- The configuration of a hart (00_scope.md R7; 10_state.md R67; 92_eei_decisions.md section 2). -/
structure Config where
  xlen : Xlen
  /-- NREGS = 16: one of the bases RV32E, RV64E. -/
  embedded : Bool := false
  ext : ExtSet := {}
  endian : Endian := .little
  misaligned : Misaligned := .invisible
  /-- MEMMAP; the first region that holds an address gives its attributes. -/
  regions : List Region := []
  trap : TrapPolicy := {}
  jvtEnabled : Bool := true
  jvtBase : JvtBase := .any
  reservation : ReservationShape := .exact
  scFail : ScFail := .nondeterministic
  /-- Base-two logarithms of CBLOCK_M and CBLOCK_Z: a block size is a power of two (20_memory.md R121). -/
  cblockMLog2 : Nat := 6
  cblockZLog2 : Nat := 6
  cbie : CbieEff := .inval
  /-- CBCFE_EFF and CBZE_EFF: execute (true) or illegal (false). -/
  cbcfe : Bool := true
  cbze : Bool := true
  /-- Whether the WRS instructions ever stall: an implementation in which they do not is conforming, and a sequential
  model of one hart must use it (48_zfinx_zfa_cmo_zawrs.md R690). -/
  wrsStalls : Bool := false
  deriving DecidableEq, Repr

namespace Config

/-- XLEN in bits. -/
def bits (c : Config) : Nat := c.xlen.bits

/-- XLEN/8. -/
def bytes (c : Config) : Nat := c.xlen.bytes

/-- FLEN: 32 with F alone, 64 with D, 128 with Q (10_state.md R41). -/
def flen (c : Config) : Nat :=
  if c.ext.q then 128 else if c.ext.d then 64 else 32

/-- IALIGN is 16 exactly when C or Zca is present (30_encoding.md R153). -/
def ialign16 (c : Config) : Bool := c.ext.c || c.ext.zca

/-- IALIGN/8: pc is always a multiple of it (10_state.md R37). -/
def ialignBytes (c : Config) : Nat := if c.ialign16 then 2 else 4

/-- fcsr and its views exist with F and equally with Zfinx (10_state.md R50). -/
def hasFcsr (c : Config) : Bool := c.ext.f || c.ext.zfinx

end Config

/-! ## The configuration of reset -/

/-- All of a configuration's extensions but those that exclude them, on RV64 (the configuration of reset). -/
def extFull64 : ExtSet :=
  { m := true, zmmul := true, a := true, zicsr := true, zicntr := true, zihpm := true, f := true, d := true,
    q := true, zfh := true, zfhmin := true, c := true, zifencei := true, zihintntl := true, zihintpause := true,
    zimop := true, zcmop := true, zfa := true, zicbom := true, zicboz := true, zicbop := true, zawrs := true,
    zca := true, zcd := true, zcb := true, zba := true, zbb := true }

/-- The region that fills the address space: main memory with every permission. -/
def wholeSpace : Region := { base := 0, size := 2 ^ 128 }

/-- The configuration of reset: RV64 with every extension that can stand together (a choice of the model: the spec
leaves XLEN, EXT and MEMMAP open, 92_eei_decisions.md D1, D4). -/
def configReset : Config := { xlen := .rv64, ext := extFull64, regions := [wholeSpace] }

/-! ## Free values

Each is drawn with the state's draw counter, so that two occasions draw independently; every theorem holds for
every value of every draw. -/

/-- What the reservation set of an LR holds beside the addressed bytes under `ReservationShape.superset`, for a draw, the
address and the width in bytes: ranges of addresses, each with its first address and its size (43_m_a.md R369). -/
opaque Config.reservationSet : Nat → Nat → Nat → List (Nat × Nat)

/-- Whether an SC that may succeed fails at a draw (43_m_a.md R374). -/
opaque Config.scSpuriouslyFails : Nat → Bool

/-- Which of the values a parcel of instruction memory held since the last FENCE.I a fetch returns: an index into
them, for a draw and an address (20_memory.md R84). -/
opaque Config.fetchChoice : Nat → Nat → Nat

/-- How far the cycle counter advances over the step of a draw (44_zicsr_counters.md R415). -/
opaque Config.cycleAdvance : Nat → Nat

/-- How far the time counter advances over the step of a draw (44_zicsr_counters.md R417). -/
opaque Config.timeAdvance : Nat → Nat

/-- How far hpmcounter k, where it counts events, advances over the step of a draw (10_state.md R55). -/
opaque Config.hpmAdvance : Nat → Nat → Nat

/-- The byte a device answers to a load at a draw and an address (20_memory.md R82). -/
opaque Config.ioByte : Nat → Nat → Byte

/-- misaligned_ok(addr, n, kind) under MISALIGNED = may_trap (20_memory.md R78). -/
opaque Config.misalignedOk : Nat → Nat → Nat → AccessKind → Bool

/-- Under may_trap, whether a misaligned access that does not complete raises the access fault in place of the
address-misaligned exception (20_memory.md R78). -/
opaque Config.misalignedAsAccessFault : Nat → Nat → Nat → AccessKind → Bool

/-- The value jvt.BASE takes for a write of one it cannot hold, for a draw and the written value; the nearest legal one
below it stands for it (10_state.md R56). -/
opaque Config.jvtChoice : Nat → Cell → Cell

/-- Whether the stall of a WRS instruction ends at a draw (48_zfinx_zfa_cmo_zawrs.md R690-R692). -/
opaque Config.stallEnds : Nat → Bool

end Sys2Proof
end

