-- ==== Sys2Proof/Syntax.lean ====
section
/-! DEFINITION. The abstract syntax: one constructor per row of spec/opcode_table.json, its arguments the fields of the
row's encoding that the match does not fix, an immediate's pieces already put in the order of the immediate's bits
(30_encoding.md R155-R156, R180-R186). SLLI, SRLI and SRAI have one row per XLEN (R161), so three constructors each.

The rows come in the table's order, but those whose meaning reports the instruction's own bits in an illegal-instruction
exception stand first: Lean's runtime can build only the first 244 constructors that have fields, so the decoder, which
builds them all, is marked noncomputable (the kernel evaluates it), and the meanings are not. -/

namespace Sys2Proof

/-- The instructions; the docstring of each names its mnemonic and the rule of spec/ that gives it its meaning. -/
inductive Instr where
  /-- CSRRW (R400). -/
  | csrrw (rd : BitVec 5) (rs1 : BitVec 5) (csr : BitVec 12)
  /-- CSRRS (R401). -/
  | csrrs (rd : BitVec 5) (rs1 : BitVec 5) (csr : BitVec 12)
  /-- CSRRC (R402). -/
  | csrrc (rd : BitVec 5) (rs1 : BitVec 5) (csr : BitVec 12)
  /-- CSRRWI (R403). -/
  | csrrwi (rd : BitVec 5) (uimm : BitVec 5) (csr : BitVec 12)
  /-- CSRRSI (R404). -/
  | csrrsi (rd : BitVec 5) (uimm : BitVec 5) (csr : BitVec 12)
  /-- CSRRCI (R405). -/
  | csrrci (rd : BitVec 5) (uimm : BitVec 5) (csr : BitVec 12)
  /-- FMADD.S (R450). -/
  | fmaddS (rd : BitVec 5) (rs1 : BitVec 5) (rs2 : BitVec 5) (rs3 : BitVec 5) (rm : BitVec 3)
  /-- FMSUB.S (R451). -/
  | fmsubS (rd : BitVec 5) (rs1 : BitVec 5) (rs2 : BitVec 5) (rs3 : BitVec 5) (rm : BitVec 3)
  /-- FNMSUB.S (R452). -/
  | fnmsubS (rd : BitVec 5) (rs1 : BitVec 5) (rs2 : BitVec 5) (rs3 : BitVec 5) (rm : BitVec 3)
  /-- FNMADD.S (R453). -/
  | fnmaddS (rd : BitVec 5) (rs1 : BitVec 5) (rs2 : BitVec 5) (rs3 : BitVec 5) (rm : BitVec 3)
  /-- FADD.S (R442). -/
  | faddS (rd : BitVec 5) (rs1 : BitVec 5) (rs2 : BitVec 5) (rm : BitVec 3)
  /-- FSUB.S (R443). -/
  | fsubS (rd : BitVec 5) (rs1 : BitVec 5) (rs2 : BitVec 5) (rm : BitVec 3)
  /-- FMUL.S (R444). -/
  | fmulS (rd : BitVec 5) (rs1 : BitVec 5) (rs2 : BitVec 5) (rm : BitVec 3)
  /-- FDIV.S (R445). -/
  | fdivS (rd : BitVec 5) (rs1 : BitVec 5) (rs2 : BitVec 5) (rm : BitVec 3)
  /-- FSQRT.S (R446). -/
  | fsqrtS (rd : BitVec 5) (rs1 : BitVec 5) (rm : BitVec 3)
  /-- FCVT.W.S (R455). -/
  | fcvtWS (rd : BitVec 5) (rs1 : BitVec 5) (rm : BitVec 3)
  /-- FCVT.S.W (R460). -/
  | fcvtSW (rd : BitVec 5) (rs1 : BitVec 5) (rm : BitVec 3)
  /-- FCVT.WU.S (R456). -/
  | fcvtWuS (rd : BitVec 5) (rs1 : BitVec 5) (rm : BitVec 3)
  /-- FCVT.S.WU (R461). -/
  | fcvtSWu (rd : BitVec 5) (rs1 : BitVec 5) (rm : BitVec 3)
  /-- FCVT.L.S (R457). -/
  | fcvtLS (rd : BitVec 5) (rs1 : BitVec 5) (rm : BitVec 3)
  /-- FCVT.S.L (R462). -/
  | fcvtSL (rd : BitVec 5) (rs1 : BitVec 5) (rm : BitVec 3)
  /-- FCVT.LU.S (R458). -/
  | fcvtLuS (rd : BitVec 5) (rs1 : BitVec 5) (rm : BitVec 3)
  /-- FCVT.S.LU (R463). -/
  | fcvtSLu (rd : BitVec 5) (rs1 : BitVec 5) (rm : BitVec 3)
  /-- FMADD.D (R497). -/
  | fmaddD (rd : BitVec 5) (rs1 : BitVec 5) (rs2 : BitVec 5) (rs3 : BitVec 5) (rm : BitVec 3)
  /-- FMSUB.D (R498). -/
  | fmsubD (rd : BitVec 5) (rs1 : BitVec 5) (rs2 : BitVec 5) (rs3 : BitVec 5) (rm : BitVec 3)
  /-- FNMSUB.D (R499). -/
  | fnmsubD (rd : BitVec 5) (rs1 : BitVec 5) (rs2 : BitVec 5) (rs3 : BitVec 5) (rm : BitVec 3)
  /-- FNMADD.D (R500). -/
  | fnmaddD (rd : BitVec 5) (rs1 : BitVec 5) (rs2 : BitVec 5) (rs3 : BitVec 5) (rm : BitVec 3)
  /-- FADD.D (R501). -/
  | faddD (rd : BitVec 5) (rs1 : BitVec 5) (rs2 : BitVec 5) (rm : BitVec 3)
  /-- FSUB.D (R502). -/
  | fsubD (rd : BitVec 5) (rs1 : BitVec 5) (rs2 : BitVec 5) (rm : BitVec 3)
  /-- FMUL.D (R503). -/
  | fmulD (rd : BitVec 5) (rs1 : BitVec 5) (rs2 : BitVec 5) (rm : BitVec 3)
  /-- FDIV.D (R504). -/
  | fdivD (rd : BitVec 5) (rs1 : BitVec 5) (rs2 : BitVec 5) (rm : BitVec 3)
  /-- FSQRT.D (R505). -/
  | fsqrtD (rd : BitVec 5) (rs1 : BitVec 5) (rm : BitVec 3)
  /-- FCVT.W.D (R517). -/
  | fcvtWD (rd : BitVec 5) (rs1 : BitVec 5) (rm : BitVec 3)
  /-- FCVT.D.W (R521). -/
  | fcvtDW (rd : BitVec 5) (rs1 : BitVec 5) (rm : BitVec 3)
  /-- FCVT.WU.D (R518). -/
  | fcvtWuD (rd : BitVec 5) (rs1 : BitVec 5) (rm : BitVec 3)
  /-- FCVT.D.WU (R522). -/
  | fcvtDWu (rd : BitVec 5) (rs1 : BitVec 5) (rm : BitVec 3)
  /-- FCVT.L.D (R519). -/
  | fcvtLD (rd : BitVec 5) (rs1 : BitVec 5) (rm : BitVec 3)
  /-- FCVT.D.L (R523). -/
  | fcvtDL (rd : BitVec 5) (rs1 : BitVec 5) (rm : BitVec 3)
  /-- FCVT.LU.D (R520). -/
  | fcvtLuD (rd : BitVec 5) (rs1 : BitVec 5) (rm : BitVec 3)
  /-- FCVT.D.LU (R524). -/
  | fcvtDLu (rd : BitVec 5) (rs1 : BitVec 5) (rm : BitVec 3)
  /-- FMADD.Q (R530). -/
  | fmaddQ (rd : BitVec 5) (rs1 : BitVec 5) (rs2 : BitVec 5) (rs3 : BitVec 5) (rm : BitVec 3)
  /-- FMSUB.Q (R531). -/
  | fmsubQ (rd : BitVec 5) (rs1 : BitVec 5) (rs2 : BitVec 5) (rs3 : BitVec 5) (rm : BitVec 3)
  /-- FNMSUB.Q (R532). -/
  | fnmsubQ (rd : BitVec 5) (rs1 : BitVec 5) (rs2 : BitVec 5) (rs3 : BitVec 5) (rm : BitVec 3)
  /-- FNMADD.Q (R533). -/
  | fnmaddQ (rd : BitVec 5) (rs1 : BitVec 5) (rs2 : BitVec 5) (rs3 : BitVec 5) (rm : BitVec 3)
  /-- FADD.Q (R534). -/
  | faddQ (rd : BitVec 5) (rs1 : BitVec 5) (rs2 : BitVec 5) (rm : BitVec 3)
  /-- FSUB.Q (R535). -/
  | fsubQ (rd : BitVec 5) (rs1 : BitVec 5) (rs2 : BitVec 5) (rm : BitVec 3)
  /-- FMUL.Q (R536). -/
  | fmulQ (rd : BitVec 5) (rs1 : BitVec 5) (rs2 : BitVec 5) (rm : BitVec 3)
  /-- FDIV.Q (R537). -/
  | fdivQ (rd : BitVec 5) (rs1 : BitVec 5) (rs2 : BitVec 5) (rm : BitVec 3)
  /-- FSQRT.Q (R538). -/
  | fsqrtQ (rd : BitVec 5) (rs1 : BitVec 5) (rm : BitVec 3)
  /-- FCVT.W.Q (R552). -/
  | fcvtWQ (rd : BitVec 5) (rs1 : BitVec 5) (rm : BitVec 3)
  /-- FCVT.Q.W (R556). -/
  | fcvtQW (rd : BitVec 5) (rs1 : BitVec 5) (rm : BitVec 3)
  /-- FCVT.WU.Q (R553). -/
  | fcvtWuQ (rd : BitVec 5) (rs1 : BitVec 5) (rm : BitVec 3)
  /-- FCVT.Q.WU (R557). -/
  | fcvtQWu (rd : BitVec 5) (rs1 : BitVec 5) (rm : BitVec 3)
  /-- FCVT.L.Q (R554). -/
  | fcvtLQ (rd : BitVec 5) (rs1 : BitVec 5) (rm : BitVec 3)
  /-- FCVT.Q.L (R558). -/
  | fcvtQL (rd : BitVec 5) (rs1 : BitVec 5) (rm : BitVec 3)
  /-- FCVT.LU.Q (R555). -/
  | fcvtLuQ (rd : BitVec 5) (rs1 : BitVec 5) (rm : BitVec 3)
  /-- FCVT.Q.LU (R559). -/
  | fcvtQLu (rd : BitVec 5) (rs1 : BitVec 5) (rm : BitVec 3)
  /-- FMADD.H (R816). -/
  | fmaddH (rd : BitVec 5) (rs1 : BitVec 5) (rs2 : BitVec 5) (rs3 : BitVec 5) (rm : BitVec 3)
  /-- FMSUB.H (R817). -/
  | fmsubH (rd : BitVec 5) (rs1 : BitVec 5) (rs2 : BitVec 5) (rs3 : BitVec 5) (rm : BitVec 3)
  /-- FNMSUB.H (R818). -/
  | fnmsubH (rd : BitVec 5) (rs1 : BitVec 5) (rs2 : BitVec 5) (rs3 : BitVec 5) (rm : BitVec 3)
  /-- FNMADD.H (R819). -/
  | fnmaddH (rd : BitVec 5) (rs1 : BitVec 5) (rs2 : BitVec 5) (rs3 : BitVec 5) (rm : BitVec 3)
  /-- FADD.H (R820). -/
  | faddH (rd : BitVec 5) (rs1 : BitVec 5) (rs2 : BitVec 5) (rm : BitVec 3)
  /-- FSUB.H (R821). -/
  | fsubH (rd : BitVec 5) (rs1 : BitVec 5) (rs2 : BitVec 5) (rm : BitVec 3)
  /-- FMUL.H (R822). -/
  | fmulH (rd : BitVec 5) (rs1 : BitVec 5) (rs2 : BitVec 5) (rm : BitVec 3)
  /-- FDIV.H (R823). -/
  | fdivH (rd : BitVec 5) (rs1 : BitVec 5) (rs2 : BitVec 5) (rm : BitVec 3)
  /-- FSQRT.H (R824). -/
  | fsqrtH (rd : BitVec 5) (rs1 : BitVec 5) (rm : BitVec 3)
  /-- FCVT.W.H (R840). -/
  | fcvtWH (rd : BitVec 5) (rs1 : BitVec 5) (rm : BitVec 3)
  /-- FCVT.H.W (R844). -/
  | fcvtHW (rd : BitVec 5) (rs1 : BitVec 5) (rm : BitVec 3)
  /-- FCVT.WU.H (R841). -/
  | fcvtWuH (rd : BitVec 5) (rs1 : BitVec 5) (rm : BitVec 3)
  /-- FCVT.H.WU (R845). -/
  | fcvtHWu (rd : BitVec 5) (rs1 : BitVec 5) (rm : BitVec 3)
  /-- FCVT.L.H (R842). -/
  | fcvtLH (rd : BitVec 5) (rs1 : BitVec 5) (rm : BitVec 3)
  /-- FCVT.H.L (R846). -/
  | fcvtHL (rd : BitVec 5) (rs1 : BitVec 5) (rm : BitVec 3)
  /-- FCVT.LU.H (R843). -/
  | fcvtLuH (rd : BitVec 5) (rs1 : BitVec 5) (rm : BitVec 3)
  /-- FCVT.H.LU (R847). -/
  | fcvtHLu (rd : BitVec 5) (rs1 : BitVec 5) (rm : BitVec 3)
  /-- FCVT.S.D (R511). -/
  | fcvtSD (rd : BitVec 5) (rs1 : BitVec 5) (rm : BitVec 3)
  /-- FCVT.D.S (R512). -/
  | fcvtDS (rd : BitVec 5) (rs1 : BitVec 5) (rm : BitVec 3)
  /-- FCVT.S.Q (R544). -/
  | fcvtSQ (rd : BitVec 5) (rs1 : BitVec 5) (rm : BitVec 3)
  /-- FCVT.Q.S (R545). -/
  | fcvtQS (rd : BitVec 5) (rs1 : BitVec 5) (rm : BitVec 3)
  /-- FCVT.D.Q (R546). -/
  | fcvtDQ (rd : BitVec 5) (rs1 : BitVec 5) (rm : BitVec 3)
  /-- FCVT.Q.D (R547). -/
  | fcvtQD (rd : BitVec 5) (rs1 : BitVec 5) (rm : BitVec 3)
  /-- FCVT.S.H (R830). -/
  | fcvtSH (rd : BitVec 5) (rs1 : BitVec 5) (rm : BitVec 3)
  /-- FCVT.H.S (R831). -/
  | fcvtHS (rd : BitVec 5) (rs1 : BitVec 5) (rm : BitVec 3)
  /-- FCVT.D.H (R832). -/
  | fcvtDH (rd : BitVec 5) (rs1 : BitVec 5) (rm : BitVec 3)
  /-- FCVT.H.D (R833). -/
  | fcvtHD (rd : BitVec 5) (rs1 : BitVec 5) (rm : BitVec 3)
  /-- FCVT.Q.H (R834). -/
  | fcvtQH (rd : BitVec 5) (rs1 : BitVec 5) (rm : BitVec 3)
  /-- FCVT.H.Q (R835). -/
  | fcvtHQ (rd : BitVec 5) (rs1 : BitVec 5) (rm : BitVec 3)
  /-- FROUND.S (R657). -/
  | froundS (rd : BitVec 5) (rs1 : BitVec 5) (rm : BitVec 3)
  /-- FROUNDNX.S (R658). -/
  | froundnxS (rd : BitVec 5) (rs1 : BitVec 5) (rm : BitVec 3)
  /-- FROUND.D (R852). -/
  | froundD (rd : BitVec 5) (rs1 : BitVec 5) (rm : BitVec 3)
  /-- FROUNDNX.D (R853). -/
  | froundnxD (rd : BitVec 5) (rs1 : BitVec 5) (rm : BitVec 3)
  /-- FROUND.H (R858). -/
  | froundH (rd : BitVec 5) (rs1 : BitVec 5) (rm : BitVec 3)
  /-- FROUNDNX.H (R859). -/
  | froundnxH (rd : BitVec 5) (rs1 : BitVec 5) (rm : BitVec 3)
  /-- FROUND.Q (R864). -/
  | froundQ (rd : BitVec 5) (rs1 : BitVec 5) (rm : BitVec 3)
  /-- FROUNDNX.Q (R865). -/
  | froundnxQ (rd : BitVec 5) (rs1 : BitVec 5) (rm : BitVec 3)
  /-- CBO.INVAL (R675). -/
  | cboInval (rs1 : BitVec 5)
  /-- CBO.CLEAN (R673). -/
  | cboClean (rs1 : BitVec 5)
  /-- CBO.FLUSH (R674). -/
  | cboFlush (rs1 : BitVec 5)
  /-- CBO.ZERO (R676). -/
  | cboZero (rs1 : BitVec 5)
  /-- CM.JT (R742). -/
  | cmJt (index : BitVec 5)
  /-- CM.JALT (R743). -/
  | cmJalt (index : BitVec 8)
  /-- ADDI (R225). -/
  | addi (rd : BitVec 5) (rs1 : BitVec 5) (imm : BitVec 12)
  /-- SLTI (R226). -/
  | slti (rd : BitVec 5) (rs1 : BitVec 5) (imm : BitVec 12)
  /-- SLTIU (R227). -/
  | sltiu (rd : BitVec 5) (rs1 : BitVec 5) (imm : BitVec 12)
  /-- XORI (R230). -/
  | xori (rd : BitVec 5) (rs1 : BitVec 5) (imm : BitVec 12)
  /-- ORI (R229). -/
  | ori (rd : BitVec 5) (rs1 : BitVec 5) (imm : BitVec 12)
  /-- ANDI (R228). -/
  | andi (rd : BitVec 5) (rs1 : BitVec 5) (imm : BitVec 12)
  /-- SLLI (R231). -/
  | slliRv32 (rd : BitVec 5) (rs1 : BitVec 5) (shamt : BitVec 5)
  /-- SLLI (R313). -/
  | slliRv64 (rd : BitVec 5) (rs1 : BitVec 5) (shamt : BitVec 6)
  /-- SLLI (R342). -/
  | slliRv128 (rd : BitVec 5) (rs1 : BitVec 5) (shamt : BitVec 7)
  /-- SRLI (R232). -/
  | srliRv32 (rd : BitVec 5) (rs1 : BitVec 5) (shamt : BitVec 5)
  /-- SRLI (R313). -/
  | srliRv64 (rd : BitVec 5) (rs1 : BitVec 5) (shamt : BitVec 6)
  /-- SRLI (R342). -/
  | srliRv128 (rd : BitVec 5) (rs1 : BitVec 5) (shamt : BitVec 7)
  /-- SRAI (R233). -/
  | sraiRv32 (rd : BitVec 5) (rs1 : BitVec 5) (shamt : BitVec 5)
  /-- SRAI (R313). -/
  | sraiRv64 (rd : BitVec 5) (rs1 : BitVec 5) (shamt : BitVec 6)
  /-- SRAI (R342). -/
  | sraiRv128 (rd : BitVec 5) (rs1 : BitVec 5) (shamt : BitVec 7)
  /-- LUI (R234). -/
  | lui (rd : BitVec 5) (imm : BitVec 20)
  /-- AUIPC (R235). -/
  | auipc (rd : BitVec 5) (imm : BitVec 20)
  /-- ADD (R240). -/
  | add (rd : BitVec 5) (rs1 : BitVec 5) (rs2 : BitVec 5)
  /-- SUB (R241). -/
  | sub (rd : BitVec 5) (rs1 : BitVec 5) (rs2 : BitVec 5)
  /-- SLL (R247). -/
  | sll (rd : BitVec 5) (rs1 : BitVec 5) (rs2 : BitVec 5)
  /-- SLT (R242). -/
  | slt (rd : BitVec 5) (rs1 : BitVec 5) (rs2 : BitVec 5)
  /-- SLTU (R243). -/
  | sltu (rd : BitVec 5) (rs1 : BitVec 5) (rs2 : BitVec 5)
  /-- XOR (R246). -/
  | xor (rd : BitVec 5) (rs1 : BitVec 5) (rs2 : BitVec 5)
  /-- SRL (R248). -/
  | srl (rd : BitVec 5) (rs1 : BitVec 5) (rs2 : BitVec 5)
  /-- SRA (R249). -/
  | sra (rd : BitVec 5) (rs1 : BitVec 5) (rs2 : BitVec 5)
  /-- OR (R245). -/
  | or (rd : BitVec 5) (rs1 : BitVec 5) (rs2 : BitVec 5)
  /-- AND (R244). -/
  | and (rd : BitVec 5) (rs1 : BitVec 5) (rs2 : BitVec 5)
  /-- JAL (R253). -/
  | jal (rd : BitVec 5) (off : BitVec 20)
  /-- JALR (R254). -/
  | jalr (rd : BitVec 5) (rs1 : BitVec 5) (imm : BitVec 12)
  /-- BEQ (R264). -/
  | beq (rs1 : BitVec 5) (rs2 : BitVec 5) (off : BitVec 12)
  /-- BNE (R265). -/
  | bne (rs1 : BitVec 5) (rs2 : BitVec 5) (off : BitVec 12)
  /-- BLT (R266). -/
  | blt (rs1 : BitVec 5) (rs2 : BitVec 5) (off : BitVec 12)
  /-- BGE (R267). -/
  | bge (rs1 : BitVec 5) (rs2 : BitVec 5) (off : BitVec 12)
  /-- BLTU (R268). -/
  | bltu (rs1 : BitVec 5) (rs2 : BitVec 5) (off : BitVec 12)
  /-- BGEU (R269). -/
  | bgeu (rs1 : BitVec 5) (rs2 : BitVec 5) (off : BitVec 12)
  /-- LB (R279). -/
  | lb (rd : BitVec 5) (rs1 : BitVec 5) (imm : BitVec 12)
  /-- LH (R280). -/
  | lh (rd : BitVec 5) (rs1 : BitVec 5) (imm : BitVec 12)
  /-- LW (R281). -/
  | lw (rd : BitVec 5) (rs1 : BitVec 5) (imm : BitVec 12)
  /-- LBU (R282). -/
  | lbu (rd : BitVec 5) (rs1 : BitVec 5) (imm : BitVec 12)
  /-- LHU (R283). -/
  | lhu (rd : BitVec 5) (rs1 : BitVec 5) (imm : BitVec 12)
  /-- SB (R284). -/
  | sb (rs1 : BitVec 5) (rs2 : BitVec 5) (imm : BitVec 12)
  /-- SH (R285). -/
  | sh (rs1 : BitVec 5) (rs2 : BitVec 5) (imm : BitVec 12)
  /-- SW (R286). -/
  | sw (rs1 : BitVec 5) (rs2 : BitVec 5) (imm : BitVec 12)
  /-- FENCE (R274). -/
  | fence (fm : BitVec 4) (pred : BitVec 4) (succ : BitVec 4) (rs1 : BitVec 5) (rd : BitVec 5)
  /-- FENCE.TSO (R275). -/
  | fenceTso (rs1 : BitVec 5) (rd : BitVec 5)
  /-- PAUSE (R296). -/
  | pause
  /-- ECALL (R276). -/
  | ecall
  /-- EBREAK (R277). -/
  | ebreak
  /-- FENCE.I (R290). -/
  | fenceI (imm : BitVec 12) (rs1 : BitVec 5) (rd : BitVec 5)
  /-- NTL.P1 (R293). -/
  | ntlP1
  /-- NTL.PALL (R293). -/
  | ntlPall
  /-- NTL.S1 (R293). -/
  | ntlS1
  /-- NTL.ALL (R293). -/
  | ntlAll
  /-- C.NTL.P1 (R294). -/
  | cNtlP1
  /-- C.NTL.PALL (R294). -/
  | cNtlPall
  /-- C.NTL.S1 (R294). -/
  | cNtlS1
  /-- C.NTL.ALL (R294). -/
  | cNtlAll
  /-- ADDIW (R312). -/
  | addiw (rd : BitVec 5) (rs1 : BitVec 5) (imm : BitVec 12)
  /-- SLLIW (R314). -/
  | slliw (rd : BitVec 5) (rs1 : BitVec 5) (shamt : BitVec 5)
  /-- SRLIW (R315). -/
  | srliw (rd : BitVec 5) (rs1 : BitVec 5) (shamt : BitVec 5)
  /-- SRAIW (R316). -/
  | sraiw (rd : BitVec 5) (rs1 : BitVec 5) (shamt : BitVec 5)
  /-- ADDW (R319). -/
  | addw (rd : BitVec 5) (rs1 : BitVec 5) (rs2 : BitVec 5)
  /-- SUBW (R320). -/
  | subw (rd : BitVec 5) (rs1 : BitVec 5) (rs2 : BitVec 5)
  /-- SLLW (R322). -/
  | sllw (rd : BitVec 5) (rs1 : BitVec 5) (rs2 : BitVec 5)
  /-- SRLW (R323). -/
  | srlw (rd : BitVec 5) (rs1 : BitVec 5) (rs2 : BitVec 5)
  /-- SRAW (R324). -/
  | sraw (rd : BitVec 5) (rs1 : BitVec 5) (rs2 : BitVec 5)
  /-- LD (R325). -/
  | ld (rd : BitVec 5) (rs1 : BitVec 5) (imm : BitVec 12)
  /-- LWU (R326). -/
  | lwu (rd : BitVec 5) (rs1 : BitVec 5) (imm : BitVec 12)
  /-- SD (R327). -/
  | sd (rs1 : BitVec 5) (rs2 : BitVec 5) (imm : BitVec 12)
  /-- MUL (R351). -/
  | mul (rd : BitVec 5) (rs1 : BitVec 5) (rs2 : BitVec 5)
  /-- MULH (R352). -/
  | mulh (rd : BitVec 5) (rs1 : BitVec 5) (rs2 : BitVec 5)
  /-- MULHSU (R353). -/
  | mulhsu (rd : BitVec 5) (rs1 : BitVec 5) (rs2 : BitVec 5)
  /-- MULHU (R354). -/
  | mulhu (rd : BitVec 5) (rs1 : BitVec 5) (rs2 : BitVec 5)
  /-- DIV (R356). -/
  | div (rd : BitVec 5) (rs1 : BitVec 5) (rs2 : BitVec 5)
  /-- DIVU (R357). -/
  | divu (rd : BitVec 5) (rs1 : BitVec 5) (rs2 : BitVec 5)
  /-- REM (R358). -/
  | rem (rd : BitVec 5) (rs1 : BitVec 5) (rs2 : BitVec 5)
  /-- REMU (R359). -/
  | remu (rd : BitVec 5) (rs1 : BitVec 5) (rs2 : BitVec 5)
  /-- MULW (R355). -/
  | mulw (rd : BitVec 5) (rs1 : BitVec 5) (rs2 : BitVec 5)
  /-- DIVW (R360). -/
  | divw (rd : BitVec 5) (rs1 : BitVec 5) (rs2 : BitVec 5)
  /-- DIVUW (R361). -/
  | divuw (rd : BitVec 5) (rs1 : BitVec 5) (rs2 : BitVec 5)
  /-- REMW (R362). -/
  | remw (rd : BitVec 5) (rs1 : BitVec 5) (rs2 : BitVec 5)
  /-- REMUW (R363). -/
  | remuw (rd : BitVec 5) (rs1 : BitVec 5) (rs2 : BitVec 5)
  /-- LR.W (R369). -/
  | lrW (rd : BitVec 5) (rs1 : BitVec 5) (aq : BitVec 1) (rl : BitVec 1)
  /-- SC.W (R371). -/
  | scW (rd : BitVec 5) (rs1 : BitVec 5) (rs2 : BitVec 5) (aq : BitVec 1) (rl : BitVec 1)
  /-- LR.D (R370). -/
  | lrD (rd : BitVec 5) (rs1 : BitVec 5) (aq : BitVec 1) (rl : BitVec 1)
  /-- SC.D (R373). -/
  | scD (rd : BitVec 5) (rs1 : BitVec 5) (rs2 : BitVec 5) (aq : BitVec 1) (rl : BitVec 1)
  /-- AMOSWAP.W (R381). -/
  | amoswapW (rd : BitVec 5) (rs1 : BitVec 5) (rs2 : BitVec 5) (aq : BitVec 1) (rl : BitVec 1)
  /-- AMOSWAP.D (R391). -/
  | amoswapD (rd : BitVec 5) (rs1 : BitVec 5) (rs2 : BitVec 5) (aq : BitVec 1) (rl : BitVec 1)
  /-- AMOADD.W (R382). -/
  | amoaddW (rd : BitVec 5) (rs1 : BitVec 5) (rs2 : BitVec 5) (aq : BitVec 1) (rl : BitVec 1)
  /-- AMOADD.D (R392). -/
  | amoaddD (rd : BitVec 5) (rs1 : BitVec 5) (rs2 : BitVec 5) (aq : BitVec 1) (rl : BitVec 1)
  /-- AMOXOR.W (R383). -/
  | amoxorW (rd : BitVec 5) (rs1 : BitVec 5) (rs2 : BitVec 5) (aq : BitVec 1) (rl : BitVec 1)
  /-- AMOXOR.D (R393). -/
  | amoxorD (rd : BitVec 5) (rs1 : BitVec 5) (rs2 : BitVec 5) (aq : BitVec 1) (rl : BitVec 1)
  /-- AMOAND.W (R385). -/
  | amoandW (rd : BitVec 5) (rs1 : BitVec 5) (rs2 : BitVec 5) (aq : BitVec 1) (rl : BitVec 1)
  /-- AMOAND.D (R394). -/
  | amoandD (rd : BitVec 5) (rs1 : BitVec 5) (rs2 : BitVec 5) (aq : BitVec 1) (rl : BitVec 1)
  /-- AMOOR.W (R386). -/
  | amoorW (rd : BitVec 5) (rs1 : BitVec 5) (rs2 : BitVec 5) (aq : BitVec 1) (rl : BitVec 1)
  /-- AMOOR.D (R395). -/
  | amoorD (rd : BitVec 5) (rs1 : BitVec 5) (rs2 : BitVec 5) (aq : BitVec 1) (rl : BitVec 1)
  /-- AMOMIN.W (R387). -/
  | amominW (rd : BitVec 5) (rs1 : BitVec 5) (rs2 : BitVec 5) (aq : BitVec 1) (rl : BitVec 1)
  /-- AMOMIN.D (R396). -/
  | amominD (rd : BitVec 5) (rs1 : BitVec 5) (rs2 : BitVec 5) (aq : BitVec 1) (rl : BitVec 1)
  /-- AMOMAX.W (R388). -/
  | amomaxW (rd : BitVec 5) (rs1 : BitVec 5) (rs2 : BitVec 5) (aq : BitVec 1) (rl : BitVec 1)
  /-- AMOMAX.D (R397). -/
  | amomaxD (rd : BitVec 5) (rs1 : BitVec 5) (rs2 : BitVec 5) (aq : BitVec 1) (rl : BitVec 1)
  /-- AMOMINU.W (R389). -/
  | amominuW (rd : BitVec 5) (rs1 : BitVec 5) (rs2 : BitVec 5) (aq : BitVec 1) (rl : BitVec 1)
  /-- AMOMINU.D (R398). -/
  | amominuD (rd : BitVec 5) (rs1 : BitVec 5) (rs2 : BitVec 5) (aq : BitVec 1) (rl : BitVec 1)
  /-- AMOMAXU.W (R390). -/
  | amomaxuW (rd : BitVec 5) (rs1 : BitVec 5) (rs2 : BitVec 5) (aq : BitVec 1) (rl : BitVec 1)
  /-- AMOMAXU.D (R399). -/
  | amomaxuD (rd : BitVec 5) (rs1 : BitVec 5) (rs2 : BitVec 5) (aq : BitVec 1) (rl : BitVec 1)
  /-- FLW (R440). -/
  | flw (rd : BitVec 5) (rs1 : BitVec 5) (imm : BitVec 12)
  /-- FSW (R441). -/
  | fsw (rs1 : BitVec 5) (rs2 : BitVec 5) (imm : BitVec 12)
  /-- FSGNJ.S (R464). -/
  | fsgnjS (rd : BitVec 5) (rs1 : BitVec 5) (rs2 : BitVec 5)
  /-- FSGNJN.S (R465). -/
  | fsgnjnS (rd : BitVec 5) (rs1 : BitVec 5) (rs2 : BitVec 5)
  /-- FSGNJX.S (R466). -/
  | fsgnjxS (rd : BitVec 5) (rs1 : BitVec 5) (rs2 : BitVec 5)
  /-- FMIN.S (R447). -/
  | fminS (rd : BitVec 5) (rs1 : BitVec 5) (rs2 : BitVec 5)
  /-- FMAX.S (R448). -/
  | fmaxS (rd : BitVec 5) (rs1 : BitVec 5) (rs2 : BitVec 5)
  /-- FEQ.S (R470). -/
  | feqS (rd : BitVec 5) (rs1 : BitVec 5) (rs2 : BitVec 5)
  /-- FLT.S (R471). -/
  | fltS (rd : BitVec 5) (rs1 : BitVec 5) (rs2 : BitVec 5)
  /-- FLE.S (R472). -/
  | fleS (rd : BitVec 5) (rs1 : BitVec 5) (rs2 : BitVec 5)
  /-- FCLASS.S (R473). -/
  | fclassS (rd : BitVec 5) (rs1 : BitVec 5)
  /-- FLD (R495). -/
  | fld (rd : BitVec 5) (rs1 : BitVec 5) (imm : BitVec 12)
  /-- FSD (R496). -/
  | fsd (rs1 : BitVec 5) (rs2 : BitVec 5) (imm : BitVec 12)
  /-- FSGNJ.D (R506). -/
  | fsgnjD (rd : BitVec 5) (rs1 : BitVec 5) (rs2 : BitVec 5)
  /-- FSGNJN.D (R507). -/
  | fsgnjnD (rd : BitVec 5) (rs1 : BitVec 5) (rs2 : BitVec 5)
  /-- FSGNJX.D (R508). -/
  | fsgnjxD (rd : BitVec 5) (rs1 : BitVec 5) (rs2 : BitVec 5)
  /-- FMIN.D (R509). -/
  | fminD (rd : BitVec 5) (rs1 : BitVec 5) (rs2 : BitVec 5)
  /-- FMAX.D (R510). -/
  | fmaxD (rd : BitVec 5) (rs1 : BitVec 5) (rs2 : BitVec 5)
  /-- FEQ.D (R513). -/
  | feqD (rd : BitVec 5) (rs1 : BitVec 5) (rs2 : BitVec 5)
  /-- FLT.D (R514). -/
  | fltD (rd : BitVec 5) (rs1 : BitVec 5) (rs2 : BitVec 5)
  /-- FLE.D (R515). -/
  | fleD (rd : BitVec 5) (rs1 : BitVec 5) (rs2 : BitVec 5)
  /-- FCLASS.D (R516). -/
  | fclassD (rd : BitVec 5) (rs1 : BitVec 5)
  /-- FLQ (R528). -/
  | flq (rd : BitVec 5) (rs1 : BitVec 5) (imm : BitVec 12)
  /-- FSQ (R529). -/
  | fsq (rs1 : BitVec 5) (rs2 : BitVec 5) (imm : BitVec 12)
  /-- FSGNJ.Q (R539). -/
  | fsgnjQ (rd : BitVec 5) (rs1 : BitVec 5) (rs2 : BitVec 5)
  /-- FSGNJN.Q (R540). -/
  | fsgnjnQ (rd : BitVec 5) (rs1 : BitVec 5) (rs2 : BitVec 5)
  /-- FSGNJX.Q (R541). -/
  | fsgnjxQ (rd : BitVec 5) (rs1 : BitVec 5) (rs2 : BitVec 5)
  /-- FMIN.Q (R542). -/
  | fminQ (rd : BitVec 5) (rs1 : BitVec 5) (rs2 : BitVec 5)
  /-- FMAX.Q (R543). -/
  | fmaxQ (rd : BitVec 5) (rs1 : BitVec 5) (rs2 : BitVec 5)
  /-- FEQ.Q (R548). -/
  | feqQ (rd : BitVec 5) (rs1 : BitVec 5) (rs2 : BitVec 5)
  /-- FLT.Q (R549). -/
  | fltQ (rd : BitVec 5) (rs1 : BitVec 5) (rs2 : BitVec 5)
  /-- FLE.Q (R550). -/
  | fleQ (rd : BitVec 5) (rs1 : BitVec 5) (rs2 : BitVec 5)
  /-- FCLASS.Q (R551). -/
  | fclassQ (rd : BitVec 5) (rs1 : BitVec 5)
  /-- FLH (R814). -/
  | flh (rd : BitVec 5) (rs1 : BitVec 5) (imm : BitVec 12)
  /-- FSH (R815). -/
  | fsh (rs1 : BitVec 5) (rs2 : BitVec 5) (imm : BitVec 12)
  /-- FSGNJ.H (R825). -/
  | fsgnjH (rd : BitVec 5) (rs1 : BitVec 5) (rs2 : BitVec 5)
  /-- FSGNJN.H (R826). -/
  | fsgnjnH (rd : BitVec 5) (rs1 : BitVec 5) (rs2 : BitVec 5)
  /-- FSGNJX.H (R827). -/
  | fsgnjxH (rd : BitVec 5) (rs1 : BitVec 5) (rs2 : BitVec 5)
  /-- FMIN.H (R828). -/
  | fminH (rd : BitVec 5) (rs1 : BitVec 5) (rs2 : BitVec 5)
  /-- FMAX.H (R829). -/
  | fmaxH (rd : BitVec 5) (rs1 : BitVec 5) (rs2 : BitVec 5)
  /-- FEQ.H (R836). -/
  | feqH (rd : BitVec 5) (rs1 : BitVec 5) (rs2 : BitVec 5)
  /-- FLT.H (R837). -/
  | fltH (rd : BitVec 5) (rs1 : BitVec 5) (rs2 : BitVec 5)
  /-- FLE.H (R838). -/
  | fleH (rd : BitVec 5) (rs1 : BitVec 5) (rs2 : BitVec 5)
  /-- FCLASS.H (R839). -/
  | fclassH (rd : BitVec 5) (rs1 : BitVec 5)
  /-- FMV.X.W (R467). -/
  | fmvXW (rd : BitVec 5) (rs1 : BitVec 5)
  /-- FMV.W.X (R468). -/
  | fmvWX (rd : BitVec 5) (rs1 : BitVec 5)
  /-- FMV.X.D (R525). -/
  | fmvXD (rd : BitVec 5) (rs1 : BitVec 5)
  /-- FMV.D.X (R526). -/
  | fmvDX (rd : BitVec 5) (rs1 : BitVec 5)
  /-- FMV.X.H (R848). -/
  | fmvXH (rd : BitVec 5) (rs1 : BitVec 5)
  /-- FMV.H.X (R849). -/
  | fmvHX (rd : BitVec 5) (rs1 : BitVec 5)
  /-- FLI.S (R651). -/
  | fliS (rd : BitVec 5) (idx : BitVec 5)
  /-- FMINM.S (R655). -/
  | fminmS (rd : BitVec 5) (rs1 : BitVec 5) (rs2 : BitVec 5)
  /-- FMAXM.S (R656). -/
  | fmaxmS (rd : BitVec 5) (rs1 : BitVec 5) (rs2 : BitVec 5)
  /-- FLEQ.S (R664). -/
  | fleqS (rd : BitVec 5) (rs1 : BitVec 5) (rs2 : BitVec 5)
  /-- FLTQ.S (R665). -/
  | fltqS (rd : BitVec 5) (rs1 : BitVec 5) (rs2 : BitVec 5)
  /-- FLI.D (R652). -/
  | fliD (rd : BitVec 5) (idx : BitVec 5)
  /-- FMINM.D (R850). -/
  | fminmD (rd : BitVec 5) (rs1 : BitVec 5) (rs2 : BitVec 5)
  /-- FMAXM.D (R851). -/
  | fmaxmD (rd : BitVec 5) (rs1 : BitVec 5) (rs2 : BitVec 5)
  /-- FLEQ.D (R854). -/
  | fleqD (rd : BitVec 5) (rs1 : BitVec 5) (rs2 : BitVec 5)
  /-- FLTQ.D (R855). -/
  | fltqD (rd : BitVec 5) (rs1 : BitVec 5) (rs2 : BitVec 5)
  /-- FLI.H (R653). -/
  | fliH (rd : BitVec 5) (idx : BitVec 5)
  /-- FMINM.H (R856). -/
  | fminmH (rd : BitVec 5) (rs1 : BitVec 5) (rs2 : BitVec 5)
  /-- FMAXM.H (R857). -/
  | fmaxmH (rd : BitVec 5) (rs1 : BitVec 5) (rs2 : BitVec 5)
  /-- FLEQ.H (R860). -/
  | fleqH (rd : BitVec 5) (rs1 : BitVec 5) (rs2 : BitVec 5)
  /-- FLTQ.H (R861). -/
  | fltqH (rd : BitVec 5) (rs1 : BitVec 5) (rs2 : BitVec 5)
  /-- FLI.Q (R654). -/
  | fliQ (rd : BitVec 5) (idx : BitVec 5)
  /-- FMINM.Q (R862). -/
  | fminmQ (rd : BitVec 5) (rs1 : BitVec 5) (rs2 : BitVec 5)
  /-- FMAXM.Q (R863). -/
  | fmaxmQ (rd : BitVec 5) (rs1 : BitVec 5) (rs2 : BitVec 5)
  /-- FLEQ.Q (R866). -/
  | fleqQ (rd : BitVec 5) (rs1 : BitVec 5) (rs2 : BitVec 5)
  /-- FLTQ.Q (R867). -/
  | fltqQ (rd : BitVec 5) (rs1 : BitVec 5) (rs2 : BitVec 5)
  /-- FCVTMOD.W.D (R659). -/
  | fcvtmodWD (rd : BitVec 5) (rs1 : BitVec 5)
  /-- FMVH.X.D (R660). -/
  | fmvhXD (rd : BitVec 5) (rs1 : BitVec 5)
  /-- FMVP.D.X (R661). -/
  | fmvpDX (rd : BitVec 5) (rs1 : BitVec 5) (rs2 : BitVec 5)
  /-- FMVH.X.Q (R662). -/
  | fmvhXQ (rd : BitVec 5) (rs1 : BitVec 5)
  /-- FMVP.Q.X (R663). -/
  | fmvpQX (rd : BitVec 5) (rs1 : BitVec 5) (rs2 : BitVec 5)
  /-- PREFETCH.I (R681). -/
  | prefetchI (rs1 : BitVec 5) (off : BitVec 7)
  /-- PREFETCH.R (R682). -/
  | prefetchR (rs1 : BitVec 5) (off : BitVec 7)
  /-- PREFETCH.W (R683). -/
  | prefetchW (rs1 : BitVec 5) (off : BitVec 7)
  /-- WRS.NTO (R691). -/
  | wrsNto
  /-- WRS.STO (R692). -/
  | wrsSto
  /-- MOP.R.0 (R620). -/
  | mopR0 (rd : BitVec 5) (rs1 : BitVec 5)
  /-- MOP.R.1 (R620). -/
  | mopR1 (rd : BitVec 5) (rs1 : BitVec 5)
  /-- MOP.R.2 (R620). -/
  | mopR2 (rd : BitVec 5) (rs1 : BitVec 5)
  /-- MOP.R.3 (R620). -/
  | mopR3 (rd : BitVec 5) (rs1 : BitVec 5)
  /-- MOP.R.4 (R620). -/
  | mopR4 (rd : BitVec 5) (rs1 : BitVec 5)
  /-- MOP.R.5 (R620). -/
  | mopR5 (rd : BitVec 5) (rs1 : BitVec 5)
  /-- MOP.R.6 (R620). -/
  | mopR6 (rd : BitVec 5) (rs1 : BitVec 5)
  /-- MOP.R.7 (R620). -/
  | mopR7 (rd : BitVec 5) (rs1 : BitVec 5)
  /-- MOP.R.8 (R620). -/
  | mopR8 (rd : BitVec 5) (rs1 : BitVec 5)
  /-- MOP.R.9 (R620). -/
  | mopR9 (rd : BitVec 5) (rs1 : BitVec 5)
  /-- MOP.R.10 (R620). -/
  | mopR10 (rd : BitVec 5) (rs1 : BitVec 5)
  /-- MOP.R.11 (R620). -/
  | mopR11 (rd : BitVec 5) (rs1 : BitVec 5)
  /-- MOP.R.12 (R620). -/
  | mopR12 (rd : BitVec 5) (rs1 : BitVec 5)
  /-- MOP.R.13 (R620). -/
  | mopR13 (rd : BitVec 5) (rs1 : BitVec 5)
  /-- MOP.R.14 (R620). -/
  | mopR14 (rd : BitVec 5) (rs1 : BitVec 5)
  /-- MOP.R.15 (R620). -/
  | mopR15 (rd : BitVec 5) (rs1 : BitVec 5)
  /-- MOP.R.16 (R620). -/
  | mopR16 (rd : BitVec 5) (rs1 : BitVec 5)
  /-- MOP.R.17 (R620). -/
  | mopR17 (rd : BitVec 5) (rs1 : BitVec 5)
  /-- MOP.R.18 (R620). -/
  | mopR18 (rd : BitVec 5) (rs1 : BitVec 5)
  /-- MOP.R.19 (R620). -/
  | mopR19 (rd : BitVec 5) (rs1 : BitVec 5)
  /-- MOP.R.20 (R620). -/
  | mopR20 (rd : BitVec 5) (rs1 : BitVec 5)
  /-- MOP.R.21 (R620). -/
  | mopR21 (rd : BitVec 5) (rs1 : BitVec 5)
  /-- MOP.R.22 (R620). -/
  | mopR22 (rd : BitVec 5) (rs1 : BitVec 5)
  /-- MOP.R.23 (R620). -/
  | mopR23 (rd : BitVec 5) (rs1 : BitVec 5)
  /-- MOP.R.24 (R620). -/
  | mopR24 (rd : BitVec 5) (rs1 : BitVec 5)
  /-- MOP.R.25 (R620). -/
  | mopR25 (rd : BitVec 5) (rs1 : BitVec 5)
  /-- MOP.R.26 (R620). -/
  | mopR26 (rd : BitVec 5) (rs1 : BitVec 5)
  /-- MOP.R.27 (R620). -/
  | mopR27 (rd : BitVec 5) (rs1 : BitVec 5)
  /-- MOP.R.28 (R620). -/
  | mopR28 (rd : BitVec 5) (rs1 : BitVec 5)
  /-- MOP.R.29 (R620). -/
  | mopR29 (rd : BitVec 5) (rs1 : BitVec 5)
  /-- MOP.R.30 (R620). -/
  | mopR30 (rd : BitVec 5) (rs1 : BitVec 5)
  /-- MOP.R.31 (R620). -/
  | mopR31 (rd : BitVec 5) (rs1 : BitVec 5)
  /-- MOP.RR.0 (R621). -/
  | mopRr0 (rd : BitVec 5) (rs1 : BitVec 5) (rs2 : BitVec 5)
  /-- MOP.RR.1 (R621). -/
  | mopRr1 (rd : BitVec 5) (rs1 : BitVec 5) (rs2 : BitVec 5)
  /-- MOP.RR.2 (R621). -/
  | mopRr2 (rd : BitVec 5) (rs1 : BitVec 5) (rs2 : BitVec 5)
  /-- MOP.RR.3 (R621). -/
  | mopRr3 (rd : BitVec 5) (rs1 : BitVec 5) (rs2 : BitVec 5)
  /-- MOP.RR.4 (R621). -/
  | mopRr4 (rd : BitVec 5) (rs1 : BitVec 5) (rs2 : BitVec 5)
  /-- MOP.RR.5 (R621). -/
  | mopRr5 (rd : BitVec 5) (rs1 : BitVec 5) (rs2 : BitVec 5)
  /-- MOP.RR.6 (R621). -/
  | mopRr6 (rd : BitVec 5) (rs1 : BitVec 5) (rs2 : BitVec 5)
  /-- MOP.RR.7 (R621). -/
  | mopRr7 (rd : BitVec 5) (rs1 : BitVec 5) (rs2 : BitVec 5)
  /-- C.ILLEGAL (R612). -/
  | cIllegal
  /-- C.ADDI4SPN (R600). -/
  | cAddi4spn (rdp : BitVec 3) (nzuimm : BitVec 8)
  /-- C.FLD (R582). -/
  | cFld (rdp : BitVec 3) (rs1p : BitVec 3) (uimm : BitVec 5)
  /-- C.LQ (R580). -/
  | cLq (rdp : BitVec 3) (rs1p : BitVec 3) (uimm : BitVec 5)
  /-- C.LW (R578). -/
  | cLw (rdp : BitVec 3) (rs1p : BitVec 3) (uimm : BitVec 5)
  /-- C.FLW (R581). -/
  | cFlw (rdp : BitVec 3) (rs1p : BitVec 3) (uimm : BitVec 5)
  /-- C.LD (R579). -/
  | cLd (rdp : BitVec 3) (rs1p : BitVec 3) (uimm : BitVec 5)
  /-- C.FSD (R587). -/
  | cFsd (rs1p : BitVec 3) (rs2p : BitVec 3) (uimm : BitVec 5)
  /-- C.SQ (R585). -/
  | cSq (rs1p : BitVec 3) (rs2p : BitVec 3) (uimm : BitVec 5)
  /-- C.SW (R583). -/
  | cSw (rs1p : BitVec 3) (rs2p : BitVec 3) (uimm : BitVec 5)
  /-- C.FSW (R586). -/
  | cFsw (rs1p : BitVec 3) (rs2p : BitVec 3) (uimm : BitVec 5)
  /-- C.SD (R584). -/
  | cSd (rs1p : BitVec 3) (rs2p : BitVec 3) (uimm : BitVec 5)
  /-- C.NOP (R613). -/
  | cNop (imm : BitVec 6)
  /-- C.ADDI (R597). -/
  | cAddi (rd : BitVec 5) (imm : BitVec 6)
  /-- C.JAL (R590). -/
  | cJal (off : BitVec 11)
  /-- C.ADDIW (R598). -/
  | cAddiw (rd : BitVec 5) (imm : BitVec 6)
  /-- C.LI (R595). -/
  | cLi (rd : BitVec 5) (imm : BitVec 6)
  /-- C.ADDI16SP (R599). -/
  | cAddi16sp (nzimm : BitVec 6)
  /-- C.LUI (R596). -/
  | cLui (rd : BitVec 5) (imm : BitVec 6)
  /-- C.MOP.1 (R635). -/
  | cMop1
  /-- C.MOP.3 (R635). -/
  | cMop3
  /-- C.MOP.5 (R635). -/
  | cMop5
  /-- C.MOP.7 (R635). -/
  | cMop7
  /-- C.MOP.9 (R635). -/
  | cMop9
  /-- C.MOP.11 (R635). -/
  | cMop11
  /-- C.MOP.13 (R635). -/
  | cMop13
  /-- C.MOP.15 (R635). -/
  | cMop15
  /-- C.SRLI (R602). -/
  | cSrli (rdp : BitVec 3) (shamt : BitVec 6)
  /-- C.SRAI (R603). -/
  | cSrai (rdp : BitVec 3) (shamt : BitVec 6)
  /-- C.ANDI (R604). -/
  | cAndi (rdp : BitVec 3) (imm : BitVec 6)
  /-- C.SUB (R610). -/
  | cSub (rdp : BitVec 3) (rs2p : BitVec 3)
  /-- C.XOR (R609). -/
  | cXor (rdp : BitVec 3) (rs2p : BitVec 3)
  /-- C.OR (R608). -/
  | cOr (rdp : BitVec 3) (rs2p : BitVec 3)
  /-- C.AND (R607). -/
  | cAnd (rdp : BitVec 3) (rs2p : BitVec 3)
  /-- C.SUBW (R611). -/
  | cSubw (rdp : BitVec 3) (rs2p : BitVec 3)
  /-- C.ADDW (R611). -/
  | cAddw (rdp : BitVec 3) (rs2p : BitVec 3)
  /-- C.J (R589). -/
  | cJ (off : BitVec 11)
  /-- C.BEQZ (R593). -/
  | cBeqz (rs1p : BitVec 3) (off : BitVec 8)
  /-- C.BNEZ (R594). -/
  | cBnez (rs1p : BitVec 3) (off : BitVec 8)
  /-- C.SLLI (R601). -/
  | cSlli (rd : BitVec 5) (shamt : BitVec 6)
  /-- C.FLDSP (R570). -/
  | cFldsp (rd : BitVec 5) (uimm : BitVec 6)
  /-- C.LQSP (R568). -/
  | cLqsp (rd : BitVec 5) (uimm : BitVec 6)
  /-- C.LWSP (R566). -/
  | cLwsp (rd : BitVec 5) (uimm : BitVec 6)
  /-- C.FLWSP (R569). -/
  | cFlwsp (rd : BitVec 5) (uimm : BitVec 6)
  /-- C.LDSP (R567). -/
  | cLdsp (rd : BitVec 5) (uimm : BitVec 6)
  /-- C.JR (R591). -/
  | cJr (rs1 : BitVec 5)
  /-- C.MV (R605). -/
  | cMv (rd : BitVec 5) (rs2 : BitVec 5)
  /-- C.EBREAK (R614). -/
  | cEbreak
  /-- C.JALR (R592). -/
  | cJalr (rs1 : BitVec 5)
  /-- C.ADD (R606). -/
  | cAdd (rd : BitVec 5) (rs2 : BitVec 5)
  /-- C.FSDSP (R575). -/
  | cFsdsp (rs2 : BitVec 5) (uimm : BitVec 6)
  /-- C.SQSP (R573). -/
  | cSqsp (rs2 : BitVec 5) (uimm : BitVec 6)
  /-- C.SWSP (R571). -/
  | cSwsp (rs2 : BitVec 5) (uimm : BitVec 6)
  /-- C.FSWSP (R574). -/
  | cFswsp (rs2 : BitVec 5) (uimm : BitVec 6)
  /-- C.SDSP (R572). -/
  | cSdsp (rs2 : BitVec 5) (uimm : BitVec 6)
  /-- C.LBU (R705). -/
  | cLbu (rdp : BitVec 3) (rs1p : BitVec 3) (uimm : BitVec 2)
  /-- C.LHU (R706). -/
  | cLhu (rdp : BitVec 3) (rs1p : BitVec 3) (uimm : BitVec 1)
  /-- C.LH (R707). -/
  | cLh (rdp : BitVec 3) (rs1p : BitVec 3) (uimm : BitVec 1)
  /-- C.SB (R708). -/
  | cSb (rs1p : BitVec 3) (rs2p : BitVec 3) (uimm : BitVec 2)
  /-- C.SH (R709). -/
  | cSh (rs1p : BitVec 3) (rs2p : BitVec 3) (uimm : BitVec 1)
  /-- C.ZEXT.B (R710). -/
  | cZextB (rdp : BitVec 3)
  /-- C.SEXT.B (R711). -/
  | cSextB (rdp : BitVec 3)
  /-- C.ZEXT.H (R712). -/
  | cZextH (rdp : BitVec 3)
  /-- C.SEXT.H (R713). -/
  | cSextH (rdp : BitVec 3)
  /-- C.ZEXT.W (R714). -/
  | cZextW (rdp : BitVec 3)
  /-- C.NOT (R715). -/
  | cNot (rdp : BitVec 3)
  /-- C.MUL (R716). -/
  | cMul (rdp : BitVec 3) (rs2p : BitVec 3)
  /-- CM.PUSH (R726). -/
  | cmPush (rlist : BitVec 4) (spimm : BitVec 2)
  /-- CM.POP (R727). -/
  | cmPop (rlist : BitVec 4) (spimm : BitVec 2)
  /-- CM.POPRETZ (R728). -/
  | cmPopretz (rlist : BitVec 4) (spimm : BitVec 2)
  /-- CM.POPRET (R729). -/
  | cmPopret (rlist : BitVec 4) (spimm : BitVec 2)
  /-- CM.MVSA01 (R730). -/
  | cmMvsa01 (r1s : BitVec 3) (r2s : BitVec 3)
  /-- CM.MVA01S (R731). -/
  | cmMva01s (r1s : BitVec 3) (r2s : BitVec 3)
  deriving DecidableEq, Repr

end Sys2Proof
end

