-- ==== Sys2Proof/WellFormed.lean ====
section
/-! DEFINITION. Well-formedness: which configurations are legal (00_scope.md R10, R11; 49_zc.md R701), and which
instructions a configuration has: the extension and the XLEN of its row of the opcode table, the register numbers of
an E base (41_zifencei_hints_rv32e.md R305), the even register pairs of RV32Zdinx (48_zfinx_zfa_cmo_zawrs.md R643) and
the reserved values of its fields. Everything refused here is a reserved encoding of that configuration
(30_encoding.md R190). -/

namespace Sys2Proof

/-- A module requires another (00_scope.md R10). -/
def implies (p q : Bool) : Bool := !p || q

/-- The dependences of 00_scope.md R10 and the composition rules of 49_zc.md R701. -/
def ExtSet.closed (e : ExtSet) (xlen : Xlen) : Bool :=
  implies e.m e.zmmul && implies e.f e.zicsr && implies e.d e.f && implies e.q e.d &&
  implies e.zfh (e.f && e.zfhmin) && implies e.zfhmin e.f && implies e.zfa e.f &&
  implies e.zfinx e.zicsr && implies e.zdinx e.zfinx && implies e.zhinx e.zfinx &&
  implies e.zhinxmin e.zfinx && implies e.zicntr e.zicsr && implies e.zihpm e.zicsr &&
  implies e.zcmop e.zca && implies e.c e.zca &&
  implies (e.c && e.f && xlen == .rv32) e.zcf && implies (e.c && e.d) e.zcd &&
  implies e.zcf (e.zca && e.f) && implies e.zcd (e.zca && e.d) && implies e.zcb e.zca &&
  implies e.zcmp e.zca && implies e.zcmt (e.zca && e.zicsr) &&
  implies e.zce (e.zca && e.zcb && e.zcmp && e.zcmt) && implies (e.zce && e.f && xlen == .rv32) e.zcf

/-- No extension but C and Zca, whose RV128 forms 47_c_zimop_zcmop.md gives: with XLEN = 128 a model has exactly the
instructions of 42_rv64i_rv128i.md R340 (93_implementation_defined.md section 2). The tag Ztso adds no instruction. -/
def ExtSet.onlyC (e : ExtSet) : Bool := e == { c := e.c, zca := e.zca, ztso := e.ztso }

/-- The exclusions of 00_scope.md R11 and 49_zc.md R701(d), and those of XLEN = 128. -/
def ExtSet.compatible (e : ExtSet) (xlen : Xlen) : Bool :=
  !(e.zfinx && e.f) && !(e.zcd && (e.zcmp || e.zcmt)) && !(e.zcf && xlen != .rv32) &&
  implies (xlen == .rv128) e.onlyC

/-- Whether a region's attributes are uniform in blocks of 2^k bytes: its ends are block boundaries
(92_eei_decisions.md D4). -/
def Region.blockUniform (r : Region) (k : Nat) : Bool := r.base % 2 ^ k == 0 && r.size % 2 ^ k == 0

/-- Whether a misaligned atomicity granule, where a region has one, is a power of two (20_memory.md R79). -/
def Region.magOk (r : Region) : Bool :=
  match r.mag with
  | none => true
  | some g => g == 2 ^ g.log2

/-- The traps an environment may turn into a service: ECALL and EBREAK by a requested trap, never by an invisible one, and
every other exception by an invisible one, never by request (60_exceptions.md R751, R761). -/
def TrapPolicy.legal (t : TrapPolicy) : Bool :=
  t.environmentCall != .invisible && t.breakpoint != .invisible &&
  t.instructionAddressMisaligned != .requested && t.instructionAccessFault != .requested &&
  t.illegalInstruction != .requested && t.loadAddressMisaligned != .requested &&
  t.loadAccessFault != .requested && t.storeAddressMisaligned != .requested &&
  t.storeAccessFault != .requested && t.interrupt != .requested

/-- The combinations a configuration must satisfy (00_scope.md R7, R10, R11; 49_zc.md R701; 92_eei_decisions.md D4, D12).
The E bases are RV32E and RV64E only (10_state.md R31). -/
def Config.legal (c : Config) : Bool :=
  c.ext.closed c.xlen && c.ext.compatible c.xlen && !(c.embedded && c.xlen == .rv128) && c.trap.legal &&
  c.regions.all Region.magOk &&
  (!(c.ext.zicbom || c.ext.zicbop) || c.regions.all (Region.blockUniform · c.cblockMLog2)) &&
  (!c.ext.zicboz || c.regions.all (Region.blockUniform · c.cblockZLog2))

/-- A register number names an existing x register: on an E base only x0..x15 exist (41_zifencei_hints_rv32e.md R305). -/
def Config.xReg (c : Config) (r : Reg) : Bool := !c.embedded || r < 16

/-- A register number may hold a floating-point operand of `w` bits. With Zfinx it is an x register, and an even one
where the operand needs a pair (48_zfinx_zfa_cmo_zawrs.md R640, R643). -/
def Config.fpReg (c : Config) (w : Nat) (r : Reg) : Bool :=
  !c.ext.zfinx || (c.xReg r && (w ≤ c.bits || r.toNat % 2 == 0))

/-- A Zcmp register list: 0 to 3 are reserved, and on an E base every list past s2 (49_zc.md R719-R720). -/
def Config.rlistOk (c : Config) (rlist : BitVec 4) : Bool := !(rlist < 4) && (!c.embedded || rlist < 7)

/-- A Zcmp sreg specifier: on an E base only s0 and s1 exist (49_zc.md R703). -/
def Config.sregOk (c : Config) (r : Reg3) : Bool := !c.embedded || r < 2

/-- The register fields of ADD or C.ADD whose bits are an NTL hint of the configuration (41_zifencei_hints_rv32e.md
R293-R294). -/
def Config.isNtl (c : Config) (rd rs1 rs2 : Reg) : Bool :=
  c.ext.zihintntl && rd == 0 && rs1 == 0 && (2 : Reg) ≤ rs2 && rs2 ≤ (5 : Reg)

/-- The fields of ORI whose bits are a prefetch of the configuration (48_zfinx_zfa_cmo_zawrs.md R680). -/
def Config.isPrefetch (c : Config) (rd : Reg) (imm : BitVec 12) : Bool :=
  c.ext.zicbop && rd == 0 &&
    (imm.extractLsb' 0 5 == 0 || imm.extractLsb' 0 5 == 1 || imm.extractLsb' 0 5 == 3)

/-- The fields of FENCE whose bits are FENCE.TSO, or PAUSE in a configuration that has it (40_rv32i.md R275;
41_zifencei_hints_rv32e.md R296). -/
def Config.isOtherFence (c : Config) (fm pred succ : BitVec 4) (rs1 rd : Reg) : Bool :=
  (fm == 8 && pred == 3 && succ == 3) ||
    (c.ext.zihintpause && fm == 0 && pred == 1 && succ == 0 && rs1 == 0 && rd == 0)

/-- The instruction exists in the configuration, its fields hold no reserved value, and its bits are not those of a more
specific row (30_encoding.md R208). -/
def Instr.wf (c : Config) : Instr → Bool

  | .addi rd rs1 _ => c.xReg rd && c.xReg rs1
  | .slti rd rs1 _ => c.xReg rd && c.xReg rs1
  | .sltiu rd rs1 _ => c.xReg rd && c.xReg rs1
  | .xori rd rs1 _ => c.xReg rd && c.xReg rs1
  | .ori rd rs1 imm => c.xReg rd && c.xReg rs1 && !c.isPrefetch rd imm
  | .andi rd rs1 _ => c.xReg rd && c.xReg rs1
  | .slliRv32 rd rs1 _ => c.xlen == .rv32 && c.xReg rd && c.xReg rs1
  | .slliRv64 rd rs1 _ => c.xlen == .rv64 && c.xReg rd && c.xReg rs1
  | .slliRv128 rd rs1 _ => c.xlen == .rv128 && c.xReg rd && c.xReg rs1
  | .srliRv32 rd rs1 _ => c.xlen == .rv32 && c.xReg rd && c.xReg rs1
  | .srliRv64 rd rs1 _ => c.xlen == .rv64 && c.xReg rd && c.xReg rs1
  | .srliRv128 rd rs1 _ => c.xlen == .rv128 && c.xReg rd && c.xReg rs1
  | .sraiRv32 rd rs1 _ => c.xlen == .rv32 && c.xReg rd && c.xReg rs1
  | .sraiRv64 rd rs1 _ => c.xlen == .rv64 && c.xReg rd && c.xReg rs1
  | .sraiRv128 rd rs1 _ => c.xlen == .rv128 && c.xReg rd && c.xReg rs1
  | .lui rd _ => c.xReg rd
  | .auipc rd _ => c.xReg rd
  | .add rd rs1 rs2 => c.xReg rd && c.xReg rs1 && c.xReg rs2 && !c.isNtl rd rs1 rs2
  | .sub rd rs1 rs2 => c.xReg rd && c.xReg rs1 && c.xReg rs2
  | .sll rd rs1 rs2 => c.xReg rd && c.xReg rs1 && c.xReg rs2
  | .slt rd rs1 rs2 => c.xReg rd && c.xReg rs1 && c.xReg rs2
  | .sltu rd rs1 rs2 => c.xReg rd && c.xReg rs1 && c.xReg rs2
  | .xor rd rs1 rs2 => c.xReg rd && c.xReg rs1 && c.xReg rs2
  | .srl rd rs1 rs2 => c.xReg rd && c.xReg rs1 && c.xReg rs2
  | .sra rd rs1 rs2 => c.xReg rd && c.xReg rs1 && c.xReg rs2
  | .or rd rs1 rs2 => c.xReg rd && c.xReg rs1 && c.xReg rs2
  | .and rd rs1 rs2 => c.xReg rd && c.xReg rs1 && c.xReg rs2
  | .jal rd _ => c.xReg rd
  | .jalr rd rs1 _ => c.xReg rd && c.xReg rs1
  | .beq rs1 rs2 _ => c.xReg rs1 && c.xReg rs2
  | .bne rs1 rs2 _ => c.xReg rs1 && c.xReg rs2
  | .blt rs1 rs2 _ => c.xReg rs1 && c.xReg rs2
  | .bge rs1 rs2 _ => c.xReg rs1 && c.xReg rs2
  | .bltu rs1 rs2 _ => c.xReg rs1 && c.xReg rs2
  | .bgeu rs1 rs2 _ => c.xReg rs1 && c.xReg rs2
  | .lb rd rs1 _ => c.xReg rd && c.xReg rs1
  | .lh rd rs1 _ => c.xReg rd && c.xReg rs1
  | .lw rd rs1 _ => c.xReg rd && c.xReg rs1
  | .lbu rd rs1 _ => c.xReg rd && c.xReg rs1
  | .lhu rd rs1 _ => c.xReg rd && c.xReg rs1
  | .sb rs1 rs2 _ => c.xReg rs1 && c.xReg rs2
  | .sh rs1 rs2 _ => c.xReg rs1 && c.xReg rs2
  | .sw rs1 rs2 _ => c.xReg rs1 && c.xReg rs2
  | .fence fm pred succ rs1 rd => !c.isOtherFence fm pred succ rs1 rd
  | .fenceTso _ _ => true
  | .pause => c.ext.zihintpause
  | .ecall => true
  | .ebreak => true
  | .fenceI _ _ _ => c.ext.zifencei
  | .ntlP1 => c.ext.zihintntl
  | .ntlPall => c.ext.zihintntl
  | .ntlS1 => c.ext.zihintntl
  | .ntlAll => c.ext.zihintntl
  | .cNtlP1 => (c.ext.zihintntl && c.ext.zca)
  | .cNtlPall => (c.ext.zihintntl && c.ext.zca)
  | .cNtlS1 => (c.ext.zihintntl && c.ext.zca)
  | .cNtlAll => (c.ext.zihintntl && c.ext.zca)
  | .addiw rd rs1 _ => c.xlen != .rv32 && c.xReg rd && c.xReg rs1
  | .slliw rd rs1 _ => c.xlen != .rv32 && c.xReg rd && c.xReg rs1
  | .srliw rd rs1 _ => c.xlen != .rv32 && c.xReg rd && c.xReg rs1
  | .sraiw rd rs1 _ => c.xlen != .rv32 && c.xReg rd && c.xReg rs1
  | .addw rd rs1 rs2 => c.xlen != .rv32 && c.xReg rd && c.xReg rs1 && c.xReg rs2
  | .subw rd rs1 rs2 => c.xlen != .rv32 && c.xReg rd && c.xReg rs1 && c.xReg rs2
  | .sllw rd rs1 rs2 => c.xlen != .rv32 && c.xReg rd && c.xReg rs1 && c.xReg rs2
  | .srlw rd rs1 rs2 => c.xlen != .rv32 && c.xReg rd && c.xReg rs1 && c.xReg rs2
  | .sraw rd rs1 rs2 => c.xlen != .rv32 && c.xReg rd && c.xReg rs1 && c.xReg rs2
  | .ld rd rs1 _ => c.xlen != .rv32 && c.xReg rd && c.xReg rs1
  | .lwu rd rs1 _ => c.xlen != .rv32 && c.xReg rd && c.xReg rs1
  | .sd rs1 rs2 _ => c.xlen != .rv32 && c.xReg rs1 && c.xReg rs2
  | .mul rd rs1 rs2 => (c.ext.m || c.ext.zmmul) && c.xReg rd && c.xReg rs1 && c.xReg rs2
  | .mulh rd rs1 rs2 => (c.ext.m || c.ext.zmmul) && c.xReg rd && c.xReg rs1 && c.xReg rs2
  | .mulhsu rd rs1 rs2 => (c.ext.m || c.ext.zmmul) && c.xReg rd && c.xReg rs1 && c.xReg rs2
  | .mulhu rd rs1 rs2 => (c.ext.m || c.ext.zmmul) && c.xReg rd && c.xReg rs1 && c.xReg rs2
  | .div rd rs1 rs2 => c.ext.m && c.xReg rd && c.xReg rs1 && c.xReg rs2
  | .divu rd rs1 rs2 => c.ext.m && c.xReg rd && c.xReg rs1 && c.xReg rs2
  | .rem rd rs1 rs2 => c.ext.m && c.xReg rd && c.xReg rs1 && c.xReg rs2
  | .remu rd rs1 rs2 => c.ext.m && c.xReg rd && c.xReg rs1 && c.xReg rs2
  | .mulw rd rs1 rs2 => (c.ext.m || c.ext.zmmul) && c.xlen == .rv64 && c.xReg rd && c.xReg rs1 && c.xReg rs2
  | .divw rd rs1 rs2 => c.ext.m && c.xlen == .rv64 && c.xReg rd && c.xReg rs1 && c.xReg rs2
  | .divuw rd rs1 rs2 => c.ext.m && c.xlen == .rv64 && c.xReg rd && c.xReg rs1 && c.xReg rs2
  | .remw rd rs1 rs2 => c.ext.m && c.xlen == .rv64 && c.xReg rd && c.xReg rs1 && c.xReg rs2
  | .remuw rd rs1 rs2 => c.ext.m && c.xlen == .rv64 && c.xReg rd && c.xReg rs1 && c.xReg rs2
  | .lrW rd rs1 _ _ => c.ext.a && c.xReg rd && c.xReg rs1
  | .scW rd rs1 rs2 _ _ => c.ext.a && c.xReg rd && c.xReg rs1 && c.xReg rs2
  | .lrD rd rs1 _ _ => c.ext.a && c.xlen == .rv64 && c.xReg rd && c.xReg rs1
  | .scD rd rs1 rs2 _ _ => c.ext.a && c.xlen == .rv64 && c.xReg rd && c.xReg rs1 && c.xReg rs2
  | .amoswapW rd rs1 rs2 _ _ => c.ext.a && c.xReg rd && c.xReg rs1 && c.xReg rs2
  | .amoswapD rd rs1 rs2 _ _ => c.ext.a && c.xlen == .rv64 && c.xReg rd && c.xReg rs1 && c.xReg rs2
  | .amoaddW rd rs1 rs2 _ _ => c.ext.a && c.xReg rd && c.xReg rs1 && c.xReg rs2
  | .amoaddD rd rs1 rs2 _ _ => c.ext.a && c.xlen == .rv64 && c.xReg rd && c.xReg rs1 && c.xReg rs2
  | .amoxorW rd rs1 rs2 _ _ => c.ext.a && c.xReg rd && c.xReg rs1 && c.xReg rs2
  | .amoxorD rd rs1 rs2 _ _ => c.ext.a && c.xlen == .rv64 && c.xReg rd && c.xReg rs1 && c.xReg rs2
  | .amoandW rd rs1 rs2 _ _ => c.ext.a && c.xReg rd && c.xReg rs1 && c.xReg rs2
  | .amoandD rd rs1 rs2 _ _ => c.ext.a && c.xlen == .rv64 && c.xReg rd && c.xReg rs1 && c.xReg rs2
  | .amoorW rd rs1 rs2 _ _ => c.ext.a && c.xReg rd && c.xReg rs1 && c.xReg rs2
  | .amoorD rd rs1 rs2 _ _ => c.ext.a && c.xlen == .rv64 && c.xReg rd && c.xReg rs1 && c.xReg rs2
  | .amominW rd rs1 rs2 _ _ => c.ext.a && c.xReg rd && c.xReg rs1 && c.xReg rs2
  | .amominD rd rs1 rs2 _ _ => c.ext.a && c.xlen == .rv64 && c.xReg rd && c.xReg rs1 && c.xReg rs2
  | .amomaxW rd rs1 rs2 _ _ => c.ext.a && c.xReg rd && c.xReg rs1 && c.xReg rs2
  | .amomaxD rd rs1 rs2 _ _ => c.ext.a && c.xlen == .rv64 && c.xReg rd && c.xReg rs1 && c.xReg rs2
  | .amominuW rd rs1 rs2 _ _ => c.ext.a && c.xReg rd && c.xReg rs1 && c.xReg rs2
  | .amominuD rd rs1 rs2 _ _ => c.ext.a && c.xlen == .rv64 && c.xReg rd && c.xReg rs1 && c.xReg rs2
  | .amomaxuW rd rs1 rs2 _ _ => c.ext.a && c.xReg rd && c.xReg rs1 && c.xReg rs2
  | .amomaxuD rd rs1 rs2 _ _ => c.ext.a && c.xlen == .rv64 && c.xReg rd && c.xReg rs1 && c.xReg rs2
  | .csrrw rd rs1 _ => c.ext.zicsr && c.xReg rd && c.xReg rs1
  | .csrrs rd rs1 _ => c.ext.zicsr && c.xReg rd && c.xReg rs1
  | .csrrc rd rs1 _ => c.ext.zicsr && c.xReg rd && c.xReg rs1
  | .csrrwi rd _ _ => c.ext.zicsr && c.xReg rd
  | .csrrsi rd _ _ => c.ext.zicsr && c.xReg rd
  | .csrrci rd _ _ => c.ext.zicsr && c.xReg rd
  | .flw _ rs1 _ => c.ext.f && c.xReg rs1
  | .fsw rs1 _ _ => c.ext.f && c.xReg rs1
  | .fmaddS rd rs1 rs2 rs3 _ => (c.ext.f || c.ext.zfinx) && c.fpReg 32 rd && c.fpReg 32 rs1 && c.fpReg 32 rs2 && c.fpReg 32 rs3
  | .fmsubS rd rs1 rs2 rs3 _ => (c.ext.f || c.ext.zfinx) && c.fpReg 32 rd && c.fpReg 32 rs1 && c.fpReg 32 rs2 && c.fpReg 32 rs3
  | .fnmsubS rd rs1 rs2 rs3 _ => (c.ext.f || c.ext.zfinx) && c.fpReg 32 rd && c.fpReg 32 rs1 && c.fpReg 32 rs2 && c.fpReg 32 rs3
  | .fnmaddS rd rs1 rs2 rs3 _ => (c.ext.f || c.ext.zfinx) && c.fpReg 32 rd && c.fpReg 32 rs1 && c.fpReg 32 rs2 && c.fpReg 32 rs3
  | .faddS rd rs1 rs2 _ => (c.ext.f || c.ext.zfinx) && c.fpReg 32 rd && c.fpReg 32 rs1 && c.fpReg 32 rs2
  | .fsubS rd rs1 rs2 _ => (c.ext.f || c.ext.zfinx) && c.fpReg 32 rd && c.fpReg 32 rs1 && c.fpReg 32 rs2
  | .fmulS rd rs1 rs2 _ => (c.ext.f || c.ext.zfinx) && c.fpReg 32 rd && c.fpReg 32 rs1 && c.fpReg 32 rs2
  | .fdivS rd rs1 rs2 _ => (c.ext.f || c.ext.zfinx) && c.fpReg 32 rd && c.fpReg 32 rs1 && c.fpReg 32 rs2
  | .fsqrtS rd rs1 _ => (c.ext.f || c.ext.zfinx) && c.fpReg 32 rd && c.fpReg 32 rs1
  | .fsgnjS rd rs1 rs2 => (c.ext.f || c.ext.zfinx) && c.fpReg 32 rd && c.fpReg 32 rs1 && c.fpReg 32 rs2
  | .fsgnjnS rd rs1 rs2 => (c.ext.f || c.ext.zfinx) && c.fpReg 32 rd && c.fpReg 32 rs1 && c.fpReg 32 rs2
  | .fsgnjxS rd rs1 rs2 => (c.ext.f || c.ext.zfinx) && c.fpReg 32 rd && c.fpReg 32 rs1 && c.fpReg 32 rs2
  | .fminS rd rs1 rs2 => (c.ext.f || c.ext.zfinx) && c.fpReg 32 rd && c.fpReg 32 rs1 && c.fpReg 32 rs2
  | .fmaxS rd rs1 rs2 => (c.ext.f || c.ext.zfinx) && c.fpReg 32 rd && c.fpReg 32 rs1 && c.fpReg 32 rs2
  | .feqS rd rs1 rs2 => (c.ext.f || c.ext.zfinx) && c.xReg rd && c.fpReg 32 rs1 && c.fpReg 32 rs2
  | .fltS rd rs1 rs2 => (c.ext.f || c.ext.zfinx) && c.xReg rd && c.fpReg 32 rs1 && c.fpReg 32 rs2
  | .fleS rd rs1 rs2 => (c.ext.f || c.ext.zfinx) && c.xReg rd && c.fpReg 32 rs1 && c.fpReg 32 rs2
  | .fclassS rd rs1 => (c.ext.f || c.ext.zfinx) && c.xReg rd && c.fpReg 32 rs1
  | .fcvtWS rd rs1 _ => (c.ext.f || c.ext.zfinx) && c.xReg rd && c.fpReg 32 rs1
  | .fcvtSW rd rs1 _ => (c.ext.f || c.ext.zfinx) && c.fpReg 32 rd && c.xReg rs1
  | .fcvtWuS rd rs1 _ => (c.ext.f || c.ext.zfinx) && c.xReg rd && c.fpReg 32 rs1
  | .fcvtSWu rd rs1 _ => (c.ext.f || c.ext.zfinx) && c.fpReg 32 rd && c.xReg rs1
  | .fcvtLS rd rs1 _ => (c.ext.f || c.ext.zfinx) && c.xlen == .rv64 && c.xReg rd && c.fpReg 32 rs1
  | .fcvtSL rd rs1 _ => (c.ext.f || c.ext.zfinx) && c.xlen == .rv64 && c.fpReg 32 rd && c.xReg rs1
  | .fcvtLuS rd rs1 _ => (c.ext.f || c.ext.zfinx) && c.xlen == .rv64 && c.xReg rd && c.fpReg 32 rs1
  | .fcvtSLu rd rs1 _ => (c.ext.f || c.ext.zfinx) && c.xlen == .rv64 && c.fpReg 32 rd && c.xReg rs1
  | .fld _ rs1 _ => c.ext.d && c.xReg rs1
  | .fsd rs1 _ _ => c.ext.d && c.xReg rs1
  | .fmaddD rd rs1 rs2 rs3 _ => (c.ext.d || c.ext.zdinx) && c.fpReg 64 rd && c.fpReg 64 rs1 && c.fpReg 64 rs2 && c.fpReg 64 rs3
  | .fmsubD rd rs1 rs2 rs3 _ => (c.ext.d || c.ext.zdinx) && c.fpReg 64 rd && c.fpReg 64 rs1 && c.fpReg 64 rs2 && c.fpReg 64 rs3
  | .fnmsubD rd rs1 rs2 rs3 _ => (c.ext.d || c.ext.zdinx) && c.fpReg 64 rd && c.fpReg 64 rs1 && c.fpReg 64 rs2 && c.fpReg 64 rs3
  | .fnmaddD rd rs1 rs2 rs3 _ => (c.ext.d || c.ext.zdinx) && c.fpReg 64 rd && c.fpReg 64 rs1 && c.fpReg 64 rs2 && c.fpReg 64 rs3
  | .faddD rd rs1 rs2 _ => (c.ext.d || c.ext.zdinx) && c.fpReg 64 rd && c.fpReg 64 rs1 && c.fpReg 64 rs2
  | .fsubD rd rs1 rs2 _ => (c.ext.d || c.ext.zdinx) && c.fpReg 64 rd && c.fpReg 64 rs1 && c.fpReg 64 rs2
  | .fmulD rd rs1 rs2 _ => (c.ext.d || c.ext.zdinx) && c.fpReg 64 rd && c.fpReg 64 rs1 && c.fpReg 64 rs2
  | .fdivD rd rs1 rs2 _ => (c.ext.d || c.ext.zdinx) && c.fpReg 64 rd && c.fpReg 64 rs1 && c.fpReg 64 rs2
  | .fsqrtD rd rs1 _ => (c.ext.d || c.ext.zdinx) && c.fpReg 64 rd && c.fpReg 64 rs1
  | .fsgnjD rd rs1 rs2 => (c.ext.d || c.ext.zdinx) && c.fpReg 64 rd && c.fpReg 64 rs1 && c.fpReg 64 rs2
  | .fsgnjnD rd rs1 rs2 => (c.ext.d || c.ext.zdinx) && c.fpReg 64 rd && c.fpReg 64 rs1 && c.fpReg 64 rs2
  | .fsgnjxD rd rs1 rs2 => (c.ext.d || c.ext.zdinx) && c.fpReg 64 rd && c.fpReg 64 rs1 && c.fpReg 64 rs2
  | .fminD rd rs1 rs2 => (c.ext.d || c.ext.zdinx) && c.fpReg 64 rd && c.fpReg 64 rs1 && c.fpReg 64 rs2
  | .fmaxD rd rs1 rs2 => (c.ext.d || c.ext.zdinx) && c.fpReg 64 rd && c.fpReg 64 rs1 && c.fpReg 64 rs2
  | .feqD rd rs1 rs2 => (c.ext.d || c.ext.zdinx) && c.xReg rd && c.fpReg 64 rs1 && c.fpReg 64 rs2
  | .fltD rd rs1 rs2 => (c.ext.d || c.ext.zdinx) && c.xReg rd && c.fpReg 64 rs1 && c.fpReg 64 rs2
  | .fleD rd rs1 rs2 => (c.ext.d || c.ext.zdinx) && c.xReg rd && c.fpReg 64 rs1 && c.fpReg 64 rs2
  | .fclassD rd rs1 => (c.ext.d || c.ext.zdinx) && c.xReg rd && c.fpReg 64 rs1
  | .fcvtWD rd rs1 _ => (c.ext.d || c.ext.zdinx) && c.xReg rd && c.fpReg 64 rs1
  | .fcvtDW rd rs1 _ => (c.ext.d || c.ext.zdinx) && c.fpReg 64 rd && c.xReg rs1
  | .fcvtWuD rd rs1 _ => (c.ext.d || c.ext.zdinx) && c.xReg rd && c.fpReg 64 rs1
  | .fcvtDWu rd rs1 _ => (c.ext.d || c.ext.zdinx) && c.fpReg 64 rd && c.xReg rs1
  | .fcvtLD rd rs1 _ => (c.ext.d || c.ext.zdinx) && c.xlen == .rv64 && c.xReg rd && c.fpReg 64 rs1
  | .fcvtDL rd rs1 _ => (c.ext.d || c.ext.zdinx) && c.xlen == .rv64 && c.fpReg 64 rd && c.xReg rs1
  | .fcvtLuD rd rs1 _ => (c.ext.d || c.ext.zdinx) && c.xlen == .rv64 && c.xReg rd && c.fpReg 64 rs1
  | .fcvtDLu rd rs1 _ => (c.ext.d || c.ext.zdinx) && c.xlen == .rv64 && c.fpReg 64 rd && c.xReg rs1
  | .flq _ rs1 _ => c.ext.q && c.xReg rs1
  | .fsq rs1 _ _ => c.ext.q && c.xReg rs1
  | .fmaddQ _ _ _ _ _ => c.ext.q
  | .fmsubQ _ _ _ _ _ => c.ext.q
  | .fnmsubQ _ _ _ _ _ => c.ext.q
  | .fnmaddQ _ _ _ _ _ => c.ext.q
  | .faddQ _ _ _ _ => c.ext.q
  | .fsubQ _ _ _ _ => c.ext.q
  | .fmulQ _ _ _ _ => c.ext.q
  | .fdivQ _ _ _ _ => c.ext.q
  | .fsqrtQ _ _ _ => c.ext.q
  | .fsgnjQ _ _ _ => c.ext.q
  | .fsgnjnQ _ _ _ => c.ext.q
  | .fsgnjxQ _ _ _ => c.ext.q
  | .fminQ _ _ _ => c.ext.q
  | .fmaxQ _ _ _ => c.ext.q
  | .feqQ rd _ _ => c.ext.q && c.xReg rd
  | .fltQ rd _ _ => c.ext.q && c.xReg rd
  | .fleQ rd _ _ => c.ext.q && c.xReg rd
  | .fclassQ rd _ => c.ext.q && c.xReg rd
  | .fcvtWQ rd _ _ => c.ext.q && c.xReg rd
  | .fcvtQW _ rs1 _ => c.ext.q && c.xReg rs1
  | .fcvtWuQ rd _ _ => c.ext.q && c.xReg rd
  | .fcvtQWu _ rs1 _ => c.ext.q && c.xReg rs1
  | .fcvtLQ rd _ _ => c.ext.q && c.xlen == .rv64 && c.xReg rd
  | .fcvtQL _ rs1 _ => c.ext.q && c.xlen == .rv64 && c.xReg rs1
  | .fcvtLuQ rd _ _ => c.ext.q && c.xlen == .rv64 && c.xReg rd
  | .fcvtQLu _ rs1 _ => c.ext.q && c.xlen == .rv64 && c.xReg rs1
  | .flh _ rs1 _ => (c.ext.zfh || c.ext.zfhmin) && c.xReg rs1
  | .fsh rs1 _ _ => (c.ext.zfh || c.ext.zfhmin) && c.xReg rs1
  | .fmaddH rd rs1 rs2 rs3 _ => (c.ext.zfh || c.ext.zhinx) && c.fpReg 16 rd && c.fpReg 16 rs1 && c.fpReg 16 rs2 && c.fpReg 16 rs3
  | .fmsubH rd rs1 rs2 rs3 _ => (c.ext.zfh || c.ext.zhinx) && c.fpReg 16 rd && c.fpReg 16 rs1 && c.fpReg 16 rs2 && c.fpReg 16 rs3
  | .fnmsubH rd rs1 rs2 rs3 _ => (c.ext.zfh || c.ext.zhinx) && c.fpReg 16 rd && c.fpReg 16 rs1 && c.fpReg 16 rs2 && c.fpReg 16 rs3
  | .fnmaddH rd rs1 rs2 rs3 _ => (c.ext.zfh || c.ext.zhinx) && c.fpReg 16 rd && c.fpReg 16 rs1 && c.fpReg 16 rs2 && c.fpReg 16 rs3
  | .faddH rd rs1 rs2 _ => (c.ext.zfh || c.ext.zhinx) && c.fpReg 16 rd && c.fpReg 16 rs1 && c.fpReg 16 rs2
  | .fsubH rd rs1 rs2 _ => (c.ext.zfh || c.ext.zhinx) && c.fpReg 16 rd && c.fpReg 16 rs1 && c.fpReg 16 rs2
  | .fmulH rd rs1 rs2 _ => (c.ext.zfh || c.ext.zhinx) && c.fpReg 16 rd && c.fpReg 16 rs1 && c.fpReg 16 rs2
  | .fdivH rd rs1 rs2 _ => (c.ext.zfh || c.ext.zhinx) && c.fpReg 16 rd && c.fpReg 16 rs1 && c.fpReg 16 rs2
  | .fsqrtH rd rs1 _ => (c.ext.zfh || c.ext.zhinx) && c.fpReg 16 rd && c.fpReg 16 rs1
  | .fsgnjH rd rs1 rs2 => (c.ext.zfh || c.ext.zhinx) && c.fpReg 16 rd && c.fpReg 16 rs1 && c.fpReg 16 rs2
  | .fsgnjnH rd rs1 rs2 => (c.ext.zfh || c.ext.zhinx) && c.fpReg 16 rd && c.fpReg 16 rs1 && c.fpReg 16 rs2
  | .fsgnjxH rd rs1 rs2 => (c.ext.zfh || c.ext.zhinx) && c.fpReg 16 rd && c.fpReg 16 rs1 && c.fpReg 16 rs2
  | .fminH rd rs1 rs2 => (c.ext.zfh || c.ext.zhinx) && c.fpReg 16 rd && c.fpReg 16 rs1 && c.fpReg 16 rs2
  | .fmaxH rd rs1 rs2 => (c.ext.zfh || c.ext.zhinx) && c.fpReg 16 rd && c.fpReg 16 rs1 && c.fpReg 16 rs2
  | .feqH rd rs1 rs2 => (c.ext.zfh || c.ext.zhinx) && c.xReg rd && c.fpReg 16 rs1 && c.fpReg 16 rs2
  | .fltH rd rs1 rs2 => (c.ext.zfh || c.ext.zhinx) && c.xReg rd && c.fpReg 16 rs1 && c.fpReg 16 rs2
  | .fleH rd rs1 rs2 => (c.ext.zfh || c.ext.zhinx) && c.xReg rd && c.fpReg 16 rs1 && c.fpReg 16 rs2
  | .fclassH rd rs1 => (c.ext.zfh || c.ext.zhinx) && c.xReg rd && c.fpReg 16 rs1
  | .fcvtWH rd rs1 _ => (c.ext.zfh || c.ext.zhinx) && c.xReg rd && c.fpReg 16 rs1
  | .fcvtHW rd rs1 _ => (c.ext.zfh || c.ext.zhinx) && c.fpReg 16 rd && c.xReg rs1
  | .fcvtWuH rd rs1 _ => (c.ext.zfh || c.ext.zhinx) && c.xReg rd && c.fpReg 16 rs1
  | .fcvtHWu rd rs1 _ => (c.ext.zfh || c.ext.zhinx) && c.fpReg 16 rd && c.xReg rs1
  | .fcvtLH rd rs1 _ => (c.ext.zfh || c.ext.zhinx) && c.xlen == .rv64 && c.xReg rd && c.fpReg 16 rs1
  | .fcvtHL rd rs1 _ => (c.ext.zfh || c.ext.zhinx) && c.xlen == .rv64 && c.fpReg 16 rd && c.xReg rs1
  | .fcvtLuH rd rs1 _ => (c.ext.zfh || c.ext.zhinx) && c.xlen == .rv64 && c.xReg rd && c.fpReg 16 rs1
  | .fcvtHLu rd rs1 _ => (c.ext.zfh || c.ext.zhinx) && c.xlen == .rv64 && c.fpReg 16 rd && c.xReg rs1
  | .fmvXW rd _ => c.ext.f && c.xReg rd
  | .fmvWX _ rs1 => c.ext.f && c.xReg rs1
  | .fmvXD rd _ => c.ext.d && c.xlen == .rv64 && c.xReg rd
  | .fmvDX _ rs1 => c.ext.d && c.xlen == .rv64 && c.xReg rs1
  | .fmvXH rd _ => (c.ext.zfh || c.ext.zfhmin) && c.xReg rd
  | .fmvHX _ rs1 => (c.ext.zfh || c.ext.zfhmin) && c.xReg rs1
  | .fcvtSD rd rs1 _ => (c.ext.d || c.ext.zdinx) && c.fpReg 32 rd && c.fpReg 64 rs1
  | .fcvtDS rd rs1 _ => (c.ext.d || c.ext.zdinx) && c.fpReg 64 rd && c.fpReg 32 rs1
  | .fcvtSQ _ _ _ => c.ext.q
  | .fcvtQS _ _ _ => c.ext.q
  | .fcvtDQ _ _ _ => c.ext.q
  | .fcvtQD _ _ _ => c.ext.q
  | .fcvtSH rd rs1 _ => (c.ext.zfh || c.ext.zfhmin || c.ext.zhinx || c.ext.zhinxmin) && c.fpReg 32 rd && c.fpReg 16 rs1
  | .fcvtHS rd rs1 _ => (c.ext.zfh || c.ext.zfhmin || c.ext.zhinx || c.ext.zhinxmin) && c.fpReg 16 rd && c.fpReg 32 rs1
  | .fcvtDH rd rs1 _ => (((c.ext.zfh || c.ext.zfhmin) && c.ext.d) || ((c.ext.zhinx || c.ext.zhinxmin) && c.ext.zdinx)) && c.fpReg 64 rd && c.fpReg 16 rs1
  | .fcvtHD rd rs1 _ => (((c.ext.zfh || c.ext.zfhmin) && c.ext.d) || ((c.ext.zhinx || c.ext.zhinxmin) && c.ext.zdinx)) && c.fpReg 16 rd && c.fpReg 64 rs1
  | .fcvtQH _ _ _ => ((c.ext.zfh || c.ext.zfhmin) && c.ext.q)
  | .fcvtHQ _ _ _ => ((c.ext.zfh || c.ext.zfhmin) && c.ext.q)
  | .fliS _ _ => c.ext.zfa
  | .fminmS _ _ _ => c.ext.zfa
  | .fmaxmS _ _ _ => c.ext.zfa
  | .froundS _ _ _ => c.ext.zfa
  | .froundnxS _ _ _ => c.ext.zfa
  | .fleqS rd _ _ => c.ext.zfa && c.xReg rd
  | .fltqS rd _ _ => c.ext.zfa && c.xReg rd
  | .fliD _ _ => (c.ext.zfa && c.ext.d)
  | .fminmD _ _ _ => (c.ext.zfa && c.ext.d)
  | .fmaxmD _ _ _ => (c.ext.zfa && c.ext.d)
  | .froundD _ _ _ => (c.ext.zfa && c.ext.d)
  | .froundnxD _ _ _ => (c.ext.zfa && c.ext.d)
  | .fleqD rd _ _ => (c.ext.zfa && c.ext.d) && c.xReg rd
  | .fltqD rd _ _ => (c.ext.zfa && c.ext.d) && c.xReg rd
  | .fliH _ _ => (c.ext.zfa && c.ext.zfh)
  | .fminmH _ _ _ => (c.ext.zfa && c.ext.zfh)
  | .fmaxmH _ _ _ => (c.ext.zfa && c.ext.zfh)
  | .froundH _ _ _ => (c.ext.zfa && c.ext.zfh)
  | .froundnxH _ _ _ => (c.ext.zfa && c.ext.zfh)
  | .fleqH rd _ _ => (c.ext.zfa && c.ext.zfh) && c.xReg rd
  | .fltqH rd _ _ => (c.ext.zfa && c.ext.zfh) && c.xReg rd
  | .fliQ _ _ => (c.ext.zfa && c.ext.q)
  | .fminmQ _ _ _ => (c.ext.zfa && c.ext.q)
  | .fmaxmQ _ _ _ => (c.ext.zfa && c.ext.q)
  | .froundQ _ _ _ => (c.ext.zfa && c.ext.q)
  | .froundnxQ _ _ _ => (c.ext.zfa && c.ext.q)
  | .fleqQ rd _ _ => (c.ext.zfa && c.ext.q) && c.xReg rd
  | .fltqQ rd _ _ => (c.ext.zfa && c.ext.q) && c.xReg rd
  | .fcvtmodWD rd _ => (c.ext.zfa && c.ext.d) && c.xReg rd
  | .fmvhXD rd _ => (c.ext.zfa && c.ext.d) && c.xlen == .rv32 && c.xReg rd
  | .fmvpDX _ rs1 rs2 => (c.ext.zfa && c.ext.d) && c.xlen == .rv32 && c.xReg rs1 && c.xReg rs2
  | .fmvhXQ rd _ => (c.ext.zfa && c.ext.q) && c.xlen == .rv64 && c.xReg rd
  | .fmvpQX _ rs1 rs2 => (c.ext.zfa && c.ext.q) && c.xlen == .rv64 && c.xReg rs1 && c.xReg rs2
  | .cboInval rs1 => c.ext.zicbom && c.xReg rs1
  | .cboClean rs1 => c.ext.zicbom && c.xReg rs1
  | .cboFlush rs1 => c.ext.zicbom && c.xReg rs1
  | .cboZero rs1 => c.ext.zicboz && c.xReg rs1
  | .prefetchI rs1 _ => c.ext.zicbop && c.xReg rs1
  | .prefetchR rs1 _ => c.ext.zicbop && c.xReg rs1
  | .prefetchW rs1 _ => c.ext.zicbop && c.xReg rs1
  | .wrsNto => c.ext.zawrs
  | .wrsSto => c.ext.zawrs
  | .mopR0 rd _ => c.ext.zimop && c.xReg rd
  | .mopR1 rd _ => c.ext.zimop && c.xReg rd
  | .mopR2 rd _ => c.ext.zimop && c.xReg rd
  | .mopR3 rd _ => c.ext.zimop && c.xReg rd
  | .mopR4 rd _ => c.ext.zimop && c.xReg rd
  | .mopR5 rd _ => c.ext.zimop && c.xReg rd
  | .mopR6 rd _ => c.ext.zimop && c.xReg rd
  | .mopR7 rd _ => c.ext.zimop && c.xReg rd
  | .mopR8 rd _ => c.ext.zimop && c.xReg rd
  | .mopR9 rd _ => c.ext.zimop && c.xReg rd
  | .mopR10 rd _ => c.ext.zimop && c.xReg rd
  | .mopR11 rd _ => c.ext.zimop && c.xReg rd
  | .mopR12 rd _ => c.ext.zimop && c.xReg rd
  | .mopR13 rd _ => c.ext.zimop && c.xReg rd
  | .mopR14 rd _ => c.ext.zimop && c.xReg rd
  | .mopR15 rd _ => c.ext.zimop && c.xReg rd
  | .mopR16 rd _ => c.ext.zimop && c.xReg rd
  | .mopR17 rd _ => c.ext.zimop && c.xReg rd
  | .mopR18 rd _ => c.ext.zimop && c.xReg rd
  | .mopR19 rd _ => c.ext.zimop && c.xReg rd
  | .mopR20 rd _ => c.ext.zimop && c.xReg rd
  | .mopR21 rd _ => c.ext.zimop && c.xReg rd
  | .mopR22 rd _ => c.ext.zimop && c.xReg rd
  | .mopR23 rd _ => c.ext.zimop && c.xReg rd
  | .mopR24 rd _ => c.ext.zimop && c.xReg rd
  | .mopR25 rd _ => c.ext.zimop && c.xReg rd
  | .mopR26 rd _ => c.ext.zimop && c.xReg rd
  | .mopR27 rd _ => c.ext.zimop && c.xReg rd
  | .mopR28 rd _ => c.ext.zimop && c.xReg rd
  | .mopR29 rd _ => c.ext.zimop && c.xReg rd
  | .mopR30 rd _ => c.ext.zimop && c.xReg rd
  | .mopR31 rd _ => c.ext.zimop && c.xReg rd
  | .mopRr0 rd _ _ => c.ext.zimop && c.xReg rd
  | .mopRr1 rd _ _ => c.ext.zimop && c.xReg rd
  | .mopRr2 rd _ _ => c.ext.zimop && c.xReg rd
  | .mopRr3 rd _ _ => c.ext.zimop && c.xReg rd
  | .mopRr4 rd _ _ => c.ext.zimop && c.xReg rd
  | .mopRr5 rd _ _ => c.ext.zimop && c.xReg rd
  | .mopRr6 rd _ _ => c.ext.zimop && c.xReg rd
  | .mopRr7 rd _ _ => c.ext.zimop && c.xReg rd
  | .cIllegal => c.ext.zca
  | .cAddi4spn _ nzuimm => c.ext.zca && nzuimm != 0
  | .cFld _ _ _ => c.ext.zcd && c.xlen != .rv128
  | .cLq _ _ _ => c.ext.zca && c.xlen == .rv128
  | .cLw _ _ _ => c.ext.zca
  | .cFlw _ _ _ => c.ext.zcf && c.xlen == .rv32
  | .cLd _ _ _ => c.ext.zca && c.xlen != .rv32
  | .cFsd _ _ _ => c.ext.zcd && c.xlen != .rv128
  | .cSq _ _ _ => c.ext.zca && c.xlen == .rv128
  | .cSw _ _ _ => c.ext.zca
  | .cFsw _ _ _ => c.ext.zcf && c.xlen == .rv32
  | .cSd _ _ _ => c.ext.zca && c.xlen != .rv32
  | .cNop _ => c.ext.zca
  | .cAddi rd _ => c.ext.zca && c.xReg rd && rd != 0
  | .cJal _ => c.ext.zca && c.xlen == .rv32
  | .cAddiw rd _ => c.ext.zca && c.xlen != .rv32 && c.xReg rd && rd != 0
  | .cLi rd _ => c.ext.zca && c.xReg rd
  | .cAddi16sp nzimm => c.ext.zca && nzimm != 0
  | .cLui rd imm => c.ext.zca && c.xReg rd && rd != 2 && imm != 0
  | .cMop1 => c.ext.zcmop
  | .cMop3 => c.ext.zcmop
  | .cMop5 => c.ext.zcmop
  | .cMop7 => c.ext.zcmop
  | .cMop9 => c.ext.zcmop
  | .cMop11 => c.ext.zcmop
  | .cMop13 => c.ext.zcmop
  | .cMop15 => c.ext.zcmop
  | .cSrli _ shamt => c.ext.zca && (c.xlen != .rv32 || shamt < 32)
  | .cSrai _ shamt => c.ext.zca && (c.xlen != .rv32 || shamt < 32)
  | .cAndi _ _ => c.ext.zca
  | .cSub _ _ => c.ext.zca
  | .cXor _ _ => c.ext.zca
  | .cOr _ _ => c.ext.zca
  | .cAnd _ _ => c.ext.zca
  | .cSubw _ _ => c.ext.zca && c.xlen != .rv32
  | .cAddw _ _ => c.ext.zca && c.xlen != .rv32
  | .cJ _ => c.ext.zca
  | .cBeqz _ _ => c.ext.zca
  | .cBnez _ _ => c.ext.zca
  | .cSlli rd shamt => c.ext.zca && c.xReg rd && (c.xlen != .rv32 || shamt < 32)
  | .cFldsp _ _ => c.ext.zcd && c.xlen != .rv128
  | .cLqsp rd _ => c.ext.zca && c.xlen == .rv128 && c.xReg rd && rd != 0
  | .cLwsp rd _ => c.ext.zca && c.xReg rd && rd != 0
  | .cFlwsp _ _ => c.ext.zcf && c.xlen == .rv32
  | .cLdsp rd _ => c.ext.zca && c.xlen != .rv32 && c.xReg rd && rd != 0
  | .cJr rs1 => c.ext.zca && c.xReg rs1 && rs1 != 0
  | .cMv rd rs2 => c.ext.zca && c.xReg rd && c.xReg rs2 && rs2 != 0
  | .cEbreak => c.ext.zca
  | .cJalr rs1 => c.ext.zca && c.xReg rs1 && rs1 != 0
  | .cAdd rd rs2 => c.ext.zca && c.xReg rd && c.xReg rs2 && rs2 != 0 && !c.isNtl rd 0 rs2
  | .cFsdsp _ _ => c.ext.zcd && c.xlen != .rv128
  | .cSqsp rs2 _ => c.ext.zca && c.xlen == .rv128 && c.xReg rs2
  | .cSwsp rs2 _ => c.ext.zca && c.xReg rs2
  | .cFswsp _ _ => c.ext.zcf && c.xlen == .rv32
  | .cSdsp rs2 _ => c.ext.zca && c.xlen != .rv32 && c.xReg rs2
  | .cLbu _ _ _ => c.ext.zcb
  | .cLhu _ _ _ => c.ext.zcb
  | .cLh _ _ _ => c.ext.zcb
  | .cSb _ _ _ => c.ext.zcb
  | .cSh _ _ _ => c.ext.zcb
  | .cZextB _ => c.ext.zcb
  | .cSextB _ => (c.ext.zcb && c.ext.zbb)
  | .cZextH _ => (c.ext.zcb && c.ext.zbb)
  | .cSextH _ => (c.ext.zcb && c.ext.zbb)
  | .cZextW _ => (c.ext.zcb && c.ext.zba) && c.xlen == .rv64
  | .cNot _ => c.ext.zcb
  | .cMul _ _ => (c.ext.zcb && (c.ext.m || c.ext.zmmul))
  | .cmPush rlist _ => c.ext.zcmp && c.rlistOk rlist
  | .cmPop rlist _ => c.ext.zcmp && c.rlistOk rlist
  | .cmPopretz rlist _ => c.ext.zcmp && c.rlistOk rlist
  | .cmPopret rlist _ => c.ext.zcmp && c.rlistOk rlist
  | .cmMvsa01 r1s r2s => c.ext.zcmp && r1s != r2s && c.sregOk r1s && c.sregOk r2s
  | .cmMva01s r1s r2s => c.ext.zcmp && c.sregOk r1s && c.sregOk r2s
  | .cmJt _ => c.ext.zcmt
  | .cmJalt index => c.ext.zcmt && !(index < 32)

end Sys2Proof
end

