-- ==== Sys2Proof/Decode.lean ====
section
/-! DEFINITION. The decoder and, after it, the encoder (30_encoding.md). The decoder is the opcode table read row by row, most
specific row first (R174, R208): an instruction is the first row whose match holds and whose instruction is well formed
in the configuration. What no row gives is rejected by name. -/

namespace Sys2Proof

/-- Why bits are no instruction of a configuration (30_encoding.md R151, R190). Each is answered by an
illegal-instruction exception (92_eei_decisions.md D10). -/
inductive DecodeError where
  /-- Fewer bytes than the instruction's length. -/
  | truncated
  /-- A 16-bit pattern where the configuration has no 16-bit extension. -/
  | noCompressed
  /-- A pattern of 48 bits or more. -/
  | longEncoding
  /-- A 16-bit pattern that no row of the configuration allocates. -/
  | reserved16
  /-- A 32-bit pattern that no row of the configuration allocates. -/
  | reserved32
  deriving DecidableEq, Repr

/-- A row of the opcode table: bits `w` are this instruction when `w &&& mask = val`. -/
structure Row where
  mask : Nat
  val : Nat
  build : InstBits → Instr


/-- The 32-bit rows, part 0: most specific first (30_encoding.md R174, R208). -/
noncomputable def rows32part0 : List Row := [
  ⟨0xFFFFFFFF, 0x0100000F, fun _ => .pause⟩,
  ⟨0xFFFFFFFF, 0x00000073, fun _ => .ecall⟩,
  ⟨0xFFFFFFFF, 0x00100073, fun _ => .ebreak⟩,
  ⟨0xFFFFFFFF, 0x00200033, fun _ => .ntlP1⟩,
  ⟨0xFFFFFFFF, 0x00300033, fun _ => .ntlPall⟩,
  ⟨0xFFFFFFFF, 0x00400033, fun _ => .ntlS1⟩,
  ⟨0xFFFFFFFF, 0x00500033, fun _ => .ntlAll⟩,
  ⟨0xFFFFFFFF, 0x00D00073, fun _ => .wrsNto⟩,
  ⟨0xFFFFFFFF, 0x01D00073, fun _ => .wrsSto⟩,
  ⟨0xFFF07FFF, 0x0000200F, fun w => .cboInval (w.extractLsb' 15 5)⟩,
  ⟨0xFFF07FFF, 0x0010200F, fun w => .cboClean (w.extractLsb' 15 5)⟩,
  ⟨0xFFF07FFF, 0x0020200F, fun w => .cboFlush (w.extractLsb' 15 5)⟩,
  ⟨0xFFF07FFF, 0x0040200F, fun w => .cboZero (w.extractLsb' 15 5)⟩,
  ⟨0xFFF0707F, 0x8330000F, fun w => .fenceTso (w.extractLsb' 15 5) (w.extractLsb' 7 5)⟩,
  ⟨0xFFF0707F, 0xE0001053, fun w => .fclassS (w.extractLsb' 7 5) (w.extractLsb' 15 5)⟩,
  ⟨0xFFF0707F, 0xE2001053, fun w => .fclassD (w.extractLsb' 7 5) (w.extractLsb' 15 5)⟩,
  ⟨0xFFF0707F, 0xE6001053, fun w => .fclassQ (w.extractLsb' 7 5) (w.extractLsb' 15 5)⟩,
  ⟨0xFFF0707F, 0xE4001053, fun w => .fclassH (w.extractLsb' 7 5) (w.extractLsb' 15 5)⟩,
  ⟨0xFFF0707F, 0xE0000053, fun w => .fmvXW (w.extractLsb' 7 5) (w.extractLsb' 15 5)⟩,
  ⟨0xFFF0707F, 0xF0000053, fun w => .fmvWX (w.extractLsb' 7 5) (w.extractLsb' 15 5)⟩,
  ⟨0xFFF0707F, 0xE2000053, fun w => .fmvXD (w.extractLsb' 7 5) (w.extractLsb' 15 5)⟩,
  ⟨0xFFF0707F, 0xF2000053, fun w => .fmvDX (w.extractLsb' 7 5) (w.extractLsb' 15 5)⟩,
  ⟨0xFFF0707F, 0xE4000053, fun w => .fmvXH (w.extractLsb' 7 5) (w.extractLsb' 15 5)⟩,
  ⟨0xFFF0707F, 0xF4000053, fun w => .fmvHX (w.extractLsb' 7 5) (w.extractLsb' 15 5)⟩,
  ⟨0xFFF0707F, 0xF0100053, fun w => .fliS (w.extractLsb' 7 5) (w.extractLsb' 15 5)⟩,
  ⟨0xFFF0707F, 0xF2100053, fun w => .fliD (w.extractLsb' 7 5) (w.extractLsb' 15 5)⟩,
  ⟨0xFFF0707F, 0xF4100053, fun w => .fliH (w.extractLsb' 7 5) (w.extractLsb' 15 5)⟩,
  ⟨0xFFF0707F, 0xF6100053, fun w => .fliQ (w.extractLsb' 7 5) (w.extractLsb' 15 5)⟩,
  ⟨0xFFF0707F, 0xC2801053, fun w => .fcvtmodWD (w.extractLsb' 7 5) (w.extractLsb' 15 5)⟩,
  ⟨0xFFF0707F, 0xE2100053, fun w => .fmvhXD (w.extractLsb' 7 5) (w.extractLsb' 15 5)⟩,
  ⟨0xFFF0707F, 0xE6100053, fun w => .fmvhXQ (w.extractLsb' 7 5) (w.extractLsb' 15 5)⟩,
  ⟨0xFFF0707F, 0x81C04073, fun w => .mopR0 (w.extractLsb' 7 5) (w.extractLsb' 15 5)⟩,
  ⟨0xFFF0707F, 0x81D04073, fun w => .mopR1 (w.extractLsb' 7 5) (w.extractLsb' 15 5)⟩,
  ⟨0xFFF0707F, 0x81E04073, fun w => .mopR2 (w.extractLsb' 7 5) (w.extractLsb' 15 5)⟩,
  ⟨0xFFF0707F, 0x81F04073, fun w => .mopR3 (w.extractLsb' 7 5) (w.extractLsb' 15 5)⟩,
  ⟨0xFFF0707F, 0x85C04073, fun w => .mopR4 (w.extractLsb' 7 5) (w.extractLsb' 15 5)⟩,
  ⟨0xFFF0707F, 0x85D04073, fun w => .mopR5 (w.extractLsb' 7 5) (w.extractLsb' 15 5)⟩,
  ⟨0xFFF0707F, 0x85E04073, fun w => .mopR6 (w.extractLsb' 7 5) (w.extractLsb' 15 5)⟩,
  ⟨0xFFF0707F, 0x85F04073, fun w => .mopR7 (w.extractLsb' 7 5) (w.extractLsb' 15 5)⟩,
  ⟨0xFFF0707F, 0x89C04073, fun w => .mopR8 (w.extractLsb' 7 5) (w.extractLsb' 15 5)⟩,
  ⟨0xFFF0707F, 0x89D04073, fun w => .mopR9 (w.extractLsb' 7 5) (w.extractLsb' 15 5)⟩,
  ⟨0xFFF0707F, 0x89E04073, fun w => .mopR10 (w.extractLsb' 7 5) (w.extractLsb' 15 5)⟩,
  ⟨0xFFF0707F, 0x89F04073, fun w => .mopR11 (w.extractLsb' 7 5) (w.extractLsb' 15 5)⟩,
  ⟨0xFFF0707F, 0x8DC04073, fun w => .mopR12 (w.extractLsb' 7 5) (w.extractLsb' 15 5)⟩,
  ⟨0xFFF0707F, 0x8DD04073, fun w => .mopR13 (w.extractLsb' 7 5) (w.extractLsb' 15 5)⟩,
  ⟨0xFFF0707F, 0x8DE04073, fun w => .mopR14 (w.extractLsb' 7 5) (w.extractLsb' 15 5)⟩,
  ⟨0xFFF0707F, 0x8DF04073, fun w => .mopR15 (w.extractLsb' 7 5) (w.extractLsb' 15 5)⟩,
  ⟨0xFFF0707F, 0xC1C04073, fun w => .mopR16 (w.extractLsb' 7 5) (w.extractLsb' 15 5)⟩,
  ⟨0xFFF0707F, 0xC1D04073, fun w => .mopR17 (w.extractLsb' 7 5) (w.extractLsb' 15 5)⟩,
  ⟨0xFFF0707F, 0xC1E04073, fun w => .mopR18 (w.extractLsb' 7 5) (w.extractLsb' 15 5)⟩,
  ⟨0xFFF0707F, 0xC1F04073, fun w => .mopR19 (w.extractLsb' 7 5) (w.extractLsb' 15 5)⟩,
  ⟨0xFFF0707F, 0xC5C04073, fun w => .mopR20 (w.extractLsb' 7 5) (w.extractLsb' 15 5)⟩,
  ⟨0xFFF0707F, 0xC5D04073, fun w => .mopR21 (w.extractLsb' 7 5) (w.extractLsb' 15 5)⟩,
  ⟨0xFFF0707F, 0xC5E04073, fun w => .mopR22 (w.extractLsb' 7 5) (w.extractLsb' 15 5)⟩,
  ⟨0xFFF0707F, 0xC5F04073, fun w => .mopR23 (w.extractLsb' 7 5) (w.extractLsb' 15 5)⟩,
  ⟨0xFFF0707F, 0xC9C04073, fun w => .mopR24 (w.extractLsb' 7 5) (w.extractLsb' 15 5)⟩,
  ⟨0xFFF0707F, 0xC9D04073, fun w => .mopR25 (w.extractLsb' 7 5) (w.extractLsb' 15 5)⟩,
  ⟨0xFFF0707F, 0xC9E04073, fun w => .mopR26 (w.extractLsb' 7 5) (w.extractLsb' 15 5)⟩,
  ⟨0xFFF0707F, 0xC9F04073, fun w => .mopR27 (w.extractLsb' 7 5) (w.extractLsb' 15 5)⟩,
  ⟨0xFFF0707F, 0xCDC04073, fun w => .mopR28 (w.extractLsb' 7 5) (w.extractLsb' 15 5)⟩]

/-- The 32-bit rows, part 1: most specific first (30_encoding.md R174, R208). -/
noncomputable def rows32part1 : List Row := [
  ⟨0xFFF0707F, 0xCDD04073, fun w => .mopR29 (w.extractLsb' 7 5) (w.extractLsb' 15 5)⟩,
  ⟨0xFFF0707F, 0xCDE04073, fun w => .mopR30 (w.extractLsb' 7 5) (w.extractLsb' 15 5)⟩,
  ⟨0xFFF0707F, 0xCDF04073, fun w => .mopR31 (w.extractLsb' 7 5) (w.extractLsb' 15 5)⟩,
  ⟨0xF9F0707F, 0x1000202F, fun w => .lrW (w.extractLsb' 7 5) (w.extractLsb' 15 5) (w.extractLsb' 26 1) (w.extractLsb' 25 1)⟩,
  ⟨0xF9F0707F, 0x1000302F, fun w => .lrD (w.extractLsb' 7 5) (w.extractLsb' 15 5) (w.extractLsb' 26 1) (w.extractLsb' 25 1)⟩,
  ⟨0x01F07FFF, 0x00006013, fun w => .prefetchI (w.extractLsb' 15 5) (w.extractLsb' 25 7)⟩,
  ⟨0x01F07FFF, 0x00106013, fun w => .prefetchR (w.extractLsb' 15 5) (w.extractLsb' 25 7)⟩,
  ⟨0x01F07FFF, 0x00306013, fun w => .prefetchW (w.extractLsb' 15 5) (w.extractLsb' 25 7)⟩,
  ⟨0xFFF0007F, 0x58000053, fun w => .fsqrtS (w.extractLsb' 7 5) (w.extractLsb' 15 5) (w.extractLsb' 12 3)⟩,
  ⟨0xFFF0007F, 0xC0000053, fun w => .fcvtWS (w.extractLsb' 7 5) (w.extractLsb' 15 5) (w.extractLsb' 12 3)⟩,
  ⟨0xFFF0007F, 0xD0000053, fun w => .fcvtSW (w.extractLsb' 7 5) (w.extractLsb' 15 5) (w.extractLsb' 12 3)⟩,
  ⟨0xFFF0007F, 0xC0100053, fun w => .fcvtWuS (w.extractLsb' 7 5) (w.extractLsb' 15 5) (w.extractLsb' 12 3)⟩,
  ⟨0xFFF0007F, 0xD0100053, fun w => .fcvtSWu (w.extractLsb' 7 5) (w.extractLsb' 15 5) (w.extractLsb' 12 3)⟩,
  ⟨0xFFF0007F, 0xC0200053, fun w => .fcvtLS (w.extractLsb' 7 5) (w.extractLsb' 15 5) (w.extractLsb' 12 3)⟩,
  ⟨0xFFF0007F, 0xD0200053, fun w => .fcvtSL (w.extractLsb' 7 5) (w.extractLsb' 15 5) (w.extractLsb' 12 3)⟩,
  ⟨0xFFF0007F, 0xC0300053, fun w => .fcvtLuS (w.extractLsb' 7 5) (w.extractLsb' 15 5) (w.extractLsb' 12 3)⟩,
  ⟨0xFFF0007F, 0xD0300053, fun w => .fcvtSLu (w.extractLsb' 7 5) (w.extractLsb' 15 5) (w.extractLsb' 12 3)⟩,
  ⟨0xFFF0007F, 0x5A000053, fun w => .fsqrtD (w.extractLsb' 7 5) (w.extractLsb' 15 5) (w.extractLsb' 12 3)⟩,
  ⟨0xFFF0007F, 0xC2000053, fun w => .fcvtWD (w.extractLsb' 7 5) (w.extractLsb' 15 5) (w.extractLsb' 12 3)⟩,
  ⟨0xFFF0007F, 0xD2000053, fun w => .fcvtDW (w.extractLsb' 7 5) (w.extractLsb' 15 5) (w.extractLsb' 12 3)⟩,
  ⟨0xFFF0007F, 0xC2100053, fun w => .fcvtWuD (w.extractLsb' 7 5) (w.extractLsb' 15 5) (w.extractLsb' 12 3)⟩,
  ⟨0xFFF0007F, 0xD2100053, fun w => .fcvtDWu (w.extractLsb' 7 5) (w.extractLsb' 15 5) (w.extractLsb' 12 3)⟩,
  ⟨0xFFF0007F, 0xC2200053, fun w => .fcvtLD (w.extractLsb' 7 5) (w.extractLsb' 15 5) (w.extractLsb' 12 3)⟩,
  ⟨0xFFF0007F, 0xD2200053, fun w => .fcvtDL (w.extractLsb' 7 5) (w.extractLsb' 15 5) (w.extractLsb' 12 3)⟩,
  ⟨0xFFF0007F, 0xC2300053, fun w => .fcvtLuD (w.extractLsb' 7 5) (w.extractLsb' 15 5) (w.extractLsb' 12 3)⟩,
  ⟨0xFFF0007F, 0xD2300053, fun w => .fcvtDLu (w.extractLsb' 7 5) (w.extractLsb' 15 5) (w.extractLsb' 12 3)⟩,
  ⟨0xFFF0007F, 0x5E000053, fun w => .fsqrtQ (w.extractLsb' 7 5) (w.extractLsb' 15 5) (w.extractLsb' 12 3)⟩,
  ⟨0xFFF0007F, 0xC6000053, fun w => .fcvtWQ (w.extractLsb' 7 5) (w.extractLsb' 15 5) (w.extractLsb' 12 3)⟩,
  ⟨0xFFF0007F, 0xD6000053, fun w => .fcvtQW (w.extractLsb' 7 5) (w.extractLsb' 15 5) (w.extractLsb' 12 3)⟩,
  ⟨0xFFF0007F, 0xC6100053, fun w => .fcvtWuQ (w.extractLsb' 7 5) (w.extractLsb' 15 5) (w.extractLsb' 12 3)⟩,
  ⟨0xFFF0007F, 0xD6100053, fun w => .fcvtQWu (w.extractLsb' 7 5) (w.extractLsb' 15 5) (w.extractLsb' 12 3)⟩,
  ⟨0xFFF0007F, 0xC6200053, fun w => .fcvtLQ (w.extractLsb' 7 5) (w.extractLsb' 15 5) (w.extractLsb' 12 3)⟩,
  ⟨0xFFF0007F, 0xD6200053, fun w => .fcvtQL (w.extractLsb' 7 5) (w.extractLsb' 15 5) (w.extractLsb' 12 3)⟩,
  ⟨0xFFF0007F, 0xC6300053, fun w => .fcvtLuQ (w.extractLsb' 7 5) (w.extractLsb' 15 5) (w.extractLsb' 12 3)⟩,
  ⟨0xFFF0007F, 0xD6300053, fun w => .fcvtQLu (w.extractLsb' 7 5) (w.extractLsb' 15 5) (w.extractLsb' 12 3)⟩,
  ⟨0xFFF0007F, 0x5C000053, fun w => .fsqrtH (w.extractLsb' 7 5) (w.extractLsb' 15 5) (w.extractLsb' 12 3)⟩,
  ⟨0xFFF0007F, 0xC4000053, fun w => .fcvtWH (w.extractLsb' 7 5) (w.extractLsb' 15 5) (w.extractLsb' 12 3)⟩,
  ⟨0xFFF0007F, 0xD4000053, fun w => .fcvtHW (w.extractLsb' 7 5) (w.extractLsb' 15 5) (w.extractLsb' 12 3)⟩,
  ⟨0xFFF0007F, 0xC4100053, fun w => .fcvtWuH (w.extractLsb' 7 5) (w.extractLsb' 15 5) (w.extractLsb' 12 3)⟩,
  ⟨0xFFF0007F, 0xD4100053, fun w => .fcvtHWu (w.extractLsb' 7 5) (w.extractLsb' 15 5) (w.extractLsb' 12 3)⟩,
  ⟨0xFFF0007F, 0xC4200053, fun w => .fcvtLH (w.extractLsb' 7 5) (w.extractLsb' 15 5) (w.extractLsb' 12 3)⟩,
  ⟨0xFFF0007F, 0xD4200053, fun w => .fcvtHL (w.extractLsb' 7 5) (w.extractLsb' 15 5) (w.extractLsb' 12 3)⟩,
  ⟨0xFFF0007F, 0xC4300053, fun w => .fcvtLuH (w.extractLsb' 7 5) (w.extractLsb' 15 5) (w.extractLsb' 12 3)⟩,
  ⟨0xFFF0007F, 0xD4300053, fun w => .fcvtHLu (w.extractLsb' 7 5) (w.extractLsb' 15 5) (w.extractLsb' 12 3)⟩,
  ⟨0xFFF0007F, 0x40100053, fun w => .fcvtSD (w.extractLsb' 7 5) (w.extractLsb' 15 5) (w.extractLsb' 12 3)⟩,
  ⟨0xFFF0007F, 0x42000053, fun w => .fcvtDS (w.extractLsb' 7 5) (w.extractLsb' 15 5) (w.extractLsb' 12 3)⟩,
  ⟨0xFFF0007F, 0x40300053, fun w => .fcvtSQ (w.extractLsb' 7 5) (w.extractLsb' 15 5) (w.extractLsb' 12 3)⟩,
  ⟨0xFFF0007F, 0x46000053, fun w => .fcvtQS (w.extractLsb' 7 5) (w.extractLsb' 15 5) (w.extractLsb' 12 3)⟩,
  ⟨0xFFF0007F, 0x42300053, fun w => .fcvtDQ (w.extractLsb' 7 5) (w.extractLsb' 15 5) (w.extractLsb' 12 3)⟩,
  ⟨0xFFF0007F, 0x46100053, fun w => .fcvtQD (w.extractLsb' 7 5) (w.extractLsb' 15 5) (w.extractLsb' 12 3)⟩,
  ⟨0xFFF0007F, 0x40200053, fun w => .fcvtSH (w.extractLsb' 7 5) (w.extractLsb' 15 5) (w.extractLsb' 12 3)⟩,
  ⟨0xFFF0007F, 0x44000053, fun w => .fcvtHS (w.extractLsb' 7 5) (w.extractLsb' 15 5) (w.extractLsb' 12 3)⟩,
  ⟨0xFFF0007F, 0x42200053, fun w => .fcvtDH (w.extractLsb' 7 5) (w.extractLsb' 15 5) (w.extractLsb' 12 3)⟩,
  ⟨0xFFF0007F, 0x44100053, fun w => .fcvtHD (w.extractLsb' 7 5) (w.extractLsb' 15 5) (w.extractLsb' 12 3)⟩,
  ⟨0xFFF0007F, 0x46200053, fun w => .fcvtQH (w.extractLsb' 7 5) (w.extractLsb' 15 5) (w.extractLsb' 12 3)⟩,
  ⟨0xFFF0007F, 0x44300053, fun w => .fcvtHQ (w.extractLsb' 7 5) (w.extractLsb' 15 5) (w.extractLsb' 12 3)⟩,
  ⟨0xFFF0007F, 0x40400053, fun w => .froundS (w.extractLsb' 7 5) (w.extractLsb' 15 5) (w.extractLsb' 12 3)⟩,
  ⟨0xFFF0007F, 0x40500053, fun w => .froundnxS (w.extractLsb' 7 5) (w.extractLsb' 15 5) (w.extractLsb' 12 3)⟩,
  ⟨0xFFF0007F, 0x42400053, fun w => .froundD (w.extractLsb' 7 5) (w.extractLsb' 15 5) (w.extractLsb' 12 3)⟩,
  ⟨0xFFF0007F, 0x42500053, fun w => .froundnxD (w.extractLsb' 7 5) (w.extractLsb' 15 5) (w.extractLsb' 12 3)⟩]

/-- The 32-bit rows, part 2: most specific first (30_encoding.md R174, R208). -/
noncomputable def rows32part2 : List Row := [
  ⟨0xFFF0007F, 0x44400053, fun w => .froundH (w.extractLsb' 7 5) (w.extractLsb' 15 5) (w.extractLsb' 12 3)⟩,
  ⟨0xFFF0007F, 0x44500053, fun w => .froundnxH (w.extractLsb' 7 5) (w.extractLsb' 15 5) (w.extractLsb' 12 3)⟩,
  ⟨0xFFF0007F, 0x46400053, fun w => .froundQ (w.extractLsb' 7 5) (w.extractLsb' 15 5) (w.extractLsb' 12 3)⟩,
  ⟨0xFFF0007F, 0x46500053, fun w => .froundnxQ (w.extractLsb' 7 5) (w.extractLsb' 15 5) (w.extractLsb' 12 3)⟩,
  ⟨0xFE00707F, 0x00001013, fun w => .slliRv32 (w.extractLsb' 7 5) (w.extractLsb' 15 5) (w.extractLsb' 20 5)⟩,
  ⟨0xFE00707F, 0x00005013, fun w => .srliRv32 (w.extractLsb' 7 5) (w.extractLsb' 15 5) (w.extractLsb' 20 5)⟩,
  ⟨0xFE00707F, 0x40005013, fun w => .sraiRv32 (w.extractLsb' 7 5) (w.extractLsb' 15 5) (w.extractLsb' 20 5)⟩,
  ⟨0xFE00707F, 0x00000033, fun w => .add (w.extractLsb' 7 5) (w.extractLsb' 15 5) (w.extractLsb' 20 5)⟩,
  ⟨0xFE00707F, 0x40000033, fun w => .sub (w.extractLsb' 7 5) (w.extractLsb' 15 5) (w.extractLsb' 20 5)⟩,
  ⟨0xFE00707F, 0x00001033, fun w => .sll (w.extractLsb' 7 5) (w.extractLsb' 15 5) (w.extractLsb' 20 5)⟩,
  ⟨0xFE00707F, 0x00002033, fun w => .slt (w.extractLsb' 7 5) (w.extractLsb' 15 5) (w.extractLsb' 20 5)⟩,
  ⟨0xFE00707F, 0x00003033, fun w => .sltu (w.extractLsb' 7 5) (w.extractLsb' 15 5) (w.extractLsb' 20 5)⟩,
  ⟨0xFE00707F, 0x00004033, fun w => .xor (w.extractLsb' 7 5) (w.extractLsb' 15 5) (w.extractLsb' 20 5)⟩,
  ⟨0xFE00707F, 0x00005033, fun w => .srl (w.extractLsb' 7 5) (w.extractLsb' 15 5) (w.extractLsb' 20 5)⟩,
  ⟨0xFE00707F, 0x40005033, fun w => .sra (w.extractLsb' 7 5) (w.extractLsb' 15 5) (w.extractLsb' 20 5)⟩,
  ⟨0xFE00707F, 0x00006033, fun w => .or (w.extractLsb' 7 5) (w.extractLsb' 15 5) (w.extractLsb' 20 5)⟩,
  ⟨0xFE00707F, 0x00007033, fun w => .and (w.extractLsb' 7 5) (w.extractLsb' 15 5) (w.extractLsb' 20 5)⟩,
  ⟨0xFE00707F, 0x0000101B, fun w => .slliw (w.extractLsb' 7 5) (w.extractLsb' 15 5) (w.extractLsb' 20 5)⟩,
  ⟨0xFE00707F, 0x0000501B, fun w => .srliw (w.extractLsb' 7 5) (w.extractLsb' 15 5) (w.extractLsb' 20 5)⟩,
  ⟨0xFE00707F, 0x4000501B, fun w => .sraiw (w.extractLsb' 7 5) (w.extractLsb' 15 5) (w.extractLsb' 20 5)⟩,
  ⟨0xFE00707F, 0x0000003B, fun w => .addw (w.extractLsb' 7 5) (w.extractLsb' 15 5) (w.extractLsb' 20 5)⟩,
  ⟨0xFE00707F, 0x4000003B, fun w => .subw (w.extractLsb' 7 5) (w.extractLsb' 15 5) (w.extractLsb' 20 5)⟩,
  ⟨0xFE00707F, 0x0000103B, fun w => .sllw (w.extractLsb' 7 5) (w.extractLsb' 15 5) (w.extractLsb' 20 5)⟩,
  ⟨0xFE00707F, 0x0000503B, fun w => .srlw (w.extractLsb' 7 5) (w.extractLsb' 15 5) (w.extractLsb' 20 5)⟩,
  ⟨0xFE00707F, 0x4000503B, fun w => .sraw (w.extractLsb' 7 5) (w.extractLsb' 15 5) (w.extractLsb' 20 5)⟩,
  ⟨0xFE00707F, 0x02000033, fun w => .mul (w.extractLsb' 7 5) (w.extractLsb' 15 5) (w.extractLsb' 20 5)⟩,
  ⟨0xFE00707F, 0x02001033, fun w => .mulh (w.extractLsb' 7 5) (w.extractLsb' 15 5) (w.extractLsb' 20 5)⟩,
  ⟨0xFE00707F, 0x02002033, fun w => .mulhsu (w.extractLsb' 7 5) (w.extractLsb' 15 5) (w.extractLsb' 20 5)⟩,
  ⟨0xFE00707F, 0x02003033, fun w => .mulhu (w.extractLsb' 7 5) (w.extractLsb' 15 5) (w.extractLsb' 20 5)⟩,
  ⟨0xFE00707F, 0x02004033, fun w => .div (w.extractLsb' 7 5) (w.extractLsb' 15 5) (w.extractLsb' 20 5)⟩,
  ⟨0xFE00707F, 0x02005033, fun w => .divu (w.extractLsb' 7 5) (w.extractLsb' 15 5) (w.extractLsb' 20 5)⟩,
  ⟨0xFE00707F, 0x02006033, fun w => .rem (w.extractLsb' 7 5) (w.extractLsb' 15 5) (w.extractLsb' 20 5)⟩,
  ⟨0xFE00707F, 0x02007033, fun w => .remu (w.extractLsb' 7 5) (w.extractLsb' 15 5) (w.extractLsb' 20 5)⟩,
  ⟨0xFE00707F, 0x0200003B, fun w => .mulw (w.extractLsb' 7 5) (w.extractLsb' 15 5) (w.extractLsb' 20 5)⟩,
  ⟨0xFE00707F, 0x0200403B, fun w => .divw (w.extractLsb' 7 5) (w.extractLsb' 15 5) (w.extractLsb' 20 5)⟩,
  ⟨0xFE00707F, 0x0200503B, fun w => .divuw (w.extractLsb' 7 5) (w.extractLsb' 15 5) (w.extractLsb' 20 5)⟩,
  ⟨0xFE00707F, 0x0200603B, fun w => .remw (w.extractLsb' 7 5) (w.extractLsb' 15 5) (w.extractLsb' 20 5)⟩,
  ⟨0xFE00707F, 0x0200703B, fun w => .remuw (w.extractLsb' 7 5) (w.extractLsb' 15 5) (w.extractLsb' 20 5)⟩,
  ⟨0xFE00707F, 0x20000053, fun w => .fsgnjS (w.extractLsb' 7 5) (w.extractLsb' 15 5) (w.extractLsb' 20 5)⟩,
  ⟨0xFE00707F, 0x20001053, fun w => .fsgnjnS (w.extractLsb' 7 5) (w.extractLsb' 15 5) (w.extractLsb' 20 5)⟩,
  ⟨0xFE00707F, 0x20002053, fun w => .fsgnjxS (w.extractLsb' 7 5) (w.extractLsb' 15 5) (w.extractLsb' 20 5)⟩,
  ⟨0xFE00707F, 0x28000053, fun w => .fminS (w.extractLsb' 7 5) (w.extractLsb' 15 5) (w.extractLsb' 20 5)⟩,
  ⟨0xFE00707F, 0x28001053, fun w => .fmaxS (w.extractLsb' 7 5) (w.extractLsb' 15 5) (w.extractLsb' 20 5)⟩,
  ⟨0xFE00707F, 0xA0002053, fun w => .feqS (w.extractLsb' 7 5) (w.extractLsb' 15 5) (w.extractLsb' 20 5)⟩,
  ⟨0xFE00707F, 0xA0001053, fun w => .fltS (w.extractLsb' 7 5) (w.extractLsb' 15 5) (w.extractLsb' 20 5)⟩,
  ⟨0xFE00707F, 0xA0000053, fun w => .fleS (w.extractLsb' 7 5) (w.extractLsb' 15 5) (w.extractLsb' 20 5)⟩,
  ⟨0xFE00707F, 0x22000053, fun w => .fsgnjD (w.extractLsb' 7 5) (w.extractLsb' 15 5) (w.extractLsb' 20 5)⟩,
  ⟨0xFE00707F, 0x22001053, fun w => .fsgnjnD (w.extractLsb' 7 5) (w.extractLsb' 15 5) (w.extractLsb' 20 5)⟩,
  ⟨0xFE00707F, 0x22002053, fun w => .fsgnjxD (w.extractLsb' 7 5) (w.extractLsb' 15 5) (w.extractLsb' 20 5)⟩,
  ⟨0xFE00707F, 0x2A000053, fun w => .fminD (w.extractLsb' 7 5) (w.extractLsb' 15 5) (w.extractLsb' 20 5)⟩,
  ⟨0xFE00707F, 0x2A001053, fun w => .fmaxD (w.extractLsb' 7 5) (w.extractLsb' 15 5) (w.extractLsb' 20 5)⟩,
  ⟨0xFE00707F, 0xA2002053, fun w => .feqD (w.extractLsb' 7 5) (w.extractLsb' 15 5) (w.extractLsb' 20 5)⟩,
  ⟨0xFE00707F, 0xA2001053, fun w => .fltD (w.extractLsb' 7 5) (w.extractLsb' 15 5) (w.extractLsb' 20 5)⟩,
  ⟨0xFE00707F, 0xA2000053, fun w => .fleD (w.extractLsb' 7 5) (w.extractLsb' 15 5) (w.extractLsb' 20 5)⟩,
  ⟨0xFE00707F, 0x26000053, fun w => .fsgnjQ (w.extractLsb' 7 5) (w.extractLsb' 15 5) (w.extractLsb' 20 5)⟩,
  ⟨0xFE00707F, 0x26001053, fun w => .fsgnjnQ (w.extractLsb' 7 5) (w.extractLsb' 15 5) (w.extractLsb' 20 5)⟩,
  ⟨0xFE00707F, 0x26002053, fun w => .fsgnjxQ (w.extractLsb' 7 5) (w.extractLsb' 15 5) (w.extractLsb' 20 5)⟩,
  ⟨0xFE00707F, 0x2E000053, fun w => .fminQ (w.extractLsb' 7 5) (w.extractLsb' 15 5) (w.extractLsb' 20 5)⟩,
  ⟨0xFE00707F, 0x2E001053, fun w => .fmaxQ (w.extractLsb' 7 5) (w.extractLsb' 15 5) (w.extractLsb' 20 5)⟩,
  ⟨0xFE00707F, 0xA6002053, fun w => .feqQ (w.extractLsb' 7 5) (w.extractLsb' 15 5) (w.extractLsb' 20 5)⟩]

/-- The 32-bit rows, part 3: most specific first (30_encoding.md R174, R208). -/
noncomputable def rows32part3 : List Row := [
  ⟨0xFE00707F, 0xA6001053, fun w => .fltQ (w.extractLsb' 7 5) (w.extractLsb' 15 5) (w.extractLsb' 20 5)⟩,
  ⟨0xFE00707F, 0xA6000053, fun w => .fleQ (w.extractLsb' 7 5) (w.extractLsb' 15 5) (w.extractLsb' 20 5)⟩,
  ⟨0xFE00707F, 0x24000053, fun w => .fsgnjH (w.extractLsb' 7 5) (w.extractLsb' 15 5) (w.extractLsb' 20 5)⟩,
  ⟨0xFE00707F, 0x24001053, fun w => .fsgnjnH (w.extractLsb' 7 5) (w.extractLsb' 15 5) (w.extractLsb' 20 5)⟩,
  ⟨0xFE00707F, 0x24002053, fun w => .fsgnjxH (w.extractLsb' 7 5) (w.extractLsb' 15 5) (w.extractLsb' 20 5)⟩,
  ⟨0xFE00707F, 0x2C000053, fun w => .fminH (w.extractLsb' 7 5) (w.extractLsb' 15 5) (w.extractLsb' 20 5)⟩,
  ⟨0xFE00707F, 0x2C001053, fun w => .fmaxH (w.extractLsb' 7 5) (w.extractLsb' 15 5) (w.extractLsb' 20 5)⟩,
  ⟨0xFE00707F, 0xA4002053, fun w => .feqH (w.extractLsb' 7 5) (w.extractLsb' 15 5) (w.extractLsb' 20 5)⟩,
  ⟨0xFE00707F, 0xA4001053, fun w => .fltH (w.extractLsb' 7 5) (w.extractLsb' 15 5) (w.extractLsb' 20 5)⟩,
  ⟨0xFE00707F, 0xA4000053, fun w => .fleH (w.extractLsb' 7 5) (w.extractLsb' 15 5) (w.extractLsb' 20 5)⟩,
  ⟨0xFE00707F, 0x28002053, fun w => .fminmS (w.extractLsb' 7 5) (w.extractLsb' 15 5) (w.extractLsb' 20 5)⟩,
  ⟨0xFE00707F, 0x28003053, fun w => .fmaxmS (w.extractLsb' 7 5) (w.extractLsb' 15 5) (w.extractLsb' 20 5)⟩,
  ⟨0xFE00707F, 0xA0004053, fun w => .fleqS (w.extractLsb' 7 5) (w.extractLsb' 15 5) (w.extractLsb' 20 5)⟩,
  ⟨0xFE00707F, 0xA0005053, fun w => .fltqS (w.extractLsb' 7 5) (w.extractLsb' 15 5) (w.extractLsb' 20 5)⟩,
  ⟨0xFE00707F, 0x2A002053, fun w => .fminmD (w.extractLsb' 7 5) (w.extractLsb' 15 5) (w.extractLsb' 20 5)⟩,
  ⟨0xFE00707F, 0x2A003053, fun w => .fmaxmD (w.extractLsb' 7 5) (w.extractLsb' 15 5) (w.extractLsb' 20 5)⟩,
  ⟨0xFE00707F, 0xA2004053, fun w => .fleqD (w.extractLsb' 7 5) (w.extractLsb' 15 5) (w.extractLsb' 20 5)⟩,
  ⟨0xFE00707F, 0xA2005053, fun w => .fltqD (w.extractLsb' 7 5) (w.extractLsb' 15 5) (w.extractLsb' 20 5)⟩,
  ⟨0xFE00707F, 0x2C002053, fun w => .fminmH (w.extractLsb' 7 5) (w.extractLsb' 15 5) (w.extractLsb' 20 5)⟩,
  ⟨0xFE00707F, 0x2C003053, fun w => .fmaxmH (w.extractLsb' 7 5) (w.extractLsb' 15 5) (w.extractLsb' 20 5)⟩,
  ⟨0xFE00707F, 0xA4004053, fun w => .fleqH (w.extractLsb' 7 5) (w.extractLsb' 15 5) (w.extractLsb' 20 5)⟩,
  ⟨0xFE00707F, 0xA4005053, fun w => .fltqH (w.extractLsb' 7 5) (w.extractLsb' 15 5) (w.extractLsb' 20 5)⟩,
  ⟨0xFE00707F, 0x2E002053, fun w => .fminmQ (w.extractLsb' 7 5) (w.extractLsb' 15 5) (w.extractLsb' 20 5)⟩,
  ⟨0xFE00707F, 0x2E003053, fun w => .fmaxmQ (w.extractLsb' 7 5) (w.extractLsb' 15 5) (w.extractLsb' 20 5)⟩,
  ⟨0xFE00707F, 0xA6004053, fun w => .fleqQ (w.extractLsb' 7 5) (w.extractLsb' 15 5) (w.extractLsb' 20 5)⟩,
  ⟨0xFE00707F, 0xA6005053, fun w => .fltqQ (w.extractLsb' 7 5) (w.extractLsb' 15 5) (w.extractLsb' 20 5)⟩,
  ⟨0xFE00707F, 0xB2000053, fun w => .fmvpDX (w.extractLsb' 7 5) (w.extractLsb' 15 5) (w.extractLsb' 20 5)⟩,
  ⟨0xFE00707F, 0xB6000053, fun w => .fmvpQX (w.extractLsb' 7 5) (w.extractLsb' 15 5) (w.extractLsb' 20 5)⟩,
  ⟨0xFE00707F, 0x82004073, fun w => .mopRr0 (w.extractLsb' 7 5) (w.extractLsb' 15 5) (w.extractLsb' 20 5)⟩,
  ⟨0xFE00707F, 0x86004073, fun w => .mopRr1 (w.extractLsb' 7 5) (w.extractLsb' 15 5) (w.extractLsb' 20 5)⟩,
  ⟨0xFE00707F, 0x8A004073, fun w => .mopRr2 (w.extractLsb' 7 5) (w.extractLsb' 15 5) (w.extractLsb' 20 5)⟩,
  ⟨0xFE00707F, 0x8E004073, fun w => .mopRr3 (w.extractLsb' 7 5) (w.extractLsb' 15 5) (w.extractLsb' 20 5)⟩,
  ⟨0xFE00707F, 0xC2004073, fun w => .mopRr4 (w.extractLsb' 7 5) (w.extractLsb' 15 5) (w.extractLsb' 20 5)⟩,
  ⟨0xFE00707F, 0xC6004073, fun w => .mopRr5 (w.extractLsb' 7 5) (w.extractLsb' 15 5) (w.extractLsb' 20 5)⟩,
  ⟨0xFE00707F, 0xCA004073, fun w => .mopRr6 (w.extractLsb' 7 5) (w.extractLsb' 15 5) (w.extractLsb' 20 5)⟩,
  ⟨0xFE00707F, 0xCE004073, fun w => .mopRr7 (w.extractLsb' 7 5) (w.extractLsb' 15 5) (w.extractLsb' 20 5)⟩,
  ⟨0xFC00707F, 0x00001013, fun w => .slliRv64 (w.extractLsb' 7 5) (w.extractLsb' 15 5) (w.extractLsb' 20 6)⟩,
  ⟨0xFC00707F, 0x00005013, fun w => .srliRv64 (w.extractLsb' 7 5) (w.extractLsb' 15 5) (w.extractLsb' 20 6)⟩,
  ⟨0xFC00707F, 0x40005013, fun w => .sraiRv64 (w.extractLsb' 7 5) (w.extractLsb' 15 5) (w.extractLsb' 20 6)⟩,
  ⟨0xF800707F, 0x00001013, fun w => .slliRv128 (w.extractLsb' 7 5) (w.extractLsb' 15 5) (w.extractLsb' 20 7)⟩,
  ⟨0xF800707F, 0x00005013, fun w => .srliRv128 (w.extractLsb' 7 5) (w.extractLsb' 15 5) (w.extractLsb' 20 7)⟩,
  ⟨0xF800707F, 0x40005013, fun w => .sraiRv128 (w.extractLsb' 7 5) (w.extractLsb' 15 5) (w.extractLsb' 20 7)⟩,
  ⟨0xF800707F, 0x1800202F, fun w => .scW (w.extractLsb' 7 5) (w.extractLsb' 15 5) (w.extractLsb' 20 5) (w.extractLsb' 26 1) (w.extractLsb' 25 1)⟩,
  ⟨0xF800707F, 0x1800302F, fun w => .scD (w.extractLsb' 7 5) (w.extractLsb' 15 5) (w.extractLsb' 20 5) (w.extractLsb' 26 1) (w.extractLsb' 25 1)⟩,
  ⟨0xF800707F, 0x0800202F, fun w => .amoswapW (w.extractLsb' 7 5) (w.extractLsb' 15 5) (w.extractLsb' 20 5) (w.extractLsb' 26 1) (w.extractLsb' 25 1)⟩,
  ⟨0xF800707F, 0x0800302F, fun w => .amoswapD (w.extractLsb' 7 5) (w.extractLsb' 15 5) (w.extractLsb' 20 5) (w.extractLsb' 26 1) (w.extractLsb' 25 1)⟩,
  ⟨0xF800707F, 0x0000202F, fun w => .amoaddW (w.extractLsb' 7 5) (w.extractLsb' 15 5) (w.extractLsb' 20 5) (w.extractLsb' 26 1) (w.extractLsb' 25 1)⟩,
  ⟨0xF800707F, 0x0000302F, fun w => .amoaddD (w.extractLsb' 7 5) (w.extractLsb' 15 5) (w.extractLsb' 20 5) (w.extractLsb' 26 1) (w.extractLsb' 25 1)⟩,
  ⟨0xF800707F, 0x2000202F, fun w => .amoxorW (w.extractLsb' 7 5) (w.extractLsb' 15 5) (w.extractLsb' 20 5) (w.extractLsb' 26 1) (w.extractLsb' 25 1)⟩,
  ⟨0xF800707F, 0x2000302F, fun w => .amoxorD (w.extractLsb' 7 5) (w.extractLsb' 15 5) (w.extractLsb' 20 5) (w.extractLsb' 26 1) (w.extractLsb' 25 1)⟩,
  ⟨0xF800707F, 0x6000202F, fun w => .amoandW (w.extractLsb' 7 5) (w.extractLsb' 15 5) (w.extractLsb' 20 5) (w.extractLsb' 26 1) (w.extractLsb' 25 1)⟩,
  ⟨0xF800707F, 0x6000302F, fun w => .amoandD (w.extractLsb' 7 5) (w.extractLsb' 15 5) (w.extractLsb' 20 5) (w.extractLsb' 26 1) (w.extractLsb' 25 1)⟩,
  ⟨0xF800707F, 0x4000202F, fun w => .amoorW (w.extractLsb' 7 5) (w.extractLsb' 15 5) (w.extractLsb' 20 5) (w.extractLsb' 26 1) (w.extractLsb' 25 1)⟩,
  ⟨0xF800707F, 0x4000302F, fun w => .amoorD (w.extractLsb' 7 5) (w.extractLsb' 15 5) (w.extractLsb' 20 5) (w.extractLsb' 26 1) (w.extractLsb' 25 1)⟩,
  ⟨0xF800707F, 0x8000202F, fun w => .amominW (w.extractLsb' 7 5) (w.extractLsb' 15 5) (w.extractLsb' 20 5) (w.extractLsb' 26 1) (w.extractLsb' 25 1)⟩,
  ⟨0xF800707F, 0x8000302F, fun w => .amominD (w.extractLsb' 7 5) (w.extractLsb' 15 5) (w.extractLsb' 20 5) (w.extractLsb' 26 1) (w.extractLsb' 25 1)⟩,
  ⟨0xF800707F, 0xA000202F, fun w => .amomaxW (w.extractLsb' 7 5) (w.extractLsb' 15 5) (w.extractLsb' 20 5) (w.extractLsb' 26 1) (w.extractLsb' 25 1)⟩,
  ⟨0xF800707F, 0xA000302F, fun w => .amomaxD (w.extractLsb' 7 5) (w.extractLsb' 15 5) (w.extractLsb' 20 5) (w.extractLsb' 26 1) (w.extractLsb' 25 1)⟩,
  ⟨0xF800707F, 0xC000202F, fun w => .amominuW (w.extractLsb' 7 5) (w.extractLsb' 15 5) (w.extractLsb' 20 5) (w.extractLsb' 26 1) (w.extractLsb' 25 1)⟩,
  ⟨0xF800707F, 0xC000302F, fun w => .amominuD (w.extractLsb' 7 5) (w.extractLsb' 15 5) (w.extractLsb' 20 5) (w.extractLsb' 26 1) (w.extractLsb' 25 1)⟩]

/-- The 32-bit rows, part 4: most specific first (30_encoding.md R174, R208). -/
noncomputable def rows32part4 : List Row := [
  ⟨0xF800707F, 0xE000202F, fun w => .amomaxuW (w.extractLsb' 7 5) (w.extractLsb' 15 5) (w.extractLsb' 20 5) (w.extractLsb' 26 1) (w.extractLsb' 25 1)⟩,
  ⟨0xF800707F, 0xE000302F, fun w => .amomaxuD (w.extractLsb' 7 5) (w.extractLsb' 15 5) (w.extractLsb' 20 5) (w.extractLsb' 26 1) (w.extractLsb' 25 1)⟩,
  ⟨0xFE00007F, 0x00000053, fun w => .faddS (w.extractLsb' 7 5) (w.extractLsb' 15 5) (w.extractLsb' 20 5) (w.extractLsb' 12 3)⟩,
  ⟨0xFE00007F, 0x08000053, fun w => .fsubS (w.extractLsb' 7 5) (w.extractLsb' 15 5) (w.extractLsb' 20 5) (w.extractLsb' 12 3)⟩,
  ⟨0xFE00007F, 0x10000053, fun w => .fmulS (w.extractLsb' 7 5) (w.extractLsb' 15 5) (w.extractLsb' 20 5) (w.extractLsb' 12 3)⟩,
  ⟨0xFE00007F, 0x18000053, fun w => .fdivS (w.extractLsb' 7 5) (w.extractLsb' 15 5) (w.extractLsb' 20 5) (w.extractLsb' 12 3)⟩,
  ⟨0xFE00007F, 0x02000053, fun w => .faddD (w.extractLsb' 7 5) (w.extractLsb' 15 5) (w.extractLsb' 20 5) (w.extractLsb' 12 3)⟩,
  ⟨0xFE00007F, 0x0A000053, fun w => .fsubD (w.extractLsb' 7 5) (w.extractLsb' 15 5) (w.extractLsb' 20 5) (w.extractLsb' 12 3)⟩,
  ⟨0xFE00007F, 0x12000053, fun w => .fmulD (w.extractLsb' 7 5) (w.extractLsb' 15 5) (w.extractLsb' 20 5) (w.extractLsb' 12 3)⟩,
  ⟨0xFE00007F, 0x1A000053, fun w => .fdivD (w.extractLsb' 7 5) (w.extractLsb' 15 5) (w.extractLsb' 20 5) (w.extractLsb' 12 3)⟩,
  ⟨0xFE00007F, 0x06000053, fun w => .faddQ (w.extractLsb' 7 5) (w.extractLsb' 15 5) (w.extractLsb' 20 5) (w.extractLsb' 12 3)⟩,
  ⟨0xFE00007F, 0x0E000053, fun w => .fsubQ (w.extractLsb' 7 5) (w.extractLsb' 15 5) (w.extractLsb' 20 5) (w.extractLsb' 12 3)⟩,
  ⟨0xFE00007F, 0x16000053, fun w => .fmulQ (w.extractLsb' 7 5) (w.extractLsb' 15 5) (w.extractLsb' 20 5) (w.extractLsb' 12 3)⟩,
  ⟨0xFE00007F, 0x1E000053, fun w => .fdivQ (w.extractLsb' 7 5) (w.extractLsb' 15 5) (w.extractLsb' 20 5) (w.extractLsb' 12 3)⟩,
  ⟨0xFE00007F, 0x04000053, fun w => .faddH (w.extractLsb' 7 5) (w.extractLsb' 15 5) (w.extractLsb' 20 5) (w.extractLsb' 12 3)⟩,
  ⟨0xFE00007F, 0x0C000053, fun w => .fsubH (w.extractLsb' 7 5) (w.extractLsb' 15 5) (w.extractLsb' 20 5) (w.extractLsb' 12 3)⟩,
  ⟨0xFE00007F, 0x14000053, fun w => .fmulH (w.extractLsb' 7 5) (w.extractLsb' 15 5) (w.extractLsb' 20 5) (w.extractLsb' 12 3)⟩,
  ⟨0xFE00007F, 0x1C000053, fun w => .fdivH (w.extractLsb' 7 5) (w.extractLsb' 15 5) (w.extractLsb' 20 5) (w.extractLsb' 12 3)⟩,
  ⟨0x0000707F, 0x00000013, fun w => .addi (w.extractLsb' 7 5) (w.extractLsb' 15 5) (w.extractLsb' 20 12)⟩,
  ⟨0x0000707F, 0x00002013, fun w => .slti (w.extractLsb' 7 5) (w.extractLsb' 15 5) (w.extractLsb' 20 12)⟩,
  ⟨0x0000707F, 0x00003013, fun w => .sltiu (w.extractLsb' 7 5) (w.extractLsb' 15 5) (w.extractLsb' 20 12)⟩,
  ⟨0x0000707F, 0x00004013, fun w => .xori (w.extractLsb' 7 5) (w.extractLsb' 15 5) (w.extractLsb' 20 12)⟩,
  ⟨0x0000707F, 0x00006013, fun w => .ori (w.extractLsb' 7 5) (w.extractLsb' 15 5) (w.extractLsb' 20 12)⟩,
  ⟨0x0000707F, 0x00007013, fun w => .andi (w.extractLsb' 7 5) (w.extractLsb' 15 5) (w.extractLsb' 20 12)⟩,
  ⟨0x0000707F, 0x00000067, fun w => .jalr (w.extractLsb' 7 5) (w.extractLsb' 15 5) (w.extractLsb' 20 12)⟩,
  ⟨0x0000707F, 0x00000063, fun w => .beq (w.extractLsb' 15 5) (w.extractLsb' 20 5) (w.extractLsb' 31 1 ++ w.extractLsb' 7 1 ++ w.extractLsb' 25 6 ++ w.extractLsb' 8 4)⟩,
  ⟨0x0000707F, 0x00001063, fun w => .bne (w.extractLsb' 15 5) (w.extractLsb' 20 5) (w.extractLsb' 31 1 ++ w.extractLsb' 7 1 ++ w.extractLsb' 25 6 ++ w.extractLsb' 8 4)⟩,
  ⟨0x0000707F, 0x00004063, fun w => .blt (w.extractLsb' 15 5) (w.extractLsb' 20 5) (w.extractLsb' 31 1 ++ w.extractLsb' 7 1 ++ w.extractLsb' 25 6 ++ w.extractLsb' 8 4)⟩,
  ⟨0x0000707F, 0x00005063, fun w => .bge (w.extractLsb' 15 5) (w.extractLsb' 20 5) (w.extractLsb' 31 1 ++ w.extractLsb' 7 1 ++ w.extractLsb' 25 6 ++ w.extractLsb' 8 4)⟩,
  ⟨0x0000707F, 0x00006063, fun w => .bltu (w.extractLsb' 15 5) (w.extractLsb' 20 5) (w.extractLsb' 31 1 ++ w.extractLsb' 7 1 ++ w.extractLsb' 25 6 ++ w.extractLsb' 8 4)⟩,
  ⟨0x0000707F, 0x00007063, fun w => .bgeu (w.extractLsb' 15 5) (w.extractLsb' 20 5) (w.extractLsb' 31 1 ++ w.extractLsb' 7 1 ++ w.extractLsb' 25 6 ++ w.extractLsb' 8 4)⟩,
  ⟨0x0000707F, 0x00000003, fun w => .lb (w.extractLsb' 7 5) (w.extractLsb' 15 5) (w.extractLsb' 20 12)⟩,
  ⟨0x0000707F, 0x00001003, fun w => .lh (w.extractLsb' 7 5) (w.extractLsb' 15 5) (w.extractLsb' 20 12)⟩,
  ⟨0x0000707F, 0x00002003, fun w => .lw (w.extractLsb' 7 5) (w.extractLsb' 15 5) (w.extractLsb' 20 12)⟩,
  ⟨0x0000707F, 0x00004003, fun w => .lbu (w.extractLsb' 7 5) (w.extractLsb' 15 5) (w.extractLsb' 20 12)⟩,
  ⟨0x0000707F, 0x00005003, fun w => .lhu (w.extractLsb' 7 5) (w.extractLsb' 15 5) (w.extractLsb' 20 12)⟩,
  ⟨0x0000707F, 0x00000023, fun w => .sb (w.extractLsb' 15 5) (w.extractLsb' 20 5) (w.extractLsb' 25 7 ++ w.extractLsb' 7 5)⟩,
  ⟨0x0000707F, 0x00001023, fun w => .sh (w.extractLsb' 15 5) (w.extractLsb' 20 5) (w.extractLsb' 25 7 ++ w.extractLsb' 7 5)⟩,
  ⟨0x0000707F, 0x00002023, fun w => .sw (w.extractLsb' 15 5) (w.extractLsb' 20 5) (w.extractLsb' 25 7 ++ w.extractLsb' 7 5)⟩,
  ⟨0x0000707F, 0x0000000F, fun w => .fence (w.extractLsb' 28 4) (w.extractLsb' 24 4) (w.extractLsb' 20 4) (w.extractLsb' 15 5) (w.extractLsb' 7 5)⟩,
  ⟨0x0000707F, 0x0000100F, fun w => .fenceI (w.extractLsb' 20 12) (w.extractLsb' 15 5) (w.extractLsb' 7 5)⟩,
  ⟨0x0000707F, 0x0000001B, fun w => .addiw (w.extractLsb' 7 5) (w.extractLsb' 15 5) (w.extractLsb' 20 12)⟩,
  ⟨0x0000707F, 0x00003003, fun w => .ld (w.extractLsb' 7 5) (w.extractLsb' 15 5) (w.extractLsb' 20 12)⟩,
  ⟨0x0000707F, 0x00006003, fun w => .lwu (w.extractLsb' 7 5) (w.extractLsb' 15 5) (w.extractLsb' 20 12)⟩,
  ⟨0x0000707F, 0x00003023, fun w => .sd (w.extractLsb' 15 5) (w.extractLsb' 20 5) (w.extractLsb' 25 7 ++ w.extractLsb' 7 5)⟩,
  ⟨0x0000707F, 0x00001073, fun w => .csrrw (w.extractLsb' 7 5) (w.extractLsb' 15 5) (w.extractLsb' 20 12)⟩,
  ⟨0x0000707F, 0x00002073, fun w => .csrrs (w.extractLsb' 7 5) (w.extractLsb' 15 5) (w.extractLsb' 20 12)⟩,
  ⟨0x0000707F, 0x00003073, fun w => .csrrc (w.extractLsb' 7 5) (w.extractLsb' 15 5) (w.extractLsb' 20 12)⟩,
  ⟨0x0000707F, 0x00005073, fun w => .csrrwi (w.extractLsb' 7 5) (w.extractLsb' 15 5) (w.extractLsb' 20 12)⟩,
  ⟨0x0000707F, 0x00006073, fun w => .csrrsi (w.extractLsb' 7 5) (w.extractLsb' 15 5) (w.extractLsb' 20 12)⟩,
  ⟨0x0000707F, 0x00007073, fun w => .csrrci (w.extractLsb' 7 5) (w.extractLsb' 15 5) (w.extractLsb' 20 12)⟩,
  ⟨0x0000707F, 0x00002007, fun w => .flw (w.extractLsb' 7 5) (w.extractLsb' 15 5) (w.extractLsb' 20 12)⟩,
  ⟨0x0000707F, 0x00002027, fun w => .fsw (w.extractLsb' 15 5) (w.extractLsb' 20 5) (w.extractLsb' 25 7 ++ w.extractLsb' 7 5)⟩,
  ⟨0x0000707F, 0x00003007, fun w => .fld (w.extractLsb' 7 5) (w.extractLsb' 15 5) (w.extractLsb' 20 12)⟩,
  ⟨0x0000707F, 0x00003027, fun w => .fsd (w.extractLsb' 15 5) (w.extractLsb' 20 5) (w.extractLsb' 25 7 ++ w.extractLsb' 7 5)⟩,
  ⟨0x0000707F, 0x00004007, fun w => .flq (w.extractLsb' 7 5) (w.extractLsb' 15 5) (w.extractLsb' 20 12)⟩,
  ⟨0x0000707F, 0x00004027, fun w => .fsq (w.extractLsb' 15 5) (w.extractLsb' 20 5) (w.extractLsb' 25 7 ++ w.extractLsb' 7 5)⟩,
  ⟨0x0000707F, 0x00001007, fun w => .flh (w.extractLsb' 7 5) (w.extractLsb' 15 5) (w.extractLsb' 20 12)⟩,
  ⟨0x0000707F, 0x00001027, fun w => .fsh (w.extractLsb' 15 5) (w.extractLsb' 20 5) (w.extractLsb' 25 7 ++ w.extractLsb' 7 5)⟩,
  ⟨0x0600007F, 0x00000043, fun w => .fmaddS (w.extractLsb' 7 5) (w.extractLsb' 15 5) (w.extractLsb' 20 5) (w.extractLsb' 27 5) (w.extractLsb' 12 3)⟩]

/-- The 32-bit rows, part 5: most specific first (30_encoding.md R174, R208). -/
noncomputable def rows32part5 : List Row := [
  ⟨0x0600007F, 0x00000047, fun w => .fmsubS (w.extractLsb' 7 5) (w.extractLsb' 15 5) (w.extractLsb' 20 5) (w.extractLsb' 27 5) (w.extractLsb' 12 3)⟩,
  ⟨0x0600007F, 0x0000004B, fun w => .fnmsubS (w.extractLsb' 7 5) (w.extractLsb' 15 5) (w.extractLsb' 20 5) (w.extractLsb' 27 5) (w.extractLsb' 12 3)⟩,
  ⟨0x0600007F, 0x0000004F, fun w => .fnmaddS (w.extractLsb' 7 5) (w.extractLsb' 15 5) (w.extractLsb' 20 5) (w.extractLsb' 27 5) (w.extractLsb' 12 3)⟩,
  ⟨0x0600007F, 0x02000043, fun w => .fmaddD (w.extractLsb' 7 5) (w.extractLsb' 15 5) (w.extractLsb' 20 5) (w.extractLsb' 27 5) (w.extractLsb' 12 3)⟩,
  ⟨0x0600007F, 0x02000047, fun w => .fmsubD (w.extractLsb' 7 5) (w.extractLsb' 15 5) (w.extractLsb' 20 5) (w.extractLsb' 27 5) (w.extractLsb' 12 3)⟩,
  ⟨0x0600007F, 0x0200004B, fun w => .fnmsubD (w.extractLsb' 7 5) (w.extractLsb' 15 5) (w.extractLsb' 20 5) (w.extractLsb' 27 5) (w.extractLsb' 12 3)⟩,
  ⟨0x0600007F, 0x0200004F, fun w => .fnmaddD (w.extractLsb' 7 5) (w.extractLsb' 15 5) (w.extractLsb' 20 5) (w.extractLsb' 27 5) (w.extractLsb' 12 3)⟩,
  ⟨0x0600007F, 0x06000043, fun w => .fmaddQ (w.extractLsb' 7 5) (w.extractLsb' 15 5) (w.extractLsb' 20 5) (w.extractLsb' 27 5) (w.extractLsb' 12 3)⟩,
  ⟨0x0600007F, 0x06000047, fun w => .fmsubQ (w.extractLsb' 7 5) (w.extractLsb' 15 5) (w.extractLsb' 20 5) (w.extractLsb' 27 5) (w.extractLsb' 12 3)⟩,
  ⟨0x0600007F, 0x0600004B, fun w => .fnmsubQ (w.extractLsb' 7 5) (w.extractLsb' 15 5) (w.extractLsb' 20 5) (w.extractLsb' 27 5) (w.extractLsb' 12 3)⟩,
  ⟨0x0600007F, 0x0600004F, fun w => .fnmaddQ (w.extractLsb' 7 5) (w.extractLsb' 15 5) (w.extractLsb' 20 5) (w.extractLsb' 27 5) (w.extractLsb' 12 3)⟩,
  ⟨0x0600007F, 0x04000043, fun w => .fmaddH (w.extractLsb' 7 5) (w.extractLsb' 15 5) (w.extractLsb' 20 5) (w.extractLsb' 27 5) (w.extractLsb' 12 3)⟩,
  ⟨0x0600007F, 0x04000047, fun w => .fmsubH (w.extractLsb' 7 5) (w.extractLsb' 15 5) (w.extractLsb' 20 5) (w.extractLsb' 27 5) (w.extractLsb' 12 3)⟩,
  ⟨0x0600007F, 0x0400004B, fun w => .fnmsubH (w.extractLsb' 7 5) (w.extractLsb' 15 5) (w.extractLsb' 20 5) (w.extractLsb' 27 5) (w.extractLsb' 12 3)⟩,
  ⟨0x0600007F, 0x0400004F, fun w => .fnmaddH (w.extractLsb' 7 5) (w.extractLsb' 15 5) (w.extractLsb' 20 5) (w.extractLsb' 27 5) (w.extractLsb' 12 3)⟩,
  ⟨0x0000007F, 0x00000037, fun w => .lui (w.extractLsb' 7 5) (w.extractLsb' 12 20)⟩,
  ⟨0x0000007F, 0x00000017, fun w => .auipc (w.extractLsb' 7 5) (w.extractLsb' 12 20)⟩,
  ⟨0x0000007F, 0x0000006F, fun w => .jal (w.extractLsb' 7 5) (w.extractLsb' 31 1 ++ w.extractLsb' 12 8 ++ w.extractLsb' 20 1 ++ w.extractLsb' 21 10)⟩]

/-- The 32-bit rows of the opcode table. -/
noncomputable def rows32 : List Row := rows32part0 ++ rows32part1 ++ rows32part2 ++ rows32part3 ++ rows32part4 ++ rows32part5

/-- The 16-bit rows, part 0: most specific first (30_encoding.md R174, R208). -/
noncomputable def rows16part0 : List Row := [
  ⟨0xFFFF, 0x900A, fun _ => .cNtlP1⟩,
  ⟨0xFFFF, 0x900E, fun _ => .cNtlPall⟩,
  ⟨0xFFFF, 0x9012, fun _ => .cNtlS1⟩,
  ⟨0xFFFF, 0x9016, fun _ => .cNtlAll⟩,
  ⟨0xFFFF, 0x0000, fun _ => .cIllegal⟩,
  ⟨0xFFFF, 0x6081, fun _ => .cMop1⟩,
  ⟨0xFFFF, 0x6181, fun _ => .cMop3⟩,
  ⟨0xFFFF, 0x6281, fun _ => .cMop5⟩,
  ⟨0xFFFF, 0x6381, fun _ => .cMop7⟩,
  ⟨0xFFFF, 0x6481, fun _ => .cMop9⟩,
  ⟨0xFFFF, 0x6581, fun _ => .cMop11⟩,
  ⟨0xFFFF, 0x6681, fun _ => .cMop13⟩,
  ⟨0xFFFF, 0x6781, fun _ => .cMop15⟩,
  ⟨0xFFFF, 0x9002, fun _ => .cEbreak⟩,
  ⟨0xFC7F, 0x9C61, fun w => .cZextB (w.extractLsb' 7 3)⟩,
  ⟨0xFC7F, 0x9C65, fun w => .cSextB (w.extractLsb' 7 3)⟩,
  ⟨0xFC7F, 0x9C69, fun w => .cZextH (w.extractLsb' 7 3)⟩,
  ⟨0xFC7F, 0x9C6D, fun w => .cSextH (w.extractLsb' 7 3)⟩,
  ⟨0xFC7F, 0x9C71, fun w => .cZextW (w.extractLsb' 7 3)⟩,
  ⟨0xFC7F, 0x9C75, fun w => .cNot (w.extractLsb' 7 3)⟩,
  ⟨0xF07F, 0x8002, fun w => .cJr (w.extractLsb' 7 5)⟩,
  ⟨0xF07F, 0x9002, fun w => .cJalr (w.extractLsb' 7 5)⟩,
  ⟨0xFF83, 0xA002, fun w => .cmJt (w.extractLsb' 2 5)⟩,
  ⟨0xEF83, 0x0001, fun w => .cNop (w.extractLsb' 12 1 ++ w.extractLsb' 2 5)⟩,
  ⟨0xEF83, 0x6101, fun w => .cAddi16sp (w.extractLsb' 12 1 ++ w.extractLsb' 3 2 ++ w.extractLsb' 5 1 ++ w.extractLsb' 2 1 ++ w.extractLsb' 6 1)⟩,
  ⟨0xFC63, 0x8C01, fun w => .cSub (w.extractLsb' 7 3) (w.extractLsb' 2 3)⟩,
  ⟨0xFC63, 0x8C21, fun w => .cXor (w.extractLsb' 7 3) (w.extractLsb' 2 3)⟩,
  ⟨0xFC63, 0x8C41, fun w => .cOr (w.extractLsb' 7 3) (w.extractLsb' 2 3)⟩,
  ⟨0xFC63, 0x8C61, fun w => .cAnd (w.extractLsb' 7 3) (w.extractLsb' 2 3)⟩,
  ⟨0xFC63, 0x9C01, fun w => .cSubw (w.extractLsb' 7 3) (w.extractLsb' 2 3)⟩,
  ⟨0xFC63, 0x9C21, fun w => .cAddw (w.extractLsb' 7 3) (w.extractLsb' 2 3)⟩,
  ⟨0xFC63, 0x9C41, fun w => .cMul (w.extractLsb' 7 3) (w.extractLsb' 2 3)⟩,
  ⟨0xFF03, 0xB802, fun w => .cmPush (w.extractLsb' 4 4) (w.extractLsb' 2 2)⟩,
  ⟨0xFF03, 0xBA02, fun w => .cmPop (w.extractLsb' 4 4) (w.extractLsb' 2 2)⟩,
  ⟨0xFF03, 0xBC02, fun w => .cmPopretz (w.extractLsb' 4 4) (w.extractLsb' 2 2)⟩,
  ⟨0xFF03, 0xBE02, fun w => .cmPopret (w.extractLsb' 4 4) (w.extractLsb' 2 2)⟩,
  ⟨0xFC63, 0xAC22, fun w => .cmMvsa01 (w.extractLsb' 7 3) (w.extractLsb' 2 3)⟩,
  ⟨0xFC63, 0xAC62, fun w => .cmMva01s (w.extractLsb' 7 3) (w.extractLsb' 2 3)⟩,
  ⟨0xFC43, 0x8400, fun w => .cLhu (w.extractLsb' 2 3) (w.extractLsb' 7 3) (w.extractLsb' 5 1)⟩,
  ⟨0xFC43, 0x8440, fun w => .cLh (w.extractLsb' 2 3) (w.extractLsb' 7 3) (w.extractLsb' 5 1)⟩,
  ⟨0xFC43, 0x8C00, fun w => .cSh (w.extractLsb' 7 3) (w.extractLsb' 2 3) (w.extractLsb' 5 1)⟩,
  ⟨0xFC03, 0x8000, fun w => .cLbu (w.extractLsb' 2 3) (w.extractLsb' 7 3) (w.extractLsb' 5 1 ++ w.extractLsb' 6 1)⟩,
  ⟨0xFC03, 0x8800, fun w => .cSb (w.extractLsb' 7 3) (w.extractLsb' 2 3) (w.extractLsb' 5 1 ++ w.extractLsb' 6 1)⟩,
  ⟨0xFC03, 0xA002, fun w => .cmJalt (w.extractLsb' 2 8)⟩,
  ⟨0xEC03, 0x8001, fun w => .cSrli (w.extractLsb' 7 3) (w.extractLsb' 12 1 ++ w.extractLsb' 2 5)⟩,
  ⟨0xEC03, 0x8401, fun w => .cSrai (w.extractLsb' 7 3) (w.extractLsb' 12 1 ++ w.extractLsb' 2 5)⟩,
  ⟨0xEC03, 0x8801, fun w => .cAndi (w.extractLsb' 7 3) (w.extractLsb' 12 1 ++ w.extractLsb' 2 5)⟩,
  ⟨0xF003, 0x8002, fun w => .cMv (w.extractLsb' 7 5) (w.extractLsb' 2 5)⟩,
  ⟨0xF003, 0x9002, fun w => .cAdd (w.extractLsb' 7 5) (w.extractLsb' 2 5)⟩,
  ⟨0xE003, 0x0000, fun w => .cAddi4spn (w.extractLsb' 2 3) (w.extractLsb' 7 4 ++ w.extractLsb' 11 2 ++ w.extractLsb' 5 1 ++ w.extractLsb' 6 1)⟩,
  ⟨0xE003, 0x2000, fun w => .cFld (w.extractLsb' 2 3) (w.extractLsb' 7 3) (w.extractLsb' 5 2 ++ w.extractLsb' 10 3)⟩,
  ⟨0xE003, 0x2000, fun w => .cLq (w.extractLsb' 2 3) (w.extractLsb' 7 3) (w.extractLsb' 10 1 ++ w.extractLsb' 5 2 ++ w.extractLsb' 11 2)⟩,
  ⟨0xE003, 0x4000, fun w => .cLw (w.extractLsb' 2 3) (w.extractLsb' 7 3) (w.extractLsb' 5 1 ++ w.extractLsb' 10 3 ++ w.extractLsb' 6 1)⟩,
  ⟨0xE003, 0x6000, fun w => .cFlw (w.extractLsb' 2 3) (w.extractLsb' 7 3) (w.extractLsb' 5 1 ++ w.extractLsb' 10 3 ++ w.extractLsb' 6 1)⟩,
  ⟨0xE003, 0x6000, fun w => .cLd (w.extractLsb' 2 3) (w.extractLsb' 7 3) (w.extractLsb' 5 2 ++ w.extractLsb' 10 3)⟩,
  ⟨0xE003, 0xA000, fun w => .cFsd (w.extractLsb' 7 3) (w.extractLsb' 2 3) (w.extractLsb' 5 2 ++ w.extractLsb' 10 3)⟩,
  ⟨0xE003, 0xA000, fun w => .cSq (w.extractLsb' 7 3) (w.extractLsb' 2 3) (w.extractLsb' 10 1 ++ w.extractLsb' 5 2 ++ w.extractLsb' 11 2)⟩,
  ⟨0xE003, 0xC000, fun w => .cSw (w.extractLsb' 7 3) (w.extractLsb' 2 3) (w.extractLsb' 5 1 ++ w.extractLsb' 10 3 ++ w.extractLsb' 6 1)⟩,
  ⟨0xE003, 0xE000, fun w => .cFsw (w.extractLsb' 7 3) (w.extractLsb' 2 3) (w.extractLsb' 5 1 ++ w.extractLsb' 10 3 ++ w.extractLsb' 6 1)⟩,
  ⟨0xE003, 0xE000, fun w => .cSd (w.extractLsb' 7 3) (w.extractLsb' 2 3) (w.extractLsb' 5 2 ++ w.extractLsb' 10 3)⟩]

/-- The 16-bit rows, part 1: most specific first (30_encoding.md R174, R208). -/
noncomputable def rows16part1 : List Row := [
  ⟨0xE003, 0x0001, fun w => .cAddi (w.extractLsb' 7 5) (w.extractLsb' 12 1 ++ w.extractLsb' 2 5)⟩,
  ⟨0xE003, 0x2001, fun w => .cJal (w.extractLsb' 12 1 ++ w.extractLsb' 8 1 ++ w.extractLsb' 9 2 ++ w.extractLsb' 6 1 ++ w.extractLsb' 7 1 ++ w.extractLsb' 2 1 ++ w.extractLsb' 11 1 ++ w.extractLsb' 3 3)⟩,
  ⟨0xE003, 0x2001, fun w => .cAddiw (w.extractLsb' 7 5) (w.extractLsb' 12 1 ++ w.extractLsb' 2 5)⟩,
  ⟨0xE003, 0x4001, fun w => .cLi (w.extractLsb' 7 5) (w.extractLsb' 12 1 ++ w.extractLsb' 2 5)⟩,
  ⟨0xE003, 0x6001, fun w => .cLui (w.extractLsb' 7 5) (w.extractLsb' 12 1 ++ w.extractLsb' 2 5)⟩,
  ⟨0xE003, 0xA001, fun w => .cJ (w.extractLsb' 12 1 ++ w.extractLsb' 8 1 ++ w.extractLsb' 9 2 ++ w.extractLsb' 6 1 ++ w.extractLsb' 7 1 ++ w.extractLsb' 2 1 ++ w.extractLsb' 11 1 ++ w.extractLsb' 3 3)⟩,
  ⟨0xE003, 0xC001, fun w => .cBeqz (w.extractLsb' 7 3) (w.extractLsb' 12 1 ++ w.extractLsb' 5 2 ++ w.extractLsb' 2 1 ++ w.extractLsb' 10 2 ++ w.extractLsb' 3 2)⟩,
  ⟨0xE003, 0xE001, fun w => .cBnez (w.extractLsb' 7 3) (w.extractLsb' 12 1 ++ w.extractLsb' 5 2 ++ w.extractLsb' 2 1 ++ w.extractLsb' 10 2 ++ w.extractLsb' 3 2)⟩,
  ⟨0xE003, 0x0002, fun w => .cSlli (w.extractLsb' 7 5) (w.extractLsb' 12 1 ++ w.extractLsb' 2 5)⟩,
  ⟨0xE003, 0x2002, fun w => .cFldsp (w.extractLsb' 7 5) (w.extractLsb' 2 3 ++ w.extractLsb' 12 1 ++ w.extractLsb' 5 2)⟩,
  ⟨0xE003, 0x2002, fun w => .cLqsp (w.extractLsb' 7 5) (w.extractLsb' 2 4 ++ w.extractLsb' 12 1 ++ w.extractLsb' 6 1)⟩,
  ⟨0xE003, 0x4002, fun w => .cLwsp (w.extractLsb' 7 5) (w.extractLsb' 2 2 ++ w.extractLsb' 12 1 ++ w.extractLsb' 4 3)⟩,
  ⟨0xE003, 0x6002, fun w => .cFlwsp (w.extractLsb' 7 5) (w.extractLsb' 2 2 ++ w.extractLsb' 12 1 ++ w.extractLsb' 4 3)⟩,
  ⟨0xE003, 0x6002, fun w => .cLdsp (w.extractLsb' 7 5) (w.extractLsb' 2 3 ++ w.extractLsb' 12 1 ++ w.extractLsb' 5 2)⟩,
  ⟨0xE003, 0xA002, fun w => .cFsdsp (w.extractLsb' 2 5) (w.extractLsb' 7 3 ++ w.extractLsb' 10 3)⟩,
  ⟨0xE003, 0xA002, fun w => .cSqsp (w.extractLsb' 2 5) (w.extractLsb' 7 4 ++ w.extractLsb' 11 2)⟩,
  ⟨0xE003, 0xC002, fun w => .cSwsp (w.extractLsb' 2 5) (w.extractLsb' 7 2 ++ w.extractLsb' 9 4)⟩,
  ⟨0xE003, 0xE002, fun w => .cFswsp (w.extractLsb' 2 5) (w.extractLsb' 7 2 ++ w.extractLsb' 9 4)⟩,
  ⟨0xE003, 0xE002, fun w => .cSdsp (w.extractLsb' 2 5) (w.extractLsb' 7 3 ++ w.extractLsb' 10 3)⟩]

/-- The 16-bit rows of the opcode table. -/
noncomputable def rows16 : List Row := rows16part0 ++ rows16part1

/-- The row's match holds of the bits. -/
def Row.hits (r : Row) (w : InstBits) : Bool := (w.toNat &&& r.mask) == r.val

/-- The first row that matches with an instruction well formed in the configuration. -/
def findRow (c : Config) (w : InstBits) : List Row → Option Instr
  | [] => none
  | r :: rs =>
    match r.hits w with
    | false => findRow c w rs
    | true =>
      match (r.build w).wf c with
      | true => some (r.build w)
      | false => findRow c w rs

/-- The bits are a 16-bit pattern: the two lowest are not both 1 (30_encoding.md R151). -/
def isShort (p : Parcel) : Bool := p.extractLsb' 0 2 != 3

/-- The bits are a pattern longer than 32 bits (30_encoding.md R151). -/
def isLong (p : Parcel) : Bool := p.extractLsb' 0 5 == 31

/-- Decode a 16-bit pattern, zero-extended. -/
noncomputable def decode16 (c : Config) (w : InstBits) : Except DecodeError Instr :=
  match c.ialign16 with
  | false => .error .noCompressed
  | true =>
    match findRow c w rows16 with
    | some i => .ok i
    | none => .error .reserved16

/-- Decode a 32-bit pattern. -/
noncomputable def decode32 (c : Config) (w : InstBits) : Except DecodeError Instr :=
  match isLong (w.setWidth 16) with
  | true => .error .longEncoding
  | false =>
    match findRow c w rows32 with
    | some i => .ok i
    | none => .error .reserved32

/-- decode of 30_encoding.md R175: the instruction a configuration reads in the bits. -/
noncomputable def decode (c : Config) (w : InstBits) : Except DecodeError Instr :=
  match isShort (w.setWidth 16) with
  | true => decode16 c (w &&& 0xFFFF#32)
  | false => decode32 c w

/-- Decode the instruction at the front of a sequence of bytes in address order (parcels are little-endian,
30_encoding.md R150), and give the bytes after it. -/
noncomputable def decodeBytes (c : Config) : List Byte → Except DecodeError (Instr × List Byte)
  | b0 :: b1 :: rest =>
    match isShort (b1 ++ b0), rest with
    | true, _ =>
      match decode c ((b1 ++ b0).setWidth 32) with
      | .ok i => .ok (i, rest)
      | .error e => .error e
    | false, b2 :: b3 :: rest' =>
      match decode c (b3 ++ b2 ++ b1 ++ b0) with
      | .ok i => .ok (i, rest')
      | .error e => .error e
    | false, _ => .error .truncated
  | _ => .error .truncated

/-- A field put at a position of the bits. -/
def put {n : Nat} (v : BitVec n) (pos : Nat) : InstBits := v.setWidth 32 <<< pos


/-- The length in bytes of an instruction (30_encoding.md R151). -/
def Instr.len : Instr → Nat
  | .addi _ _ _ => 4
  | .slti _ _ _ => 4
  | .sltiu _ _ _ => 4
  | .xori _ _ _ => 4
  | .ori _ _ _ => 4
  | .andi _ _ _ => 4
  | .slliRv32 _ _ _ => 4
  | .slliRv64 _ _ _ => 4
  | .slliRv128 _ _ _ => 4
  | .srliRv32 _ _ _ => 4
  | .srliRv64 _ _ _ => 4
  | .srliRv128 _ _ _ => 4
  | .sraiRv32 _ _ _ => 4
  | .sraiRv64 _ _ _ => 4
  | .sraiRv128 _ _ _ => 4
  | .lui _ _ => 4
  | .auipc _ _ => 4
  | .add _ _ _ => 4
  | .sub _ _ _ => 4
  | .sll _ _ _ => 4
  | .slt _ _ _ => 4
  | .sltu _ _ _ => 4
  | .xor _ _ _ => 4
  | .srl _ _ _ => 4
  | .sra _ _ _ => 4
  | .or _ _ _ => 4
  | .and _ _ _ => 4
  | .jal _ _ => 4
  | .jalr _ _ _ => 4
  | .beq _ _ _ => 4
  | .bne _ _ _ => 4
  | .blt _ _ _ => 4
  | .bge _ _ _ => 4
  | .bltu _ _ _ => 4
  | .bgeu _ _ _ => 4
  | .lb _ _ _ => 4
  | .lh _ _ _ => 4
  | .lw _ _ _ => 4
  | .lbu _ _ _ => 4
  | .lhu _ _ _ => 4
  | .sb _ _ _ => 4
  | .sh _ _ _ => 4
  | .sw _ _ _ => 4
  | .fence _ _ _ _ _ => 4
  | .fenceTso _ _ => 4
  | .pause => 4
  | .ecall => 4
  | .ebreak => 4
  | .fenceI _ _ _ => 4
  | .ntlP1 => 4
  | .ntlPall => 4
  | .ntlS1 => 4
  | .ntlAll => 4
  | .cNtlP1 => 2
  | .cNtlPall => 2
  | .cNtlS1 => 2
  | .cNtlAll => 2
  | .addiw _ _ _ => 4
  | .slliw _ _ _ => 4
  | .srliw _ _ _ => 4
  | .sraiw _ _ _ => 4
  | .addw _ _ _ => 4
  | .subw _ _ _ => 4
  | .sllw _ _ _ => 4
  | .srlw _ _ _ => 4
  | .sraw _ _ _ => 4
  | .ld _ _ _ => 4
  | .lwu _ _ _ => 4
  | .sd _ _ _ => 4
  | .mul _ _ _ => 4
  | .mulh _ _ _ => 4
  | .mulhsu _ _ _ => 4
  | .mulhu _ _ _ => 4
  | .div _ _ _ => 4
  | .divu _ _ _ => 4
  | .rem _ _ _ => 4
  | .remu _ _ _ => 4
  | .mulw _ _ _ => 4
  | .divw _ _ _ => 4
  | .divuw _ _ _ => 4
  | .remw _ _ _ => 4
  | .remuw _ _ _ => 4
  | .lrW _ _ _ _ => 4
  | .scW _ _ _ _ _ => 4
  | .lrD _ _ _ _ => 4
  | .scD _ _ _ _ _ => 4
  | .amoswapW _ _ _ _ _ => 4
  | .amoswapD _ _ _ _ _ => 4
  | .amoaddW _ _ _ _ _ => 4
  | .amoaddD _ _ _ _ _ => 4
  | .amoxorW _ _ _ _ _ => 4
  | .amoxorD _ _ _ _ _ => 4
  | .amoandW _ _ _ _ _ => 4
  | .amoandD _ _ _ _ _ => 4
  | .amoorW _ _ _ _ _ => 4
  | .amoorD _ _ _ _ _ => 4
  | .amominW _ _ _ _ _ => 4
  | .amominD _ _ _ _ _ => 4
  | .amomaxW _ _ _ _ _ => 4
  | .amomaxD _ _ _ _ _ => 4
  | .amominuW _ _ _ _ _ => 4
  | .amominuD _ _ _ _ _ => 4
  | .amomaxuW _ _ _ _ _ => 4
  | .amomaxuD _ _ _ _ _ => 4
  | .csrrw _ _ _ => 4
  | .csrrs _ _ _ => 4
  | .csrrc _ _ _ => 4
  | .csrrwi _ _ _ => 4
  | .csrrsi _ _ _ => 4
  | .csrrci _ _ _ => 4
  | .flw _ _ _ => 4
  | .fsw _ _ _ => 4
  | .fmaddS _ _ _ _ _ => 4
  | .fmsubS _ _ _ _ _ => 4
  | .fnmsubS _ _ _ _ _ => 4
  | .fnmaddS _ _ _ _ _ => 4
  | .faddS _ _ _ _ => 4
  | .fsubS _ _ _ _ => 4
  | .fmulS _ _ _ _ => 4
  | .fdivS _ _ _ _ => 4
  | .fsqrtS _ _ _ => 4
  | .fsgnjS _ _ _ => 4
  | .fsgnjnS _ _ _ => 4
  | .fsgnjxS _ _ _ => 4
  | .fminS _ _ _ => 4
  | .fmaxS _ _ _ => 4
  | .feqS _ _ _ => 4
  | .fltS _ _ _ => 4
  | .fleS _ _ _ => 4
  | .fclassS _ _ => 4
  | .fcvtWS _ _ _ => 4
  | .fcvtSW _ _ _ => 4
  | .fcvtWuS _ _ _ => 4
  | .fcvtSWu _ _ _ => 4
  | .fcvtLS _ _ _ => 4
  | .fcvtSL _ _ _ => 4
  | .fcvtLuS _ _ _ => 4
  | .fcvtSLu _ _ _ => 4
  | .fld _ _ _ => 4
  | .fsd _ _ _ => 4
  | .fmaddD _ _ _ _ _ => 4
  | .fmsubD _ _ _ _ _ => 4
  | .fnmsubD _ _ _ _ _ => 4
  | .fnmaddD _ _ _ _ _ => 4
  | .faddD _ _ _ _ => 4
  | .fsubD _ _ _ _ => 4
  | .fmulD _ _ _ _ => 4
  | .fdivD _ _ _ _ => 4
  | .fsqrtD _ _ _ => 4
  | .fsgnjD _ _ _ => 4
  | .fsgnjnD _ _ _ => 4
  | .fsgnjxD _ _ _ => 4
  | .fminD _ _ _ => 4
  | .fmaxD _ _ _ => 4
  | .feqD _ _ _ => 4
  | .fltD _ _ _ => 4
  | .fleD _ _ _ => 4
  | .fclassD _ _ => 4
  | .fcvtWD _ _ _ => 4
  | .fcvtDW _ _ _ => 4
  | .fcvtWuD _ _ _ => 4
  | .fcvtDWu _ _ _ => 4
  | .fcvtLD _ _ _ => 4
  | .fcvtDL _ _ _ => 4
  | .fcvtLuD _ _ _ => 4
  | .fcvtDLu _ _ _ => 4
  | .flq _ _ _ => 4
  | .fsq _ _ _ => 4
  | .fmaddQ _ _ _ _ _ => 4
  | .fmsubQ _ _ _ _ _ => 4
  | .fnmsubQ _ _ _ _ _ => 4
  | .fnmaddQ _ _ _ _ _ => 4
  | .faddQ _ _ _ _ => 4
  | .fsubQ _ _ _ _ => 4
  | .fmulQ _ _ _ _ => 4
  | .fdivQ _ _ _ _ => 4
  | .fsqrtQ _ _ _ => 4
  | .fsgnjQ _ _ _ => 4
  | .fsgnjnQ _ _ _ => 4
  | .fsgnjxQ _ _ _ => 4
  | .fminQ _ _ _ => 4
  | .fmaxQ _ _ _ => 4
  | .feqQ _ _ _ => 4
  | .fltQ _ _ _ => 4
  | .fleQ _ _ _ => 4
  | .fclassQ _ _ => 4
  | .fcvtWQ _ _ _ => 4
  | .fcvtQW _ _ _ => 4
  | .fcvtWuQ _ _ _ => 4
  | .fcvtQWu _ _ _ => 4
  | .fcvtLQ _ _ _ => 4
  | .fcvtQL _ _ _ => 4
  | .fcvtLuQ _ _ _ => 4
  | .fcvtQLu _ _ _ => 4
  | .flh _ _ _ => 4
  | .fsh _ _ _ => 4
  | .fmaddH _ _ _ _ _ => 4
  | .fmsubH _ _ _ _ _ => 4
  | .fnmsubH _ _ _ _ _ => 4
  | .fnmaddH _ _ _ _ _ => 4
  | .faddH _ _ _ _ => 4
  | .fsubH _ _ _ _ => 4
  | .fmulH _ _ _ _ => 4
  | .fdivH _ _ _ _ => 4
  | .fsqrtH _ _ _ => 4
  | .fsgnjH _ _ _ => 4
  | .fsgnjnH _ _ _ => 4
  | .fsgnjxH _ _ _ => 4
  | .fminH _ _ _ => 4
  | .fmaxH _ _ _ => 4
  | .feqH _ _ _ => 4
  | .fltH _ _ _ => 4
  | .fleH _ _ _ => 4
  | .fclassH _ _ => 4
  | .fcvtWH _ _ _ => 4
  | .fcvtHW _ _ _ => 4
  | .fcvtWuH _ _ _ => 4
  | .fcvtHWu _ _ _ => 4
  | .fcvtLH _ _ _ => 4
  | .fcvtHL _ _ _ => 4
  | .fcvtLuH _ _ _ => 4
  | .fcvtHLu _ _ _ => 4
  | .fmvXW _ _ => 4
  | .fmvWX _ _ => 4
  | .fmvXD _ _ => 4
  | .fmvDX _ _ => 4
  | .fmvXH _ _ => 4
  | .fmvHX _ _ => 4
  | .fcvtSD _ _ _ => 4
  | .fcvtDS _ _ _ => 4
  | .fcvtSQ _ _ _ => 4
  | .fcvtQS _ _ _ => 4
  | .fcvtDQ _ _ _ => 4
  | .fcvtQD _ _ _ => 4
  | .fcvtSH _ _ _ => 4
  | .fcvtHS _ _ _ => 4
  | .fcvtDH _ _ _ => 4
  | .fcvtHD _ _ _ => 4
  | .fcvtQH _ _ _ => 4
  | .fcvtHQ _ _ _ => 4
  | .fliS _ _ => 4
  | .fminmS _ _ _ => 4
  | .fmaxmS _ _ _ => 4
  | .froundS _ _ _ => 4
  | .froundnxS _ _ _ => 4
  | .fleqS _ _ _ => 4
  | .fltqS _ _ _ => 4
  | .fliD _ _ => 4
  | .fminmD _ _ _ => 4
  | .fmaxmD _ _ _ => 4
  | .froundD _ _ _ => 4
  | .froundnxD _ _ _ => 4
  | .fleqD _ _ _ => 4
  | .fltqD _ _ _ => 4
  | .fliH _ _ => 4
  | .fminmH _ _ _ => 4
  | .fmaxmH _ _ _ => 4
  | .froundH _ _ _ => 4
  | .froundnxH _ _ _ => 4
  | .fleqH _ _ _ => 4
  | .fltqH _ _ _ => 4
  | .fliQ _ _ => 4
  | .fminmQ _ _ _ => 4
  | .fmaxmQ _ _ _ => 4
  | .froundQ _ _ _ => 4
  | .froundnxQ _ _ _ => 4
  | .fleqQ _ _ _ => 4
  | .fltqQ _ _ _ => 4
  | .fcvtmodWD _ _ => 4
  | .fmvhXD _ _ => 4
  | .fmvpDX _ _ _ => 4
  | .fmvhXQ _ _ => 4
  | .fmvpQX _ _ _ => 4
  | .cboInval _ => 4
  | .cboClean _ => 4
  | .cboFlush _ => 4
  | .cboZero _ => 4
  | .prefetchI _ _ => 4
  | .prefetchR _ _ => 4
  | .prefetchW _ _ => 4
  | .wrsNto => 4
  | .wrsSto => 4
  | .mopR0 _ _ => 4
  | .mopR1 _ _ => 4
  | .mopR2 _ _ => 4
  | .mopR3 _ _ => 4
  | .mopR4 _ _ => 4
  | .mopR5 _ _ => 4
  | .mopR6 _ _ => 4
  | .mopR7 _ _ => 4
  | .mopR8 _ _ => 4
  | .mopR9 _ _ => 4
  | .mopR10 _ _ => 4
  | .mopR11 _ _ => 4
  | .mopR12 _ _ => 4
  | .mopR13 _ _ => 4
  | .mopR14 _ _ => 4
  | .mopR15 _ _ => 4
  | .mopR16 _ _ => 4
  | .mopR17 _ _ => 4
  | .mopR18 _ _ => 4
  | .mopR19 _ _ => 4
  | .mopR20 _ _ => 4
  | .mopR21 _ _ => 4
  | .mopR22 _ _ => 4
  | .mopR23 _ _ => 4
  | .mopR24 _ _ => 4
  | .mopR25 _ _ => 4
  | .mopR26 _ _ => 4
  | .mopR27 _ _ => 4
  | .mopR28 _ _ => 4
  | .mopR29 _ _ => 4
  | .mopR30 _ _ => 4
  | .mopR31 _ _ => 4
  | .mopRr0 _ _ _ => 4
  | .mopRr1 _ _ _ => 4
  | .mopRr2 _ _ _ => 4
  | .mopRr3 _ _ _ => 4
  | .mopRr4 _ _ _ => 4
  | .mopRr5 _ _ _ => 4
  | .mopRr6 _ _ _ => 4
  | .mopRr7 _ _ _ => 4
  | .cIllegal => 2
  | .cAddi4spn _ _ => 2
  | .cFld _ _ _ => 2
  | .cLq _ _ _ => 2
  | .cLw _ _ _ => 2
  | .cFlw _ _ _ => 2
  | .cLd _ _ _ => 2
  | .cFsd _ _ _ => 2
  | .cSq _ _ _ => 2
  | .cSw _ _ _ => 2
  | .cFsw _ _ _ => 2
  | .cSd _ _ _ => 2
  | .cNop _ => 2
  | .cAddi _ _ => 2
  | .cJal _ => 2
  | .cAddiw _ _ => 2
  | .cLi _ _ => 2
  | .cAddi16sp _ => 2
  | .cLui _ _ => 2
  | .cMop1 => 2
  | .cMop3 => 2
  | .cMop5 => 2
  | .cMop7 => 2
  | .cMop9 => 2
  | .cMop11 => 2
  | .cMop13 => 2
  | .cMop15 => 2
  | .cSrli _ _ => 2
  | .cSrai _ _ => 2
  | .cAndi _ _ => 2
  | .cSub _ _ => 2
  | .cXor _ _ => 2
  | .cOr _ _ => 2
  | .cAnd _ _ => 2
  | .cSubw _ _ => 2
  | .cAddw _ _ => 2
  | .cJ _ => 2
  | .cBeqz _ _ => 2
  | .cBnez _ _ => 2
  | .cSlli _ _ => 2
  | .cFldsp _ _ => 2
  | .cLqsp _ _ => 2
  | .cLwsp _ _ => 2
  | .cFlwsp _ _ => 2
  | .cLdsp _ _ => 2
  | .cJr _ => 2
  | .cMv _ _ => 2
  | .cEbreak => 2
  | .cJalr _ => 2
  | .cAdd _ _ => 2
  | .cFsdsp _ _ => 2
  | .cSqsp _ _ => 2
  | .cSwsp _ _ => 2
  | .cFswsp _ _ => 2
  | .cSdsp _ _ => 2
  | .cLbu _ _ _ => 2
  | .cLhu _ _ _ => 2
  | .cLh _ _ _ => 2
  | .cSb _ _ _ => 2
  | .cSh _ _ _ => 2
  | .cZextB _ => 2
  | .cSextB _ => 2
  | .cZextH _ => 2
  | .cSextH _ => 2
  | .cZextW _ => 2
  | .cNot _ => 2
  | .cMul _ _ => 2
  | .cmPush _ _ => 2
  | .cmPop _ _ => 2
  | .cmPopretz _ _ => 2
  | .cmPopret _ _ => 2
  | .cmMvsa01 _ _ => 2
  | .cmMva01s _ _ => 2
  | .cmJt _ => 2
  | .cmJalt _ => 2

/-- The bits of an instruction, a 16-bit one zero-extended: the match of its row of the opcode table with its fields
put in their places (30_encoding.md R154-R156, R180-R186, R208). -/
def encode : Instr → InstBits
  | .addi rd rs1 imm => 0x00000013#32 ||| put rd 7 ||| put rs1 15 ||| put imm 20
  | .slti rd rs1 imm => 0x00002013#32 ||| put rd 7 ||| put rs1 15 ||| put imm 20
  | .sltiu rd rs1 imm => 0x00003013#32 ||| put rd 7 ||| put rs1 15 ||| put imm 20
  | .xori rd rs1 imm => 0x00004013#32 ||| put rd 7 ||| put rs1 15 ||| put imm 20
  | .ori rd rs1 imm => 0x00006013#32 ||| put rd 7 ||| put rs1 15 ||| put imm 20
  | .andi rd rs1 imm => 0x00007013#32 ||| put rd 7 ||| put rs1 15 ||| put imm 20
  | .slliRv32 rd rs1 shamt => 0x00001013#32 ||| put rd 7 ||| put rs1 15 ||| put shamt 20
  | .slliRv64 rd rs1 shamt => 0x00001013#32 ||| put rd 7 ||| put rs1 15 ||| put shamt 20
  | .slliRv128 rd rs1 shamt => 0x00001013#32 ||| put rd 7 ||| put rs1 15 ||| put shamt 20
  | .srliRv32 rd rs1 shamt => 0x00005013#32 ||| put rd 7 ||| put rs1 15 ||| put shamt 20
  | .srliRv64 rd rs1 shamt => 0x00005013#32 ||| put rd 7 ||| put rs1 15 ||| put shamt 20
  | .srliRv128 rd rs1 shamt => 0x00005013#32 ||| put rd 7 ||| put rs1 15 ||| put shamt 20
  | .sraiRv32 rd rs1 shamt => 0x40005013#32 ||| put rd 7 ||| put rs1 15 ||| put shamt 20
  | .sraiRv64 rd rs1 shamt => 0x40005013#32 ||| put rd 7 ||| put rs1 15 ||| put shamt 20
  | .sraiRv128 rd rs1 shamt => 0x40005013#32 ||| put rd 7 ||| put rs1 15 ||| put shamt 20
  | .lui rd imm => 0x00000037#32 ||| put rd 7 ||| put imm 12
  | .auipc rd imm => 0x00000017#32 ||| put rd 7 ||| put imm 12
  | .add rd rs1 rs2 => 0x00000033#32 ||| put rd 7 ||| put rs1 15 ||| put rs2 20
  | .sub rd rs1 rs2 => 0x40000033#32 ||| put rd 7 ||| put rs1 15 ||| put rs2 20
  | .sll rd rs1 rs2 => 0x00001033#32 ||| put rd 7 ||| put rs1 15 ||| put rs2 20
  | .slt rd rs1 rs2 => 0x00002033#32 ||| put rd 7 ||| put rs1 15 ||| put rs2 20
  | .sltu rd rs1 rs2 => 0x00003033#32 ||| put rd 7 ||| put rs1 15 ||| put rs2 20
  | .xor rd rs1 rs2 => 0x00004033#32 ||| put rd 7 ||| put rs1 15 ||| put rs2 20
  | .srl rd rs1 rs2 => 0x00005033#32 ||| put rd 7 ||| put rs1 15 ||| put rs2 20
  | .sra rd rs1 rs2 => 0x40005033#32 ||| put rd 7 ||| put rs1 15 ||| put rs2 20
  | .or rd rs1 rs2 => 0x00006033#32 ||| put rd 7 ||| put rs1 15 ||| put rs2 20
  | .and rd rs1 rs2 => 0x00007033#32 ||| put rd 7 ||| put rs1 15 ||| put rs2 20
  | .jal rd off => 0x0000006F#32 ||| put rd 7 ||| put (off.extractLsb' 19 1) 31 ||| put (off.extractLsb' 11 8) 12 ||| put (off.extractLsb' 10 1) 20 ||| put (off.extractLsb' 0 10) 21
  | .jalr rd rs1 imm => 0x00000067#32 ||| put rd 7 ||| put rs1 15 ||| put imm 20
  | .beq rs1 rs2 off => 0x00000063#32 ||| put rs1 15 ||| put rs2 20 ||| put (off.extractLsb' 11 1) 31 ||| put (off.extractLsb' 10 1) 7 ||| put (off.extractLsb' 4 6) 25 ||| put (off.extractLsb' 0 4) 8
  | .bne rs1 rs2 off => 0x00001063#32 ||| put rs1 15 ||| put rs2 20 ||| put (off.extractLsb' 11 1) 31 ||| put (off.extractLsb' 10 1) 7 ||| put (off.extractLsb' 4 6) 25 ||| put (off.extractLsb' 0 4) 8
  | .blt rs1 rs2 off => 0x00004063#32 ||| put rs1 15 ||| put rs2 20 ||| put (off.extractLsb' 11 1) 31 ||| put (off.extractLsb' 10 1) 7 ||| put (off.extractLsb' 4 6) 25 ||| put (off.extractLsb' 0 4) 8
  | .bge rs1 rs2 off => 0x00005063#32 ||| put rs1 15 ||| put rs2 20 ||| put (off.extractLsb' 11 1) 31 ||| put (off.extractLsb' 10 1) 7 ||| put (off.extractLsb' 4 6) 25 ||| put (off.extractLsb' 0 4) 8
  | .bltu rs1 rs2 off => 0x00006063#32 ||| put rs1 15 ||| put rs2 20 ||| put (off.extractLsb' 11 1) 31 ||| put (off.extractLsb' 10 1) 7 ||| put (off.extractLsb' 4 6) 25 ||| put (off.extractLsb' 0 4) 8
  | .bgeu rs1 rs2 off => 0x00007063#32 ||| put rs1 15 ||| put rs2 20 ||| put (off.extractLsb' 11 1) 31 ||| put (off.extractLsb' 10 1) 7 ||| put (off.extractLsb' 4 6) 25 ||| put (off.extractLsb' 0 4) 8
  | .lb rd rs1 imm => 0x00000003#32 ||| put rd 7 ||| put rs1 15 ||| put imm 20
  | .lh rd rs1 imm => 0x00001003#32 ||| put rd 7 ||| put rs1 15 ||| put imm 20
  | .lw rd rs1 imm => 0x00002003#32 ||| put rd 7 ||| put rs1 15 ||| put imm 20
  | .lbu rd rs1 imm => 0x00004003#32 ||| put rd 7 ||| put rs1 15 ||| put imm 20
  | .lhu rd rs1 imm => 0x00005003#32 ||| put rd 7 ||| put rs1 15 ||| put imm 20
  | .sb rs1 rs2 imm => 0x00000023#32 ||| put rs1 15 ||| put rs2 20 ||| put (imm.extractLsb' 5 7) 25 ||| put (imm.extractLsb' 0 5) 7
  | .sh rs1 rs2 imm => 0x00001023#32 ||| put rs1 15 ||| put rs2 20 ||| put (imm.extractLsb' 5 7) 25 ||| put (imm.extractLsb' 0 5) 7
  | .sw rs1 rs2 imm => 0x00002023#32 ||| put rs1 15 ||| put rs2 20 ||| put (imm.extractLsb' 5 7) 25 ||| put (imm.extractLsb' 0 5) 7
  | .fence fm pred succ rs1 rd => 0x0000000F#32 ||| put fm 28 ||| put pred 24 ||| put succ 20 ||| put rs1 15 ||| put rd 7
  | .fenceTso rs1 rd => 0x8330000F#32 ||| put rs1 15 ||| put rd 7
  | .pause => 0x0100000F#32
  | .ecall => 0x00000073#32
  | .ebreak => 0x00100073#32
  | .fenceI imm rs1 rd => 0x0000100F#32 ||| put imm 20 ||| put rs1 15 ||| put rd 7
  | .ntlP1 => 0x00200033#32
  | .ntlPall => 0x00300033#32
  | .ntlS1 => 0x00400033#32
  | .ntlAll => 0x00500033#32
  | .cNtlP1 => 0x900A#32
  | .cNtlPall => 0x900E#32
  | .cNtlS1 => 0x9012#32
  | .cNtlAll => 0x9016#32
  | .addiw rd rs1 imm => 0x0000001B#32 ||| put rd 7 ||| put rs1 15 ||| put imm 20
  | .slliw rd rs1 shamt => 0x0000101B#32 ||| put rd 7 ||| put rs1 15 ||| put shamt 20
  | .srliw rd rs1 shamt => 0x0000501B#32 ||| put rd 7 ||| put rs1 15 ||| put shamt 20
  | .sraiw rd rs1 shamt => 0x4000501B#32 ||| put rd 7 ||| put rs1 15 ||| put shamt 20
  | .addw rd rs1 rs2 => 0x0000003B#32 ||| put rd 7 ||| put rs1 15 ||| put rs2 20
  | .subw rd rs1 rs2 => 0x4000003B#32 ||| put rd 7 ||| put rs1 15 ||| put rs2 20
  | .sllw rd rs1 rs2 => 0x0000103B#32 ||| put rd 7 ||| put rs1 15 ||| put rs2 20
  | .srlw rd rs1 rs2 => 0x0000503B#32 ||| put rd 7 ||| put rs1 15 ||| put rs2 20
  | .sraw rd rs1 rs2 => 0x4000503B#32 ||| put rd 7 ||| put rs1 15 ||| put rs2 20
  | .ld rd rs1 imm => 0x00003003#32 ||| put rd 7 ||| put rs1 15 ||| put imm 20
  | .lwu rd rs1 imm => 0x00006003#32 ||| put rd 7 ||| put rs1 15 ||| put imm 20
  | .sd rs1 rs2 imm => 0x00003023#32 ||| put rs1 15 ||| put rs2 20 ||| put (imm.extractLsb' 5 7) 25 ||| put (imm.extractLsb' 0 5) 7
  | .mul rd rs1 rs2 => 0x02000033#32 ||| put rd 7 ||| put rs1 15 ||| put rs2 20
  | .mulh rd rs1 rs2 => 0x02001033#32 ||| put rd 7 ||| put rs1 15 ||| put rs2 20
  | .mulhsu rd rs1 rs2 => 0x02002033#32 ||| put rd 7 ||| put rs1 15 ||| put rs2 20
  | .mulhu rd rs1 rs2 => 0x02003033#32 ||| put rd 7 ||| put rs1 15 ||| put rs2 20
  | .div rd rs1 rs2 => 0x02004033#32 ||| put rd 7 ||| put rs1 15 ||| put rs2 20
  | .divu rd rs1 rs2 => 0x02005033#32 ||| put rd 7 ||| put rs1 15 ||| put rs2 20
  | .rem rd rs1 rs2 => 0x02006033#32 ||| put rd 7 ||| put rs1 15 ||| put rs2 20
  | .remu rd rs1 rs2 => 0x02007033#32 ||| put rd 7 ||| put rs1 15 ||| put rs2 20
  | .mulw rd rs1 rs2 => 0x0200003B#32 ||| put rd 7 ||| put rs1 15 ||| put rs2 20
  | .divw rd rs1 rs2 => 0x0200403B#32 ||| put rd 7 ||| put rs1 15 ||| put rs2 20
  | .divuw rd rs1 rs2 => 0x0200503B#32 ||| put rd 7 ||| put rs1 15 ||| put rs2 20
  | .remw rd rs1 rs2 => 0x0200603B#32 ||| put rd 7 ||| put rs1 15 ||| put rs2 20
  | .remuw rd rs1 rs2 => 0x0200703B#32 ||| put rd 7 ||| put rs1 15 ||| put rs2 20
  | .lrW rd rs1 aq rl => 0x1000202F#32 ||| put rd 7 ||| put rs1 15 ||| put aq 26 ||| put rl 25
  | .scW rd rs1 rs2 aq rl => 0x1800202F#32 ||| put rd 7 ||| put rs1 15 ||| put rs2 20 ||| put aq 26 ||| put rl 25
  | .lrD rd rs1 aq rl => 0x1000302F#32 ||| put rd 7 ||| put rs1 15 ||| put aq 26 ||| put rl 25
  | .scD rd rs1 rs2 aq rl => 0x1800302F#32 ||| put rd 7 ||| put rs1 15 ||| put rs2 20 ||| put aq 26 ||| put rl 25
  | .amoswapW rd rs1 rs2 aq rl => 0x0800202F#32 ||| put rd 7 ||| put rs1 15 ||| put rs2 20 ||| put aq 26 ||| put rl 25
  | .amoswapD rd rs1 rs2 aq rl => 0x0800302F#32 ||| put rd 7 ||| put rs1 15 ||| put rs2 20 ||| put aq 26 ||| put rl 25
  | .amoaddW rd rs1 rs2 aq rl => 0x0000202F#32 ||| put rd 7 ||| put rs1 15 ||| put rs2 20 ||| put aq 26 ||| put rl 25
  | .amoaddD rd rs1 rs2 aq rl => 0x0000302F#32 ||| put rd 7 ||| put rs1 15 ||| put rs2 20 ||| put aq 26 ||| put rl 25
  | .amoxorW rd rs1 rs2 aq rl => 0x2000202F#32 ||| put rd 7 ||| put rs1 15 ||| put rs2 20 ||| put aq 26 ||| put rl 25
  | .amoxorD rd rs1 rs2 aq rl => 0x2000302F#32 ||| put rd 7 ||| put rs1 15 ||| put rs2 20 ||| put aq 26 ||| put rl 25
  | .amoandW rd rs1 rs2 aq rl => 0x6000202F#32 ||| put rd 7 ||| put rs1 15 ||| put rs2 20 ||| put aq 26 ||| put rl 25
  | .amoandD rd rs1 rs2 aq rl => 0x6000302F#32 ||| put rd 7 ||| put rs1 15 ||| put rs2 20 ||| put aq 26 ||| put rl 25
  | .amoorW rd rs1 rs2 aq rl => 0x4000202F#32 ||| put rd 7 ||| put rs1 15 ||| put rs2 20 ||| put aq 26 ||| put rl 25
  | .amoorD rd rs1 rs2 aq rl => 0x4000302F#32 ||| put rd 7 ||| put rs1 15 ||| put rs2 20 ||| put aq 26 ||| put rl 25
  | .amominW rd rs1 rs2 aq rl => 0x8000202F#32 ||| put rd 7 ||| put rs1 15 ||| put rs2 20 ||| put aq 26 ||| put rl 25
  | .amominD rd rs1 rs2 aq rl => 0x8000302F#32 ||| put rd 7 ||| put rs1 15 ||| put rs2 20 ||| put aq 26 ||| put rl 25
  | .amomaxW rd rs1 rs2 aq rl => 0xA000202F#32 ||| put rd 7 ||| put rs1 15 ||| put rs2 20 ||| put aq 26 ||| put rl 25
  | .amomaxD rd rs1 rs2 aq rl => 0xA000302F#32 ||| put rd 7 ||| put rs1 15 ||| put rs2 20 ||| put aq 26 ||| put rl 25
  | .amominuW rd rs1 rs2 aq rl => 0xC000202F#32 ||| put rd 7 ||| put rs1 15 ||| put rs2 20 ||| put aq 26 ||| put rl 25
  | .amominuD rd rs1 rs2 aq rl => 0xC000302F#32 ||| put rd 7 ||| put rs1 15 ||| put rs2 20 ||| put aq 26 ||| put rl 25
  | .amomaxuW rd rs1 rs2 aq rl => 0xE000202F#32 ||| put rd 7 ||| put rs1 15 ||| put rs2 20 ||| put aq 26 ||| put rl 25
  | .amomaxuD rd rs1 rs2 aq rl => 0xE000302F#32 ||| put rd 7 ||| put rs1 15 ||| put rs2 20 ||| put aq 26 ||| put rl 25
  | .csrrw rd rs1 csr => 0x00001073#32 ||| put rd 7 ||| put rs1 15 ||| put csr 20
  | .csrrs rd rs1 csr => 0x00002073#32 ||| put rd 7 ||| put rs1 15 ||| put csr 20
  | .csrrc rd rs1 csr => 0x00003073#32 ||| put rd 7 ||| put rs1 15 ||| put csr 20
  | .csrrwi rd uimm csr => 0x00005073#32 ||| put rd 7 ||| put uimm 15 ||| put csr 20
  | .csrrsi rd uimm csr => 0x00006073#32 ||| put rd 7 ||| put uimm 15 ||| put csr 20
  | .csrrci rd uimm csr => 0x00007073#32 ||| put rd 7 ||| put uimm 15 ||| put csr 20
  | .flw rd rs1 imm => 0x00002007#32 ||| put rd 7 ||| put rs1 15 ||| put imm 20
  | .fsw rs1 rs2 imm => 0x00002027#32 ||| put rs1 15 ||| put rs2 20 ||| put (imm.extractLsb' 5 7) 25 ||| put (imm.extractLsb' 0 5) 7
  | .fmaddS rd rs1 rs2 rs3 rm => 0x00000043#32 ||| put rd 7 ||| put rs1 15 ||| put rs2 20 ||| put rs3 27 ||| put rm 12
  | .fmsubS rd rs1 rs2 rs3 rm => 0x00000047#32 ||| put rd 7 ||| put rs1 15 ||| put rs2 20 ||| put rs3 27 ||| put rm 12
  | .fnmsubS rd rs1 rs2 rs3 rm => 0x0000004B#32 ||| put rd 7 ||| put rs1 15 ||| put rs2 20 ||| put rs3 27 ||| put rm 12
  | .fnmaddS rd rs1 rs2 rs3 rm => 0x0000004F#32 ||| put rd 7 ||| put rs1 15 ||| put rs2 20 ||| put rs3 27 ||| put rm 12
  | .faddS rd rs1 rs2 rm => 0x00000053#32 ||| put rd 7 ||| put rs1 15 ||| put rs2 20 ||| put rm 12
  | .fsubS rd rs1 rs2 rm => 0x08000053#32 ||| put rd 7 ||| put rs1 15 ||| put rs2 20 ||| put rm 12
  | .fmulS rd rs1 rs2 rm => 0x10000053#32 ||| put rd 7 ||| put rs1 15 ||| put rs2 20 ||| put rm 12
  | .fdivS rd rs1 rs2 rm => 0x18000053#32 ||| put rd 7 ||| put rs1 15 ||| put rs2 20 ||| put rm 12
  | .fsqrtS rd rs1 rm => 0x58000053#32 ||| put rd 7 ||| put rs1 15 ||| put rm 12
  | .fsgnjS rd rs1 rs2 => 0x20000053#32 ||| put rd 7 ||| put rs1 15 ||| put rs2 20
  | .fsgnjnS rd rs1 rs2 => 0x20001053#32 ||| put rd 7 ||| put rs1 15 ||| put rs2 20
  | .fsgnjxS rd rs1 rs2 => 0x20002053#32 ||| put rd 7 ||| put rs1 15 ||| put rs2 20
  | .fminS rd rs1 rs2 => 0x28000053#32 ||| put rd 7 ||| put rs1 15 ||| put rs2 20
  | .fmaxS rd rs1 rs2 => 0x28001053#32 ||| put rd 7 ||| put rs1 15 ||| put rs2 20
  | .feqS rd rs1 rs2 => 0xA0002053#32 ||| put rd 7 ||| put rs1 15 ||| put rs2 20
  | .fltS rd rs1 rs2 => 0xA0001053#32 ||| put rd 7 ||| put rs1 15 ||| put rs2 20
  | .fleS rd rs1 rs2 => 0xA0000053#32 ||| put rd 7 ||| put rs1 15 ||| put rs2 20
  | .fclassS rd rs1 => 0xE0001053#32 ||| put rd 7 ||| put rs1 15
  | .fcvtWS rd rs1 rm => 0xC0000053#32 ||| put rd 7 ||| put rs1 15 ||| put rm 12
  | .fcvtSW rd rs1 rm => 0xD0000053#32 ||| put rd 7 ||| put rs1 15 ||| put rm 12
  | .fcvtWuS rd rs1 rm => 0xC0100053#32 ||| put rd 7 ||| put rs1 15 ||| put rm 12
  | .fcvtSWu rd rs1 rm => 0xD0100053#32 ||| put rd 7 ||| put rs1 15 ||| put rm 12
  | .fcvtLS rd rs1 rm => 0xC0200053#32 ||| put rd 7 ||| put rs1 15 ||| put rm 12
  | .fcvtSL rd rs1 rm => 0xD0200053#32 ||| put rd 7 ||| put rs1 15 ||| put rm 12
  | .fcvtLuS rd rs1 rm => 0xC0300053#32 ||| put rd 7 ||| put rs1 15 ||| put rm 12
  | .fcvtSLu rd rs1 rm => 0xD0300053#32 ||| put rd 7 ||| put rs1 15 ||| put rm 12
  | .fld rd rs1 imm => 0x00003007#32 ||| put rd 7 ||| put rs1 15 ||| put imm 20
  | .fsd rs1 rs2 imm => 0x00003027#32 ||| put rs1 15 ||| put rs2 20 ||| put (imm.extractLsb' 5 7) 25 ||| put (imm.extractLsb' 0 5) 7
  | .fmaddD rd rs1 rs2 rs3 rm => 0x02000043#32 ||| put rd 7 ||| put rs1 15 ||| put rs2 20 ||| put rs3 27 ||| put rm 12
  | .fmsubD rd rs1 rs2 rs3 rm => 0x02000047#32 ||| put rd 7 ||| put rs1 15 ||| put rs2 20 ||| put rs3 27 ||| put rm 12
  | .fnmsubD rd rs1 rs2 rs3 rm => 0x0200004B#32 ||| put rd 7 ||| put rs1 15 ||| put rs2 20 ||| put rs3 27 ||| put rm 12
  | .fnmaddD rd rs1 rs2 rs3 rm => 0x0200004F#32 ||| put rd 7 ||| put rs1 15 ||| put rs2 20 ||| put rs3 27 ||| put rm 12
  | .faddD rd rs1 rs2 rm => 0x02000053#32 ||| put rd 7 ||| put rs1 15 ||| put rs2 20 ||| put rm 12
  | .fsubD rd rs1 rs2 rm => 0x0A000053#32 ||| put rd 7 ||| put rs1 15 ||| put rs2 20 ||| put rm 12
  | .fmulD rd rs1 rs2 rm => 0x12000053#32 ||| put rd 7 ||| put rs1 15 ||| put rs2 20 ||| put rm 12
  | .fdivD rd rs1 rs2 rm => 0x1A000053#32 ||| put rd 7 ||| put rs1 15 ||| put rs2 20 ||| put rm 12
  | .fsqrtD rd rs1 rm => 0x5A000053#32 ||| put rd 7 ||| put rs1 15 ||| put rm 12
  | .fsgnjD rd rs1 rs2 => 0x22000053#32 ||| put rd 7 ||| put rs1 15 ||| put rs2 20
  | .fsgnjnD rd rs1 rs2 => 0x22001053#32 ||| put rd 7 ||| put rs1 15 ||| put rs2 20
  | .fsgnjxD rd rs1 rs2 => 0x22002053#32 ||| put rd 7 ||| put rs1 15 ||| put rs2 20
  | .fminD rd rs1 rs2 => 0x2A000053#32 ||| put rd 7 ||| put rs1 15 ||| put rs2 20
  | .fmaxD rd rs1 rs2 => 0x2A001053#32 ||| put rd 7 ||| put rs1 15 ||| put rs2 20
  | .feqD rd rs1 rs2 => 0xA2002053#32 ||| put rd 7 ||| put rs1 15 ||| put rs2 20
  | .fltD rd rs1 rs2 => 0xA2001053#32 ||| put rd 7 ||| put rs1 15 ||| put rs2 20
  | .fleD rd rs1 rs2 => 0xA2000053#32 ||| put rd 7 ||| put rs1 15 ||| put rs2 20
  | .fclassD rd rs1 => 0xE2001053#32 ||| put rd 7 ||| put rs1 15
  | .fcvtWD rd rs1 rm => 0xC2000053#32 ||| put rd 7 ||| put rs1 15 ||| put rm 12
  | .fcvtDW rd rs1 rm => 0xD2000053#32 ||| put rd 7 ||| put rs1 15 ||| put rm 12
  | .fcvtWuD rd rs1 rm => 0xC2100053#32 ||| put rd 7 ||| put rs1 15 ||| put rm 12
  | .fcvtDWu rd rs1 rm => 0xD2100053#32 ||| put rd 7 ||| put rs1 15 ||| put rm 12
  | .fcvtLD rd rs1 rm => 0xC2200053#32 ||| put rd 7 ||| put rs1 15 ||| put rm 12
  | .fcvtDL rd rs1 rm => 0xD2200053#32 ||| put rd 7 ||| put rs1 15 ||| put rm 12
  | .fcvtLuD rd rs1 rm => 0xC2300053#32 ||| put rd 7 ||| put rs1 15 ||| put rm 12
  | .fcvtDLu rd rs1 rm => 0xD2300053#32 ||| put rd 7 ||| put rs1 15 ||| put rm 12
  | .flq rd rs1 imm => 0x00004007#32 ||| put rd 7 ||| put rs1 15 ||| put imm 20
  | .fsq rs1 rs2 imm => 0x00004027#32 ||| put rs1 15 ||| put rs2 20 ||| put (imm.extractLsb' 5 7) 25 ||| put (imm.extractLsb' 0 5) 7
  | .fmaddQ rd rs1 rs2 rs3 rm => 0x06000043#32 ||| put rd 7 ||| put rs1 15 ||| put rs2 20 ||| put rs3 27 ||| put rm 12
  | .fmsubQ rd rs1 rs2 rs3 rm => 0x06000047#32 ||| put rd 7 ||| put rs1 15 ||| put rs2 20 ||| put rs3 27 ||| put rm 12
  | .fnmsubQ rd rs1 rs2 rs3 rm => 0x0600004B#32 ||| put rd 7 ||| put rs1 15 ||| put rs2 20 ||| put rs3 27 ||| put rm 12
  | .fnmaddQ rd rs1 rs2 rs3 rm => 0x0600004F#32 ||| put rd 7 ||| put rs1 15 ||| put rs2 20 ||| put rs3 27 ||| put rm 12
  | .faddQ rd rs1 rs2 rm => 0x06000053#32 ||| put rd 7 ||| put rs1 15 ||| put rs2 20 ||| put rm 12
  | .fsubQ rd rs1 rs2 rm => 0x0E000053#32 ||| put rd 7 ||| put rs1 15 ||| put rs2 20 ||| put rm 12
  | .fmulQ rd rs1 rs2 rm => 0x16000053#32 ||| put rd 7 ||| put rs1 15 ||| put rs2 20 ||| put rm 12
  | .fdivQ rd rs1 rs2 rm => 0x1E000053#32 ||| put rd 7 ||| put rs1 15 ||| put rs2 20 ||| put rm 12
  | .fsqrtQ rd rs1 rm => 0x5E000053#32 ||| put rd 7 ||| put rs1 15 ||| put rm 12
  | .fsgnjQ rd rs1 rs2 => 0x26000053#32 ||| put rd 7 ||| put rs1 15 ||| put rs2 20
  | .fsgnjnQ rd rs1 rs2 => 0x26001053#32 ||| put rd 7 ||| put rs1 15 ||| put rs2 20
  | .fsgnjxQ rd rs1 rs2 => 0x26002053#32 ||| put rd 7 ||| put rs1 15 ||| put rs2 20
  | .fminQ rd rs1 rs2 => 0x2E000053#32 ||| put rd 7 ||| put rs1 15 ||| put rs2 20
  | .fmaxQ rd rs1 rs2 => 0x2E001053#32 ||| put rd 7 ||| put rs1 15 ||| put rs2 20
  | .feqQ rd rs1 rs2 => 0xA6002053#32 ||| put rd 7 ||| put rs1 15 ||| put rs2 20
  | .fltQ rd rs1 rs2 => 0xA6001053#32 ||| put rd 7 ||| put rs1 15 ||| put rs2 20
  | .fleQ rd rs1 rs2 => 0xA6000053#32 ||| put rd 7 ||| put rs1 15 ||| put rs2 20
  | .fclassQ rd rs1 => 0xE6001053#32 ||| put rd 7 ||| put rs1 15
  | .fcvtWQ rd rs1 rm => 0xC6000053#32 ||| put rd 7 ||| put rs1 15 ||| put rm 12
  | .fcvtQW rd rs1 rm => 0xD6000053#32 ||| put rd 7 ||| put rs1 15 ||| put rm 12
  | .fcvtWuQ rd rs1 rm => 0xC6100053#32 ||| put rd 7 ||| put rs1 15 ||| put rm 12
  | .fcvtQWu rd rs1 rm => 0xD6100053#32 ||| put rd 7 ||| put rs1 15 ||| put rm 12
  | .fcvtLQ rd rs1 rm => 0xC6200053#32 ||| put rd 7 ||| put rs1 15 ||| put rm 12
  | .fcvtQL rd rs1 rm => 0xD6200053#32 ||| put rd 7 ||| put rs1 15 ||| put rm 12
  | .fcvtLuQ rd rs1 rm => 0xC6300053#32 ||| put rd 7 ||| put rs1 15 ||| put rm 12
  | .fcvtQLu rd rs1 rm => 0xD6300053#32 ||| put rd 7 ||| put rs1 15 ||| put rm 12
  | .flh rd rs1 imm => 0x00001007#32 ||| put rd 7 ||| put rs1 15 ||| put imm 20
  | .fsh rs1 rs2 imm => 0x00001027#32 ||| put rs1 15 ||| put rs2 20 ||| put (imm.extractLsb' 5 7) 25 ||| put (imm.extractLsb' 0 5) 7
  | .fmaddH rd rs1 rs2 rs3 rm => 0x04000043#32 ||| put rd 7 ||| put rs1 15 ||| put rs2 20 ||| put rs3 27 ||| put rm 12
  | .fmsubH rd rs1 rs2 rs3 rm => 0x04000047#32 ||| put rd 7 ||| put rs1 15 ||| put rs2 20 ||| put rs3 27 ||| put rm 12
  | .fnmsubH rd rs1 rs2 rs3 rm => 0x0400004B#32 ||| put rd 7 ||| put rs1 15 ||| put rs2 20 ||| put rs3 27 ||| put rm 12
  | .fnmaddH rd rs1 rs2 rs3 rm => 0x0400004F#32 ||| put rd 7 ||| put rs1 15 ||| put rs2 20 ||| put rs3 27 ||| put rm 12
  | .faddH rd rs1 rs2 rm => 0x04000053#32 ||| put rd 7 ||| put rs1 15 ||| put rs2 20 ||| put rm 12
  | .fsubH rd rs1 rs2 rm => 0x0C000053#32 ||| put rd 7 ||| put rs1 15 ||| put rs2 20 ||| put rm 12
  | .fmulH rd rs1 rs2 rm => 0x14000053#32 ||| put rd 7 ||| put rs1 15 ||| put rs2 20 ||| put rm 12
  | .fdivH rd rs1 rs2 rm => 0x1C000053#32 ||| put rd 7 ||| put rs1 15 ||| put rs2 20 ||| put rm 12
  | .fsqrtH rd rs1 rm => 0x5C000053#32 ||| put rd 7 ||| put rs1 15 ||| put rm 12
  | .fsgnjH rd rs1 rs2 => 0x24000053#32 ||| put rd 7 ||| put rs1 15 ||| put rs2 20
  | .fsgnjnH rd rs1 rs2 => 0x24001053#32 ||| put rd 7 ||| put rs1 15 ||| put rs2 20
  | .fsgnjxH rd rs1 rs2 => 0x24002053#32 ||| put rd 7 ||| put rs1 15 ||| put rs2 20
  | .fminH rd rs1 rs2 => 0x2C000053#32 ||| put rd 7 ||| put rs1 15 ||| put rs2 20
  | .fmaxH rd rs1 rs2 => 0x2C001053#32 ||| put rd 7 ||| put rs1 15 ||| put rs2 20
  | .feqH rd rs1 rs2 => 0xA4002053#32 ||| put rd 7 ||| put rs1 15 ||| put rs2 20
  | .fltH rd rs1 rs2 => 0xA4001053#32 ||| put rd 7 ||| put rs1 15 ||| put rs2 20
  | .fleH rd rs1 rs2 => 0xA4000053#32 ||| put rd 7 ||| put rs1 15 ||| put rs2 20
  | .fclassH rd rs1 => 0xE4001053#32 ||| put rd 7 ||| put rs1 15
  | .fcvtWH rd rs1 rm => 0xC4000053#32 ||| put rd 7 ||| put rs1 15 ||| put rm 12
  | .fcvtHW rd rs1 rm => 0xD4000053#32 ||| put rd 7 ||| put rs1 15 ||| put rm 12
  | .fcvtWuH rd rs1 rm => 0xC4100053#32 ||| put rd 7 ||| put rs1 15 ||| put rm 12
  | .fcvtHWu rd rs1 rm => 0xD4100053#32 ||| put rd 7 ||| put rs1 15 ||| put rm 12
  | .fcvtLH rd rs1 rm => 0xC4200053#32 ||| put rd 7 ||| put rs1 15 ||| put rm 12
  | .fcvtHL rd rs1 rm => 0xD4200053#32 ||| put rd 7 ||| put rs1 15 ||| put rm 12
  | .fcvtLuH rd rs1 rm => 0xC4300053#32 ||| put rd 7 ||| put rs1 15 ||| put rm 12
  | .fcvtHLu rd rs1 rm => 0xD4300053#32 ||| put rd 7 ||| put rs1 15 ||| put rm 12
  | .fmvXW rd rs1 => 0xE0000053#32 ||| put rd 7 ||| put rs1 15
  | .fmvWX rd rs1 => 0xF0000053#32 ||| put rd 7 ||| put rs1 15
  | .fmvXD rd rs1 => 0xE2000053#32 ||| put rd 7 ||| put rs1 15
  | .fmvDX rd rs1 => 0xF2000053#32 ||| put rd 7 ||| put rs1 15
  | .fmvXH rd rs1 => 0xE4000053#32 ||| put rd 7 ||| put rs1 15
  | .fmvHX rd rs1 => 0xF4000053#32 ||| put rd 7 ||| put rs1 15
  | .fcvtSD rd rs1 rm => 0x40100053#32 ||| put rd 7 ||| put rs1 15 ||| put rm 12
  | .fcvtDS rd rs1 rm => 0x42000053#32 ||| put rd 7 ||| put rs1 15 ||| put rm 12
  | .fcvtSQ rd rs1 rm => 0x40300053#32 ||| put rd 7 ||| put rs1 15 ||| put rm 12
  | .fcvtQS rd rs1 rm => 0x46000053#32 ||| put rd 7 ||| put rs1 15 ||| put rm 12
  | .fcvtDQ rd rs1 rm => 0x42300053#32 ||| put rd 7 ||| put rs1 15 ||| put rm 12
  | .fcvtQD rd rs1 rm => 0x46100053#32 ||| put rd 7 ||| put rs1 15 ||| put rm 12
  | .fcvtSH rd rs1 rm => 0x40200053#32 ||| put rd 7 ||| put rs1 15 ||| put rm 12
  | .fcvtHS rd rs1 rm => 0x44000053#32 ||| put rd 7 ||| put rs1 15 ||| put rm 12
  | .fcvtDH rd rs1 rm => 0x42200053#32 ||| put rd 7 ||| put rs1 15 ||| put rm 12
  | .fcvtHD rd rs1 rm => 0x44100053#32 ||| put rd 7 ||| put rs1 15 ||| put rm 12
  | .fcvtQH rd rs1 rm => 0x46200053#32 ||| put rd 7 ||| put rs1 15 ||| put rm 12
  | .fcvtHQ rd rs1 rm => 0x44300053#32 ||| put rd 7 ||| put rs1 15 ||| put rm 12
  | .fliS rd idx => 0xF0100053#32 ||| put rd 7 ||| put idx 15
  | .fminmS rd rs1 rs2 => 0x28002053#32 ||| put rd 7 ||| put rs1 15 ||| put rs2 20
  | .fmaxmS rd rs1 rs2 => 0x28003053#32 ||| put rd 7 ||| put rs1 15 ||| put rs2 20
  | .froundS rd rs1 rm => 0x40400053#32 ||| put rd 7 ||| put rs1 15 ||| put rm 12
  | .froundnxS rd rs1 rm => 0x40500053#32 ||| put rd 7 ||| put rs1 15 ||| put rm 12
  | .fleqS rd rs1 rs2 => 0xA0004053#32 ||| put rd 7 ||| put rs1 15 ||| put rs2 20
  | .fltqS rd rs1 rs2 => 0xA0005053#32 ||| put rd 7 ||| put rs1 15 ||| put rs2 20
  | .fliD rd idx => 0xF2100053#32 ||| put rd 7 ||| put idx 15
  | .fminmD rd rs1 rs2 => 0x2A002053#32 ||| put rd 7 ||| put rs1 15 ||| put rs2 20
  | .fmaxmD rd rs1 rs2 => 0x2A003053#32 ||| put rd 7 ||| put rs1 15 ||| put rs2 20
  | .froundD rd rs1 rm => 0x42400053#32 ||| put rd 7 ||| put rs1 15 ||| put rm 12
  | .froundnxD rd rs1 rm => 0x42500053#32 ||| put rd 7 ||| put rs1 15 ||| put rm 12
  | .fleqD rd rs1 rs2 => 0xA2004053#32 ||| put rd 7 ||| put rs1 15 ||| put rs2 20
  | .fltqD rd rs1 rs2 => 0xA2005053#32 ||| put rd 7 ||| put rs1 15 ||| put rs2 20
  | .fliH rd idx => 0xF4100053#32 ||| put rd 7 ||| put idx 15
  | .fminmH rd rs1 rs2 => 0x2C002053#32 ||| put rd 7 ||| put rs1 15 ||| put rs2 20
  | .fmaxmH rd rs1 rs2 => 0x2C003053#32 ||| put rd 7 ||| put rs1 15 ||| put rs2 20
  | .froundH rd rs1 rm => 0x44400053#32 ||| put rd 7 ||| put rs1 15 ||| put rm 12
  | .froundnxH rd rs1 rm => 0x44500053#32 ||| put rd 7 ||| put rs1 15 ||| put rm 12
  | .fleqH rd rs1 rs2 => 0xA4004053#32 ||| put rd 7 ||| put rs1 15 ||| put rs2 20
  | .fltqH rd rs1 rs2 => 0xA4005053#32 ||| put rd 7 ||| put rs1 15 ||| put rs2 20
  | .fliQ rd idx => 0xF6100053#32 ||| put rd 7 ||| put idx 15
  | .fminmQ rd rs1 rs2 => 0x2E002053#32 ||| put rd 7 ||| put rs1 15 ||| put rs2 20
  | .fmaxmQ rd rs1 rs2 => 0x2E003053#32 ||| put rd 7 ||| put rs1 15 ||| put rs2 20
  | .froundQ rd rs1 rm => 0x46400053#32 ||| put rd 7 ||| put rs1 15 ||| put rm 12
  | .froundnxQ rd rs1 rm => 0x46500053#32 ||| put rd 7 ||| put rs1 15 ||| put rm 12
  | .fleqQ rd rs1 rs2 => 0xA6004053#32 ||| put rd 7 ||| put rs1 15 ||| put rs2 20
  | .fltqQ rd rs1 rs2 => 0xA6005053#32 ||| put rd 7 ||| put rs1 15 ||| put rs2 20
  | .fcvtmodWD rd rs1 => 0xC2801053#32 ||| put rd 7 ||| put rs1 15
  | .fmvhXD rd rs1 => 0xE2100053#32 ||| put rd 7 ||| put rs1 15
  | .fmvpDX rd rs1 rs2 => 0xB2000053#32 ||| put rd 7 ||| put rs1 15 ||| put rs2 20
  | .fmvhXQ rd rs1 => 0xE6100053#32 ||| put rd 7 ||| put rs1 15
  | .fmvpQX rd rs1 rs2 => 0xB6000053#32 ||| put rd 7 ||| put rs1 15 ||| put rs2 20
  | .cboInval rs1 => 0x0000200F#32 ||| put rs1 15
  | .cboClean rs1 => 0x0010200F#32 ||| put rs1 15
  | .cboFlush rs1 => 0x0020200F#32 ||| put rs1 15
  | .cboZero rs1 => 0x0040200F#32 ||| put rs1 15
  | .prefetchI rs1 off => 0x00006013#32 ||| put rs1 15 ||| put off 25
  | .prefetchR rs1 off => 0x00106013#32 ||| put rs1 15 ||| put off 25
  | .prefetchW rs1 off => 0x00306013#32 ||| put rs1 15 ||| put off 25
  | .wrsNto => 0x00D00073#32
  | .wrsSto => 0x01D00073#32
  | .mopR0 rd rs1 => 0x81C04073#32 ||| put rd 7 ||| put rs1 15
  | .mopR1 rd rs1 => 0x81D04073#32 ||| put rd 7 ||| put rs1 15
  | .mopR2 rd rs1 => 0x81E04073#32 ||| put rd 7 ||| put rs1 15
  | .mopR3 rd rs1 => 0x81F04073#32 ||| put rd 7 ||| put rs1 15
  | .mopR4 rd rs1 => 0x85C04073#32 ||| put rd 7 ||| put rs1 15
  | .mopR5 rd rs1 => 0x85D04073#32 ||| put rd 7 ||| put rs1 15
  | .mopR6 rd rs1 => 0x85E04073#32 ||| put rd 7 ||| put rs1 15
  | .mopR7 rd rs1 => 0x85F04073#32 ||| put rd 7 ||| put rs1 15
  | .mopR8 rd rs1 => 0x89C04073#32 ||| put rd 7 ||| put rs1 15
  | .mopR9 rd rs1 => 0x89D04073#32 ||| put rd 7 ||| put rs1 15
  | .mopR10 rd rs1 => 0x89E04073#32 ||| put rd 7 ||| put rs1 15
  | .mopR11 rd rs1 => 0x89F04073#32 ||| put rd 7 ||| put rs1 15
  | .mopR12 rd rs1 => 0x8DC04073#32 ||| put rd 7 ||| put rs1 15
  | .mopR13 rd rs1 => 0x8DD04073#32 ||| put rd 7 ||| put rs1 15
  | .mopR14 rd rs1 => 0x8DE04073#32 ||| put rd 7 ||| put rs1 15
  | .mopR15 rd rs1 => 0x8DF04073#32 ||| put rd 7 ||| put rs1 15
  | .mopR16 rd rs1 => 0xC1C04073#32 ||| put rd 7 ||| put rs1 15
  | .mopR17 rd rs1 => 0xC1D04073#32 ||| put rd 7 ||| put rs1 15
  | .mopR18 rd rs1 => 0xC1E04073#32 ||| put rd 7 ||| put rs1 15
  | .mopR19 rd rs1 => 0xC1F04073#32 ||| put rd 7 ||| put rs1 15
  | .mopR20 rd rs1 => 0xC5C04073#32 ||| put rd 7 ||| put rs1 15
  | .mopR21 rd rs1 => 0xC5D04073#32 ||| put rd 7 ||| put rs1 15
  | .mopR22 rd rs1 => 0xC5E04073#32 ||| put rd 7 ||| put rs1 15
  | .mopR23 rd rs1 => 0xC5F04073#32 ||| put rd 7 ||| put rs1 15
  | .mopR24 rd rs1 => 0xC9C04073#32 ||| put rd 7 ||| put rs1 15
  | .mopR25 rd rs1 => 0xC9D04073#32 ||| put rd 7 ||| put rs1 15
  | .mopR26 rd rs1 => 0xC9E04073#32 ||| put rd 7 ||| put rs1 15
  | .mopR27 rd rs1 => 0xC9F04073#32 ||| put rd 7 ||| put rs1 15
  | .mopR28 rd rs1 => 0xCDC04073#32 ||| put rd 7 ||| put rs1 15
  | .mopR29 rd rs1 => 0xCDD04073#32 ||| put rd 7 ||| put rs1 15
  | .mopR30 rd rs1 => 0xCDE04073#32 ||| put rd 7 ||| put rs1 15
  | .mopR31 rd rs1 => 0xCDF04073#32 ||| put rd 7 ||| put rs1 15
  | .mopRr0 rd rs1 rs2 => 0x82004073#32 ||| put rd 7 ||| put rs1 15 ||| put rs2 20
  | .mopRr1 rd rs1 rs2 => 0x86004073#32 ||| put rd 7 ||| put rs1 15 ||| put rs2 20
  | .mopRr2 rd rs1 rs2 => 0x8A004073#32 ||| put rd 7 ||| put rs1 15 ||| put rs2 20
  | .mopRr3 rd rs1 rs2 => 0x8E004073#32 ||| put rd 7 ||| put rs1 15 ||| put rs2 20
  | .mopRr4 rd rs1 rs2 => 0xC2004073#32 ||| put rd 7 ||| put rs1 15 ||| put rs2 20
  | .mopRr5 rd rs1 rs2 => 0xC6004073#32 ||| put rd 7 ||| put rs1 15 ||| put rs2 20
  | .mopRr6 rd rs1 rs2 => 0xCA004073#32 ||| put rd 7 ||| put rs1 15 ||| put rs2 20
  | .mopRr7 rd rs1 rs2 => 0xCE004073#32 ||| put rd 7 ||| put rs1 15 ||| put rs2 20
  | .cIllegal => 0x0000#32
  | .cAddi4spn rdp nzuimm => 0x0000#32 ||| put rdp 2 ||| put (nzuimm.extractLsb' 4 4) 7 ||| put (nzuimm.extractLsb' 2 2) 11 ||| put (nzuimm.extractLsb' 1 1) 5 ||| put (nzuimm.extractLsb' 0 1) 6
  | .cFld rdp rs1p uimm => 0x2000#32 ||| put rdp 2 ||| put rs1p 7 ||| put (uimm.extractLsb' 3 2) 5 ||| put (uimm.extractLsb' 0 3) 10
  | .cLq rdp rs1p uimm => 0x2000#32 ||| put rdp 2 ||| put rs1p 7 ||| put (uimm.extractLsb' 4 1) 10 ||| put (uimm.extractLsb' 2 2) 5 ||| put (uimm.extractLsb' 0 2) 11
  | .cLw rdp rs1p uimm => 0x4000#32 ||| put rdp 2 ||| put rs1p 7 ||| put (uimm.extractLsb' 4 1) 5 ||| put (uimm.extractLsb' 1 3) 10 ||| put (uimm.extractLsb' 0 1) 6
  | .cFlw rdp rs1p uimm => 0x6000#32 ||| put rdp 2 ||| put rs1p 7 ||| put (uimm.extractLsb' 4 1) 5 ||| put (uimm.extractLsb' 1 3) 10 ||| put (uimm.extractLsb' 0 1) 6
  | .cLd rdp rs1p uimm => 0x6000#32 ||| put rdp 2 ||| put rs1p 7 ||| put (uimm.extractLsb' 3 2) 5 ||| put (uimm.extractLsb' 0 3) 10
  | .cFsd rs1p rs2p uimm => 0xA000#32 ||| put rs1p 7 ||| put rs2p 2 ||| put (uimm.extractLsb' 3 2) 5 ||| put (uimm.extractLsb' 0 3) 10
  | .cSq rs1p rs2p uimm => 0xA000#32 ||| put rs1p 7 ||| put rs2p 2 ||| put (uimm.extractLsb' 4 1) 10 ||| put (uimm.extractLsb' 2 2) 5 ||| put (uimm.extractLsb' 0 2) 11
  | .cSw rs1p rs2p uimm => 0xC000#32 ||| put rs1p 7 ||| put rs2p 2 ||| put (uimm.extractLsb' 4 1) 5 ||| put (uimm.extractLsb' 1 3) 10 ||| put (uimm.extractLsb' 0 1) 6
  | .cFsw rs1p rs2p uimm => 0xE000#32 ||| put rs1p 7 ||| put rs2p 2 ||| put (uimm.extractLsb' 4 1) 5 ||| put (uimm.extractLsb' 1 3) 10 ||| put (uimm.extractLsb' 0 1) 6
  | .cSd rs1p rs2p uimm => 0xE000#32 ||| put rs1p 7 ||| put rs2p 2 ||| put (uimm.extractLsb' 3 2) 5 ||| put (uimm.extractLsb' 0 3) 10
  | .cNop imm => 0x0001#32 ||| put (imm.extractLsb' 5 1) 12 ||| put (imm.extractLsb' 0 5) 2
  | .cAddi rd imm => 0x0001#32 ||| put rd 7 ||| put (imm.extractLsb' 5 1) 12 ||| put (imm.extractLsb' 0 5) 2
  | .cJal off => 0x2001#32 ||| put (off.extractLsb' 10 1) 12 ||| put (off.extractLsb' 9 1) 8 ||| put (off.extractLsb' 7 2) 9 ||| put (off.extractLsb' 6 1) 6 ||| put (off.extractLsb' 5 1) 7 ||| put (off.extractLsb' 4 1) 2 ||| put (off.extractLsb' 3 1) 11 ||| put (off.extractLsb' 0 3) 3
  | .cAddiw rd imm => 0x2001#32 ||| put rd 7 ||| put (imm.extractLsb' 5 1) 12 ||| put (imm.extractLsb' 0 5) 2
  | .cLi rd imm => 0x4001#32 ||| put rd 7 ||| put (imm.extractLsb' 5 1) 12 ||| put (imm.extractLsb' 0 5) 2
  | .cAddi16sp nzimm => 0x6101#32 ||| put (nzimm.extractLsb' 5 1) 12 ||| put (nzimm.extractLsb' 3 2) 3 ||| put (nzimm.extractLsb' 2 1) 5 ||| put (nzimm.extractLsb' 1 1) 2 ||| put (nzimm.extractLsb' 0 1) 6
  | .cLui rd imm => 0x6001#32 ||| put rd 7 ||| put (imm.extractLsb' 5 1) 12 ||| put (imm.extractLsb' 0 5) 2
  | .cMop1 => 0x6081#32
  | .cMop3 => 0x6181#32
  | .cMop5 => 0x6281#32
  | .cMop7 => 0x6381#32
  | .cMop9 => 0x6481#32
  | .cMop11 => 0x6581#32
  | .cMop13 => 0x6681#32
  | .cMop15 => 0x6781#32
  | .cSrli rdp shamt => 0x8001#32 ||| put rdp 7 ||| put (shamt.extractLsb' 5 1) 12 ||| put (shamt.extractLsb' 0 5) 2
  | .cSrai rdp shamt => 0x8401#32 ||| put rdp 7 ||| put (shamt.extractLsb' 5 1) 12 ||| put (shamt.extractLsb' 0 5) 2
  | .cAndi rdp imm => 0x8801#32 ||| put rdp 7 ||| put (imm.extractLsb' 5 1) 12 ||| put (imm.extractLsb' 0 5) 2
  | .cSub rdp rs2p => 0x8C01#32 ||| put rdp 7 ||| put rs2p 2
  | .cXor rdp rs2p => 0x8C21#32 ||| put rdp 7 ||| put rs2p 2
  | .cOr rdp rs2p => 0x8C41#32 ||| put rdp 7 ||| put rs2p 2
  | .cAnd rdp rs2p => 0x8C61#32 ||| put rdp 7 ||| put rs2p 2
  | .cSubw rdp rs2p => 0x9C01#32 ||| put rdp 7 ||| put rs2p 2
  | .cAddw rdp rs2p => 0x9C21#32 ||| put rdp 7 ||| put rs2p 2
  | .cJ off => 0xA001#32 ||| put (off.extractLsb' 10 1) 12 ||| put (off.extractLsb' 9 1) 8 ||| put (off.extractLsb' 7 2) 9 ||| put (off.extractLsb' 6 1) 6 ||| put (off.extractLsb' 5 1) 7 ||| put (off.extractLsb' 4 1) 2 ||| put (off.extractLsb' 3 1) 11 ||| put (off.extractLsb' 0 3) 3
  | .cBeqz rs1p off => 0xC001#32 ||| put rs1p 7 ||| put (off.extractLsb' 7 1) 12 ||| put (off.extractLsb' 5 2) 5 ||| put (off.extractLsb' 4 1) 2 ||| put (off.extractLsb' 2 2) 10 ||| put (off.extractLsb' 0 2) 3
  | .cBnez rs1p off => 0xE001#32 ||| put rs1p 7 ||| put (off.extractLsb' 7 1) 12 ||| put (off.extractLsb' 5 2) 5 ||| put (off.extractLsb' 4 1) 2 ||| put (off.extractLsb' 2 2) 10 ||| put (off.extractLsb' 0 2) 3
  | .cSlli rd shamt => 0x0002#32 ||| put rd 7 ||| put (shamt.extractLsb' 5 1) 12 ||| put (shamt.extractLsb' 0 5) 2
  | .cFldsp rd uimm => 0x2002#32 ||| put rd 7 ||| put (uimm.extractLsb' 3 3) 2 ||| put (uimm.extractLsb' 2 1) 12 ||| put (uimm.extractLsb' 0 2) 5
  | .cLqsp rd uimm => 0x2002#32 ||| put rd 7 ||| put (uimm.extractLsb' 2 4) 2 ||| put (uimm.extractLsb' 1 1) 12 ||| put (uimm.extractLsb' 0 1) 6
  | .cLwsp rd uimm => 0x4002#32 ||| put rd 7 ||| put (uimm.extractLsb' 4 2) 2 ||| put (uimm.extractLsb' 3 1) 12 ||| put (uimm.extractLsb' 0 3) 4
  | .cFlwsp rd uimm => 0x6002#32 ||| put rd 7 ||| put (uimm.extractLsb' 4 2) 2 ||| put (uimm.extractLsb' 3 1) 12 ||| put (uimm.extractLsb' 0 3) 4
  | .cLdsp rd uimm => 0x6002#32 ||| put rd 7 ||| put (uimm.extractLsb' 3 3) 2 ||| put (uimm.extractLsb' 2 1) 12 ||| put (uimm.extractLsb' 0 2) 5
  | .cJr rs1 => 0x8002#32 ||| put rs1 7
  | .cMv rd rs2 => 0x8002#32 ||| put rd 7 ||| put rs2 2
  | .cEbreak => 0x9002#32
  | .cJalr rs1 => 0x9002#32 ||| put rs1 7
  | .cAdd rd rs2 => 0x9002#32 ||| put rd 7 ||| put rs2 2
  | .cFsdsp rs2 uimm => 0xA002#32 ||| put rs2 2 ||| put (uimm.extractLsb' 3 3) 7 ||| put (uimm.extractLsb' 0 3) 10
  | .cSqsp rs2 uimm => 0xA002#32 ||| put rs2 2 ||| put (uimm.extractLsb' 2 4) 7 ||| put (uimm.extractLsb' 0 2) 11
  | .cSwsp rs2 uimm => 0xC002#32 ||| put rs2 2 ||| put (uimm.extractLsb' 4 2) 7 ||| put (uimm.extractLsb' 0 4) 9
  | .cFswsp rs2 uimm => 0xE002#32 ||| put rs2 2 ||| put (uimm.extractLsb' 4 2) 7 ||| put (uimm.extractLsb' 0 4) 9
  | .cSdsp rs2 uimm => 0xE002#32 ||| put rs2 2 ||| put (uimm.extractLsb' 3 3) 7 ||| put (uimm.extractLsb' 0 3) 10
  | .cLbu rdp rs1p uimm => 0x8000#32 ||| put rdp 2 ||| put rs1p 7 ||| put (uimm.extractLsb' 1 1) 5 ||| put (uimm.extractLsb' 0 1) 6
  | .cLhu rdp rs1p uimm => 0x8400#32 ||| put rdp 2 ||| put rs1p 7 ||| put uimm 5
  | .cLh rdp rs1p uimm => 0x8440#32 ||| put rdp 2 ||| put rs1p 7 ||| put uimm 5
  | .cSb rs1p rs2p uimm => 0x8800#32 ||| put rs1p 7 ||| put rs2p 2 ||| put (uimm.extractLsb' 1 1) 5 ||| put (uimm.extractLsb' 0 1) 6
  | .cSh rs1p rs2p uimm => 0x8C00#32 ||| put rs1p 7 ||| put rs2p 2 ||| put uimm 5
  | .cZextB rdp => 0x9C61#32 ||| put rdp 7
  | .cSextB rdp => 0x9C65#32 ||| put rdp 7
  | .cZextH rdp => 0x9C69#32 ||| put rdp 7
  | .cSextH rdp => 0x9C6D#32 ||| put rdp 7
  | .cZextW rdp => 0x9C71#32 ||| put rdp 7
  | .cNot rdp => 0x9C75#32 ||| put rdp 7
  | .cMul rdp rs2p => 0x9C41#32 ||| put rdp 7 ||| put rs2p 2
  | .cmPush rlist spimm => 0xB802#32 ||| put rlist 4 ||| put spimm 2
  | .cmPop rlist spimm => 0xBA02#32 ||| put rlist 4 ||| put spimm 2
  | .cmPopretz rlist spimm => 0xBC02#32 ||| put rlist 4 ||| put spimm 2
  | .cmPopret rlist spimm => 0xBE02#32 ||| put rlist 4 ||| put spimm 2
  | .cmMvsa01 r1s r2s => 0xAC22#32 ||| put r1s 7 ||| put r2s 2
  | .cmMva01s r1s r2s => 0xAC62#32 ||| put r1s 7 ||| put r2s 2
  | .cmJt index => 0xA002#32 ||| put index 2
  | .cmJalt index => 0xA002#32 ||| put index 2

/-- The parcels of an instruction, the lowest-numbered bits first (30_encoding.md R150). -/
def encodeParcels (i : Instr) : List Parcel :=
  if i.len = 2 then [(encode i).setWidth 16]
  else [(encode i).setWidth 16, (encode i).extractLsb' 16 16]

/-- RV64 with Zcmp and Zcmt in the place of Zcd and C. -/
def configZc64 : Config :=
  { configReset with ext := { extFull64 with c := false, zcd := false, zcmp := true, zcmt := true, zce := true } }

/-- RV32 with every extension that can stand together. -/
def config32 : Config := { configReset with xlen := .rv32, ext := { extFull64 with zcf := true } }

/-- RV128 with C, the one extension that has RV128 forms (93_implementation_defined.md section 2). -/
def config128 : Config := { configReset with xlen := .rv128, ext := { c := true, zca := true } }

/-- The configurations in which a row of the opcode table is looked for, the one with the most specific rows first: no
one configuration has every row, and some bits are rows of several (00_scope.md R11; 49_zc.md R744). -/
def tableConfigs : List Config := [configZc64, configReset, config32, config128]

/-- The first of the configurations that decodes the bits, with the instruction. -/
noncomputable def firstDecode (w : InstBits) : List Config → Option (Config × Instr)
  | [] => none
  | c :: cs =>
    match decode c w with
    | .ok i => some (c, i)
    | .error _ => firstDecode w cs

/-- The bits of an instruction of `nbits` bits as the opcode table numbers them: what lies above is 0. -/
def tableBits (nbits w : Nat) : InstBits := BitVec.ofNat 32 (w % 2 ^ nbits)

/-- The instruction the decoder reads in the bits of a row of the opcode table, in the first configuration of
`tableConfigs` that has one. -/
noncomputable def decodeTableWord (nbits w : Nat) : Option Instr :=
  match firstDecode (tableBits nbits w) tableConfigs with
  | some (_, i) => some i
  | none => none

end Sys2Proof
end

