-- ==== Sys2Proof/Machine/State.lean ====
section
/-! DEFINITION. The state of a hart and the memory it sees (10_state.md R67), the exceptions, the outcomes, and the reset state. -/

namespace Sys2Proof.Machine

/-- The exceptions of 60_exceptions.md R753, each with its information, and an interrupt with its cause (R773). -/
inductive Exc where
  | instructionAddressMisaligned (target : Cell)
  | instructionAccessFault (addr : Cell)
  | illegalInstruction (inst : InstBits)
  | breakpoint (pc : Cell)
  | loadAddressMisaligned (ea : Cell)
  | loadAccessFault (ea : Cell)
  | storeAddressMisaligned (ea : Cell)
  | storeAccessFault (ea : Cell)
  | environmentCall
  | interrupt (cause : Nat)
  deriving DecidableEq, Repr

/-- The reported outcome of a terminated hart: the exception with its information, and pc (60_exceptions.md R762, R777). -/
structure TrapReport where
  cause : Exc
  pc : Cell
  deriving DecidableEq, Repr

/-- A load reservation: the address and the size in bytes of the LR that registered it, and what its reservation set
holds beside those bytes, as ranges of addresses, each with its first address and its size (10_state.md R59). -/
structure Reservation where
  addr : Nat
  size : Nat
  extra : List (Nat × Nat)
  deriving DecidableEq, Repr

/-- An access to an I/O device, in program order (20_memory.md R82): the address, the width in bytes, and for a write
the bytes in address order. -/
inductive IoEvent where
  | read (addr : Nat) (width : Nat)
  | write (addr : Nat) (bytes : List Byte)
  deriving DecidableEq, Repr

/-- The value source of an hpmcounter (44_zicsr_counters.md R421): the platform's events, or the constant the counter
holds. -/
inductive HpmSource where
  | events
  | constant
  deriving DecidableEq, Repr

/-- An implemented hpmcounter (10_state.md R55; 44_zicsr_counters.md R421): its number, 3 to 31, its width in bits, at
most 64, its value source, and its value. -/
structure HpmCounter where
  number : Nat
  width : Nat := 64
  source : HpmSource := .events
  value : BitVec 64
  deriving DecidableEq, Repr

/-- What a byte of memory that nothing has written reads as. The spec gives no contents (10_state.md R66); 0 is the
model's choice (assumption log 3). -/
def unlistedByte : Byte := 0

/-- The state of the machine: one hart, the memory it sees, and its configuration. -/
structure State where
  /-- The configuration, constant during a run (00_scope.md R7). -/
  cfg : Config
  /-- x0..x31, each XLEN bits, zero-extended to a cell; the cell of x0 is never read (10_state.md R30). -/
  x : Vector Cell 32
  /-- f0..f31, each FLEN bits, zero-extended to a cell (10_state.md R40). -/
  f : Vector Cell 32
  /-- The program counter, XLEN bits, zero-extended (10_state.md R35). -/
  pc : Cell
  /-- frm, fcsr[7:5] (10_state.md R48). -/
  frm : BitVec 3
  /-- fflags, fcsr[4:0]: NV DZ OF UF NX (10_state.md R46). -/
  fflags : BitVec 5
  /-- The 64-bit counters (10_state.md R51-R53). -/
  cycle : BitVec 64
  time : BitVec 64
  instret : BitVec 64
  /-- The implemented hpmcounters, HPM (10_state.md R55). -/
  hpm : List HpmCounter
  /-- jvt, XLEN bits, zero-extended (10_state.md R56). -/
  jvt : Cell
  /-- The load reservation, where one is held (10_state.md R59). -/
  reservation : Option Reservation
  /-- Stalled in the WRS instruction at pc (10_state.md R63). -/
  stalled : Bool
  /-- Memory: the bytes that differ from what an unlisted address reads as, addresses strictly rising. -/
  mem : List Host.Cell
  /-- The fetch image (10_state.md R62; 70_reset_and_hazards.md R801): for each store since this hart's last FENCE.I, the
  latest first, the bytes it changed and what each held before: the older images of instruction memory that a fetch of
  a parcel may still return. -/
  stale : List (List Host.Cell)
  /-- The accesses made to I/O devices so far. -/
  ioTrace : List IoEvent
  /-- The environment's input interrupt_pending, whether the interrupt is enabled, and its cause (60_exceptions.md R773). -/
  interruptPending : Bool
  interruptEnabled : Bool
  interruptCause : Nat
  /-- The report of a fatal trap: the hart is terminated (60_exceptions.md R777). -/
  halted : Option TrapReport
  /-- The model's own counter of draws of free values (Config.lean). -/
  draws : Nat
  deriving DecidableEq, Repr

/-- What an execution environment does for a requested or an invisible trap: the function f of 60_exceptions.md R751 at
one occasion. -/
structure Service where
  /-- A requested trap ends the hart. -/
  terminate : Bool
  /-- The raising instruction is attempted again, after what the environment has put right. -/
  retry : Bool
  /-- The address at which the hart goes on; none: after the raising instruction. -/
  resume : Option Cell
  /-- Writes of x and f registers. -/
  xWrites : List (Reg × Cell)
  fWrites : List (Reg × Cell)
  /-- Stores to memory, each the bytes it writes. -/
  stores : List (List (Nat × Byte))
  /-- What frm, fflags, jvt and the reservation become, where they change. -/
  frm : Option (BitVec 3)
  fflags : Option (BitVec 5)
  jvt : Option Cell
  reservation : Option (Option Reservation)
  /-- Accesses to I/O devices made for the instruction. -/
  io : List IoEvent
  /-- The fetch is synchronised with memory. -/
  syncFetch : Bool
  deriving DecidableEq, Repr, Inhabited

/-- The reasons the machine stops. -/
inductive Fault where
  /-- Raised by `step` on a hart that a fatal trap has terminated: the hart takes no further step
  (60_exceptions.md R751, R777). Safe: the spec gives such a hart no step. -/
  | hartTerminated (report : TrapReport)
  deriving DecidableEq, Repr

/-- The reasons an instruction has no meaning in the model. -/
inductive Refusal where
  /-- Answered by `exec` for an instruction that has no meaning yet. Safe: nothing is said of it. -/
  | notModelled (mnemonic : String)
  deriving DecidableEq, Repr

/-- The state of the hart right after reset (10_state.md R66; 70_reset_and_hazards.md R791): the values the spec gives or
uses in its examples, and the configuration of assumption log 1. No program is loaded. -/
def State.reset : State :=
  { cfg := configReset
    x := Vector.replicate 32 0
    f := Vector.replicate 32 0
    pc := 0x1000
    frm := 0
    fflags := 0
    cycle := 0
    time := 0
    instret := 0
    hpm := []
    jvt := 0
    reservation := none
    stalled := false
    mem := []
    stale := []
    ioTrace := []
    interruptPending := false
    interruptEnabled := false
    interruptCause := 0
    halted := none
    draws := 0 }

/-- The result of a step. -/
abbrev Result := Host.Outcome State Fault Refusal

end Sys2Proof.Machine

namespace Sys2Proof

/-! ## The environment's part of TRAP (60_exceptions.md R751): free, of the machine state and the exception with its
information; the state holds the hart and the pc of the raising instruction. -/

/-- What the environment decides about an exception whose policy is `decided`. -/
opaque Config.trapDecision : Machine.State → Machine.Exc → TrapAction

/-- f of requested(f) and invisible(f). -/
opaque Config.service : Machine.State → Machine.Exc → Machine.Service

end Sys2Proof
end

