-- ==== Sys2Proof/Machine/Ops.lean ====
section
/-! DEFINITION. The named operations over registers, memory and the environment that every meaning is written from:
register reads and writes, retirement, taking an exception and the return from it, the memory map, loads and stores. -/

namespace Sys2Proof

/-! ## The memory map (20_memory.md R70-R71) and the trap policy (60_exceptions.md R751) -/

/-- The addresses of `n` bytes from `a`, modulo 2^XLEN (R71). -/
def span (bits a n : Nat) : List Nat := (List.range n).map fun i => (a + i) % 2 ^ bits

/-- The region of MEMMAP that holds an address; none where it is vacant (R70). -/
def Config.regionAt (c : Config) (a : Nat) : Option Region :=
  c.regions.find? fun r => decide (r.base ≤ a ∧ a < r.base + r.size)

/-- A region permits a kind of access. -/
def Region.permits (r : Region) : AccessKind → Bool
  | .fetch => r.executable
  | .load => r.readable
  | .store => r.writable

/-- Every address of a list lies in a region that satisfies a condition. -/
def Config.allIn (c : Config) (addrs : List Nat) (p : Region → Bool) : Bool :=
  addrs.all fun a => match c.regionAt a with
    | none => false
    | some r => p r

/-- The `n` bytes at `a` are accessible for loads or stores of that width (R70, R77). -/
def Config.accessible (c : Config) (a n : Nat) (kind : AccessKind) : Bool :=
  c.allIn (span c.bits a n) fun r => r.permits kind && r.widths.contains n

/-- An address lies in an I/O device. -/
def Config.isIo (c : Config) (a : Nat) : Bool :=
  match c.regionAt a with
  | some r => r.kind == .io
  | none => false

/-- All `n` bytes at `a` lie in one misaligned atomicity granule: in one block of its size, in regions that have it
(20_memory.md R79; 43_m_a.md R384). -/
def Config.inGranule (c : Config) (a n : Nat) : Bool :=
  match c.regionAt a with
  | some r =>
    match r.mag with
    | some g => a / g == (a + n - 1) / g && c.allIn (span c.bits a n) fun q => q.mag == some g
    | none => false
  | none => false

/-- The `n` bytes at `a` may be fetched (R77). A region's list of widths does not limit fetches, nor the table read of
Zcmt: that is the model's choice (DESIGN CHOICE, assumption log 29). -/
def Config.fetchable (c : Config) (a n : Nat) : Bool :=
  c.allIn (span c.bits a n) fun r => r.permits .fetch

/-- TRAP: the policy for an exception (R751). -/
def Config.trapAction (c : Config) : Machine.Exc → TrapAction
  | .instructionAddressMisaligned _ => c.trap.instructionAddressMisaligned
  | .instructionAccessFault _ => c.trap.instructionAccessFault
  | .illegalInstruction _ => c.trap.illegalInstruction
  | .breakpoint _ => c.trap.breakpoint
  | .loadAddressMisaligned _ => c.trap.loadAddressMisaligned
  | .loadAccessFault _ => c.trap.loadAccessFault
  | .storeAddressMisaligned _ => c.trap.storeAddressMisaligned
  | .storeAccessFault _ => c.trap.storeAccessFault
  | .environmentCall => c.trap.environmentCall
  | .interrupt _ => c.trap.interrupt

/-! ## The legal values of jvt (10_state.md R56) -/

/-- A value of jvt.BASE, the six bits of MODE zero. -/
def Config.jvtValue (c : Config) (v : Cell) : BitVec c.bits := v.setWidth c.bits >>> 6 <<< 6

/-- JVT_BASE_LEGAL: jvt.BASE can hold the value. -/
def Config.jvtHolds (c : Config) (v : BitVec c.bits) : Bool :=
  match c.jvtBase with
  | .any => true
  | .readOnly b => v == c.jvtValue b
  | .alignedTo k => v.toNat % 2 ^ max 6 k == 0
  | .oneOf b bs => (b :: bs).any fun w => v == c.jvtValue w

/-- The legal value jvt takes for the write of a value at a draw: the value itself where BASE can hold it, MODE holding
only 0; else a legal value of the implementation's choice. -/
def Config.jvtLegal (c : Config) (draw : Nat) (v : BitVec c.bits) : BitVec c.bits :=
  if c.jvtHolds (v >>> 6 <<< 6) then v >>> 6 <<< 6
  else
    match c.jvtBase with
    | .any => v >>> 6 <<< 6
    | .readOnly b => c.jvtValue b
    | .alignedTo k => (Config.jvtChoice draw (v.setWidth 128)).setWidth c.bits >>> max 6 k <<< max 6 k
    | .oneOf b bs =>
      c.jvtValue ((b :: bs).getD ((Config.jvtChoice draw (v.setWidth 128)).toNat % (bs.length + 1)) b)

end Sys2Proof

namespace Sys2Proof.Machine

/-! ## Integer registers (10_state.md R30) -/

/-- x[r] at `n` bits; x0 reads as zero. -/
def State.readX (s : State) (n : Nat) (r : Reg) : BitVec n :=
  if r = 0 then 0 else (s.x[r.toNat]'r.isLt).setWidth n

/-- x[r] <- v; a write to x0 is discarded. -/
def State.setX (s : State) {n : Nat} (r : Reg) (v : BitVec n) : State :=
  if r = 0 then s else { s with x := s.x.set r.toNat (v.setWidth 128) r.isLt }

/-- The register a 3-bit specifier names, x8..x15 or f8..f15 (30_encoding.md R181). -/
def wideReg (r : Reg3) : Reg := 0b01#2 ++ r

/-! ## Floating-point registers (10_state.md R40-R44, R64) -/

/-- The cell of f[r]. -/
def State.readF (s : State) (r : Reg) : Cell := s.f[r.toNat]'r.isLt

/-- f[r] <- v, as it stands. -/
def State.setF (s : State) (r : Reg) (v : Cell) : State :=
  { s with f := s.f.set r.toNat v r.isLt }

/-- box of R43: a result of `w` bits in a register of FLEN bits, the bits above it all 1. -/
def box (flen : Nat) {w : Nat} (v : BitVec w) : Cell :=
  ((BitVec.allOnes flen <<< w) ||| v.setWidth flen).setWidth 128

/-- unbox of R42: an operand of `w` bits, the canonical NaN unless every bit above it is 1. -/
def unbox (flen w : Nat) (canonicalNaN : BitVec w) (cell : Cell) : BitVec w :=
  if cell.setWidth flen >>> w = BitVec.allOnes flen >>> w then cell.setWidth w else canonicalNaN

/-- A pair of x registers read as one operand of 2·XLEN bits, the even register low; x0 is all zero (R64). -/
def State.readPair (s : State) (n w : Nat) (r : Reg) : BitVec w :=
  if r = 0 then 0 else ((s.readX n (r + 1)).setWidth w <<< n) ||| (s.readX n r).setWidth w

/-- A result of 2·XLEN bits written to a pair of x registers; a write to x0 takes no effect (R64). -/
def State.setPair (s : State) (n : Nat) {w : Nat} (r : Reg) (v : BitVec w) : State :=
  if r = 0 then s else (s.setX r (v.setWidth n)).setX (r + 1) ((v >>> n).setWidth n)

/-- A floating-point operand of `w` bits: from f[r] through unbox, or with Zfinx from x[r], without a check, or from
a pair where XLEN < w (R42, R64). -/
def State.readFp (s : State) (w : Nat) (canonicalNaN : BitVec w) (r : Reg) : BitVec w :=
  if s.cfg.ext.zfinx then
    if w ≤ s.cfg.bits then (s.readX s.cfg.bits r).setWidth w else s.readPair s.cfg.bits w r
  else unbox s.cfg.flen w canonicalNaN (s.readF r)

/-- A floating-point result of `w` bits: to f[r] through box, or with Zfinx to x[r], sign-extended, or to a pair
where XLEN < w (R43, R64). -/
def State.setFp (s : State) {w : Nat} (r : Reg) (v : BitVec w) : State :=
  if s.cfg.ext.zfinx then
    if w ≤ s.cfg.bits then s.setX r (v.signExtend s.cfg.bits) else s.setPair s.cfg.bits r v
  else s.setF r (box s.cfg.flen v)

/-! ## The program counter, retirement (10_state.md R35-R37; 44_zicsr_counters.md R415-R420) -/

/-- pc at `n` bits. -/
def State.readPc (s : State) (n : Nat) : BitVec n := s.pc.setWidth n

/-- The address `len` bytes after pc, modulo 2^XLEN (R36). -/
def State.nextPc (s : State) (len : Nat) : BitVec s.cfg.bits :=
  s.readPc s.cfg.bits + BitVec.ofNat s.cfg.bits len

/-- An hpmcounter over the step of a draw: one that counts events advances, a constant one stays (R421). -/
def HpmCounter.advance (draw : Nat) (k : HpmCounter) : HpmCounter :=
  match k.source with
  | .events => { k with value := k.value + BitVec.ofNat 64 (Config.hpmAdvance k.number draw) }
  | .constant => k

/-- Time passes: cycle, time and the hpmcounters that count events advance by free amounts, and the next draws are new
ones. -/
def State.tick (s : State) : State :=
  { s with
    cycle := s.cycle + BitVec.ofNat 64 (Config.cycleAdvance s.draws)
    time := s.time + BitVec.ofNat 64 (Config.timeAdvance s.draws)
    hpm := s.hpm.map (HpmCounter.advance s.draws)
    draws := s.draws + 1 }

/-- The instruction retires and the next one is fetched from `target` (00_scope.md R14; R420). -/
def State.retireTo (s : State) {n : Nat} (target : BitVec n) : State :=
  { s.tick with pc := target.setWidth 128, instret := s.instret + 1 }

/-- The instruction retires and execution goes on after its `len` bytes (R36). -/
def State.retire (s : State) (len : Nat) : State := s.retireTo (s.nextPc len)

/-! ## Memory (10_state.md R58; 20_memory.md R70-R84) -/

/-- The canonical form of memory: addresses strictly rising, and no entry equal to what an unlisted address reads as. -/
def memWf : List Host.Cell → Bool
  | [] => true
  | (_, v) :: [] => v != unlistedByte
  | (a, v) :: (b, w) :: rest => v != unlistedByte && decide (a < b) && memWf ((b, w) :: rest)

/-- The byte at an address. -/
def memGet : List Host.Cell → Nat → Byte
  | [], _ => unlistedByte
  | (k, v) :: rest, a => if k = a then v else memGet rest a

/-- Write a byte and keep the canonical form. -/
def memSet : List Host.Cell → Nat → Byte → List Host.Cell
  | [], a, b => if b = unlistedByte then [] else [(a, b)]
  | (k, v) :: rest, a, b =>
    if a < k then (if b = unlistedByte then (k, v) :: rest else (a, b) :: (k, v) :: rest)
    else if a = k then (if b = unlistedByte then rest else (a, b) :: rest)
    else (k, v) :: memSet rest a b

/-- The byte a load of this hart sees at an address. -/
def State.byte (s : State) (a : Nat) : Byte := memGet s.mem a

/-- Store a byte. -/
def State.putByte (s : State) (a : Nat) (b : Byte) : State := { s with mem := memSet s.mem a b }

/-- The image that a store makes old, which stays fetchable until FENCE.I (R84): what the bytes it has changed, among those
at `addrs`, held in the state `old` before it. A store that changes nothing makes none. -/
def State.recordStale (s old : State) (addrs : List Nat) : State :=
  { s with
    stale :=
      match (addrs.filter fun a => s.byte a != old.byte a).map fun a => (a, old.byte a) with
      | [] => s.stale
      | p :: ps => (p :: ps) :: s.stale }

/-- The address-misaligned exception of an access kind (60_exceptions.md R753). -/
def misalignedExc (kind : AccessKind) (ea : Nat) : Exc :=
  match kind with
  | .fetch => .instructionAddressMisaligned (BitVec.ofNat 128 ea)
  | .load => .loadAddressMisaligned (BitVec.ofNat 128 ea)
  | .store => .storeAddressMisaligned (BitVec.ofNat 128 ea)

/-- The access fault of an access kind (60_exceptions.md R753). -/
def accessFaultExc (kind : AccessKind) (ea : Nat) : Exc :=
  match kind with
  | .fetch => .instructionAccessFault (BitVec.ofNat 128 ea)
  | .load => .loadAccessFault (BitVec.ofNat 128 ea)
  | .store => .storeAccessFault (BitVec.ofNat 128 ea)

/-- A misaligned load or store traps: only under may_trap, where no granule covers it and the environment does not
complete it (R78, R79). -/
def State.misalignedTraps (s : State) (mag : Bool) (ea n : Nat) (kind : AccessKind) : Bool :=
  ea % n != 0 && s.cfg.misaligned == .mayTrap && !(mag && s.cfg.inGranule ea n) &&
    !Config.misalignedOk s.draws ea n kind

/-- The exception of an access that may be made only where `ok` holds: misaligned before inaccessible (R77-R79;
60_exceptions.md R760). -/
def State.checkAs (s : State) (mag : Bool) (ea n : Nat) (kind : AccessKind) (ok : Bool) : Option Exc :=
  if s.misalignedTraps mag ea n kind then
    if Config.misalignedAsAccessFault s.draws ea n kind then some (accessFaultExc kind ea)
    else some (misalignedExc kind ea)
  else if ok then none
  else some (accessFaultExc kind ea)

/-- check(addr, n, kind) of a load or store (R77-R79). -/
def State.check (s : State) (mag : Bool) (ea n : Nat) (kind : AccessKind) : Option Exc :=
  s.checkAs mag ea n kind (s.cfg.accessible ea n kind)

/-- The bytes as a number, the first least significant. -/
def leToNat : List Byte → Nat
  | [] => 0
  | b :: bs => b.toNat + 256 * leToNat bs

/-- The `n` lowest bytes of a number, the least significant first. -/
def natToLe : Nat → Nat → List Byte
  | 0, _ => []
  | n + 1, v => BitVec.ofNat 8 v :: natToLe n (v / 256)

/-- The value of bytes in address order (R72). -/
def bytesToNat : Endian → List Byte → Nat
  | .little, bs => leToNat bs
  | .big, bs => leToNat bs.reverse

/-- The bytes of a value in address order (R72). -/
def natToBytes : Endian → Nat → Nat → List Byte
  | .little, n, v => natToLe n v
  | .big, n, v => (natToLe n v).reverse

/-- The byte an explicit read returns: a device's answer is free (R82). -/
def State.loadByte (s : State) (a : Nat) : Byte :=
  if s.cfg.isIo a then Config.ioByte s.draws a else s.byte a

/-- The bytes of an explicit read, in address order. -/
def State.loadBytes (s : State) (ea n : Nat) : List Byte := (span s.cfg.bits ea n).map s.loadByte

/-- The effect of a read: an access to a device is recorded. -/
def State.noteRead (s : State) (ea n : Nat) : State :=
  if (span s.cfg.bits ea n).any s.cfg.isIo then { s with ioTrace := s.ioTrace ++ [.read ea n] } else s

/-- Store a byte to main memory; a byte sent to a device changes no memory. -/
def State.storeByte (s : State) (a : Nat) (b : Byte) : State :=
  if s.cfg.isIo a then s else s.putByte a b

/-- Store bytes at addresses, one after another. -/
def State.storeBytes (s : State) : List Nat → List Byte → State
  | a :: as, b :: bs => State.storeBytes (s.storeByte a b) as bs
  | _, _ => s

/-- The effect of a write beside memory: an access to a device is recorded. -/
def State.noteWrite (s : State) (ea : Nat) (bs : List Byte) : State :=
  if (span s.cfg.bits ea bs.length).any s.cfg.isIo then { s with ioTrace := s.ioTrace ++ [.write ea bs] } else s

/-- MemRead without its check: the value, and the state after a device has answered (R72). -/
def State.readMem (s : State) (ea n : Nat) : Nat × State :=
  (bytesToNat s.cfg.endian (s.loadBytes ea n), s.noteRead ea n)

/-- MemWrite without its check (R72). -/
def State.writeMem (s : State) (ea n v : Nat) : State :=
  ((s.storeBytes (span s.cfg.bits ea n) (natToBytes s.cfg.endian n v)).recordStale s (span s.cfg.bits ea n)).noteWrite ea
    (natToBytes s.cfg.endian n v)

/-- MemRead(ea, n) (R72). `mag`: a misaligned atomicity granule relaxes this access (R79). -/
def State.load (s : State) (mag : Bool) (ea n : Nat) : Except Exc (Nat × State) :=
  match s.check mag ea n .load with
  | some e => .error e
  | none => .ok (s.readMem ea n)

/-- MemWrite(ea, n, v) (R72): no byte is written when any byte is inaccessible (R81). -/
def State.store (s : State) (mag : Bool) (ea n v : Nat) : Except Exc State :=
  match s.check mag ea n .store with
  | some e => .error e
  | none => .ok (s.writeMem ea n v)

/-! ## Taking an exception, and the return from one (60_exceptions.md R751, R752) -/

/-- The hart terminates with the report of the exception; every other part of the state stays (R752, R777). -/
def State.terminate (s : State) (e : Exc) : State := { s with halted := some { cause := e, pc := s.pc } }

/-- An address cleared to IALIGN alignment: a hart resumes at an aligned address (10_state.md R37). -/
def State.alignPc (s : State) (a : Cell) : BitVec s.cfg.bits :=
  if s.cfg.ialign16 then a.setWidth s.cfg.bits >>> 1 <<< 1 else a.setWidth s.cfg.bits >>> 2 <<< 2

/-- The bytes an environment's store writes: one image of instruction memory older. -/
def State.putBytes (s : State) (w : List (Nat × Byte)) : State :=
  (w.foldl (fun t p => t.putByte (p.1 % 2 ^ s.cfg.bits) p.2) s).recordStale s (w.map fun p => p.1 % 2 ^ s.cfg.bits)

/-- The parts of a service beside registers and memory: frm, fflags, jvt (a legal value), the reservation, the device
accesses, and the synchronisation of the fetch. -/
def State.serveControl (s : State) (v : Service) : State :=
  { s with
    frm := v.frm.getD s.frm
    fflags := v.fflags.getD s.fflags
    jvt := match v.jvt with
      | none => s.jvt
      | some c => (s.cfg.jvtLegal s.draws (c.setWidth s.cfg.bits)).setWidth 128
    reservation := v.reservation.getD s.reservation
    ioTrace := s.ioTrace ++ v.io
    stale := if v.syncFetch then [] else s.stale }

/-- The state to which an environment's service takes the hart, at the hart's widths, pc and the counters apart. -/
def State.serve (s : State) (v : Service) : State :=
  let s1 := v.xWrites.foldl (fun t p => t.setX p.1 (p.2.setWidth s.cfg.bits)) s
  let s2 := v.fWrites.foldl (fun t p => t.setF p.1 ((p.2.setWidth s.cfg.flen).setWidth 128)) s1
  (v.stores.foldl State.putBytes s2).serveControl v

/-- Where a hart goes on after a service: where the environment says, ordinarily after the instruction of `len` bytes
(R751). -/
def State.serviceTarget (s : State) (len : Nat) (v : Service) : BitVec s.cfg.bits :=
  match v.resume with
  | some a => s.alignPc a
  | none => s.nextPc len

/-- The environment's return from a requested trap (R751, R761): it ends the hart, or its service is applied and the
hart resumes. The instruction does not retire. -/
def State.resume (s : State) (e : Exc) (len : Nat) (v : Service) : State :=
  if v.terminate then s.terminate e
  else { (s.serve v).tick with pc := (s.serviceTarget len v).setWidth 128 }

/-- The environment's return from an invisible trap (R751): it has completed the instruction in the hart's stead, and the
instruction has retired; or it has put right what stood in the way, and the instruction is attempted again. -/
def State.emulate (s : State) (len : Nat) (v : Service) : State :=
  if v.retry then (s.serve v).tick else (s.serve v).retireTo (s.serviceTarget len v)

/-- The exceptions that are requests to the environment: those of ECALL, EBREAK and C.EBREAK (R751, R761). -/
def Exc.isRequest : Exc → Bool
  | .instructionAddressMisaligned _ => false
  | .instructionAccessFault _ => false
  | .illegalInstruction _ => false
  | .breakpoint _ => true
  | .loadAddressMisaligned _ => false
  | .loadAccessFault _ => false
  | .storeAddressMisaligned _ => false
  | .storeAccessFault _ => false
  | .environmentCall => true
  | .interrupt _ => false

/-- The kind of trap by which an environment serves an exception: a request by a requested one, after which the
instruction has not retired (R761; 44_zicsr_counters.md R420), any other by an invisible one. -/
def Exc.served (e : Exc) : TrapAction := if e.isRequest then .requested else .invisible

/-- TRAP(hart, E, info, pc) of R751: the policy's action, or, where the policy is `decided`, the environment's of this
state: it ends the hart or serves the exception. -/
def State.trapAction (s : State) (e : Exc) : TrapAction :=
  match s.cfg.trapAction e with
  | .fatal => .fatal
  | .requested => e.served
  | .invisible => e.served
  | .decided =>
    match Config.trapDecision s e with
    | .fatal => .fatal
    | .requested => e.served
    | .invisible => e.served
    | .decided => .fatal

/-- raise E(info) of R752, by the instruction of `len` bytes at pc: nothing else changes (pc, instret, the reservation
and fflags stay), and the environment's TRAP, to which the state, with pc, and the exception, with its information, are
handed (R762), decides what follows. -/
def State.raise (s : State) (e : Exc) (len : Nat) : State :=
  match s.trapAction e with
  | .fatal => s.terminate e
  | .requested => s.resume e len (Config.service s e)
  | .invisible => s.emulate len (Config.service s e)
  | .decided => s.terminate e

/-- The illegal-instruction exception of an instruction: its information is the instruction's bits (R755). -/
def State.raiseIllegal (s : State) (i : Instr) : State := s.raise (.illegalInstruction (encode i)) i.len

/-- An interrupt between instructions (R773): with the fatal trap the hart ends; an invisible one is handled
transparently, so that only the pending input is cleared. -/
def State.takeInterrupt (s : State) : State :=
  match s.trapAction (.interrupt s.interruptCause) with
  | .fatal => s.terminate (.interrupt s.interruptCause)
  | .requested => { s.tick with interruptPending := false }
  | .invisible => { s.tick with interruptPending := false }
  | .decided => s.terminate (.interrupt s.interruptCause)

/-! ## Instruction fetch (20_memory.md R73, R84; 70_reset_and_hazards.md R801) -/

/-- What a byte held before a store, given what it holds after it. -/
def olderByte (store : List Host.Cell) (a : Nat) (now : Byte) : Byte :=
  match store.find? fun p => p.1 == a with
  | some p => p.2
  | none => now

/-- The values two bytes have held together, from the values `x` and `y` they hold now back through the stores that
changed one of them. -/
def parcelHistory (a b : Nat) (x y : Byte) : List (List Host.Cell) → List (List Byte)
  | [] => [[x, y]]
  | store :: older =>
    if store.any fun p => p.1 == a || p.1 == b then
      [x, y] :: parcelHistory a b (olderByte store a x) (olderByte store b y) older
    else parcelHistory a b x y older

/-- The values a fetch of the parcel at an address may return: the current one, and every older one since the last
FENCE.I (R801). -/
def State.parcelValues (s : State) (a : Nat) : List (List Byte) :=
  parcelHistory (a % 2 ^ s.cfg.bits) ((a + 1) % 2 ^ s.cfg.bits) (s.byte (a % 2 ^ s.cfg.bits))
    (s.byte ((a + 1) % 2 ^ s.cfg.bits)) s.stale

/-- The bytes a fetch of a parcel returns: one of the values it may return, of the model's free choice where there are
several. -/
def State.parcelBytes (s : State) (a : Nat) : List Byte :=
  match s.parcelValues a with
  | [v] => v
  | vs => vs.getD (Config.fetchChoice s.draws a % vs.length) []

/-- The bytes of an implicit read of parcels, in address order. -/
def State.fetchBytes (s : State) (a n : Nat) : List Byte :=
  (List.range (n / 2)).flatMap fun k => s.parcelBytes ((a + 2 * k) % 2 ^ s.cfg.bits)

/-- A parcel of the instruction stream: little-endian whatever ENDIAN is (R73). -/
def State.fetchParcel (s : State) (a : Nat) : Parcel := BitVec.ofNat 16 (leToNat (s.parcelBytes a))

/-- What a fetch gives: the bits of a 16-bit or a 32-bit instruction, or an access fault. -/
inductive Fetched where
  | bits16 (w : InstBits)
  | bits32 (w : InstBits)
  | fault
  deriving DecidableEq, Repr

/-- Fetch(pc) of R73: the second parcel is read only when the first says the instruction is longer, or when the
configuration has no 16-bit instructions (30_encoding.md R151). -/
def State.fetch (s : State) : Fetched :=
  let a := s.pc.toNat
  if s.cfg.fetchable a 2 then
    let p0 := s.fetchParcel a
    if isShort p0 && s.cfg.ialign16 then .bits16 (p0.setWidth 32)
    else if s.cfg.fetchable ((a + 2) % 2 ^ s.cfg.bits) 2 then
      .bits32 (s.fetchParcel ((a + 2) % 2 ^ s.cfg.bits) ++ p0)
    else .fault
  else .fault

end Sys2Proof.Machine
end

