-- ==== Sys2Proof/Machine/Flags.lean ====
section
/-! DEFINITION. The accrued floating-point exception flags and the rounding modes (10_state.md R46-R48; 45_f.md R436): the only
flags of the ISA (10_state.md R39). -/

namespace Sys2Proof.Machine

/-- A set of floating-point exception flags, in the layout of fflags. -/
abbrev FpFlags := BitVec 5

/-- Invalid operation. -/
def flagNV : FpFlags := 0b10000
/-- Divide by zero. -/
def flagDZ : FpFlags := 0b01000
/-- Overflow. -/
def flagOF : FpFlags := 0b00100
/-- Underflow. -/
def flagUF : FpFlags := 0b00010
/-- Inexact. -/
def flagNX : FpFlags := 0b00001

/-- A flag where a condition holds, and no flag otherwise. -/
def flagIf (b : Bool) (f : FpFlags) : FpFlags := if b then f else 0

/-- fflags |= f: flags are only ever set by an instruction's execution (10_state.md R47). -/
def State.accrue (s : State) (f : FpFlags) : State := { s with fflags := s.fflags ||| f }

/-- The rounding modes of 10_state.md R48. -/
inductive RoundingMode where
  | rne
  | rtz
  | rdn
  | rup
  | rmm
  deriving DecidableEq, Repr

/-- The rounding mode a 3-bit code selects; 101, 110 and 111 select none. -/
def roundingModeOf (code : BitVec 3) : Option RoundingMode :=
  if code = 0 then some .rne
  else if code = 1 then some .rtz
  else if code = 2 then some .rdn
  else if code = 3 then some .rup
  else if code = 4 then some .rmm
  else none

/-- rm_eff of 45_f.md R436: the mode of the instruction's rm field, 111 selecting the dynamic mode of frm; none where
it is reserved. -/
def State.effectiveMode (s : State) (rm : BitVec 3) : Option RoundingMode :=
  if rm = 7 then roundingModeOf s.frm else roundingModeOf rm

end Sys2Proof.Machine
end

