-- ==== Sys2Proof/Machine/Float.lean ====
section
/-! DEFINITION. IEEE 754-2008 arithmetic in the four formats (00_scope.md R15; 45_f.md R433-R438; 46_d_q_zfh.md): operands are
taken apart into exact numbers, the operation is done exactly on integers, and the result is rounded once. Tininess is
detected after rounding (45_f.md R439), and a NaN result is the canonical NaN (R438). -/

namespace Sys2Proof.Machine

/-- The formats H, S, D, Q: binary16, binary32, binary64, binary128. -/
inductive Fmt where
  | h
  | s
  | d
  | q
  deriving DecidableEq, Repr

/-- width(fmt) (00_scope.md R15). -/
def Fmt.width : Fmt → Nat
  | .h => 16
  | .s => 32
  | .d => 64
  | .q => 128

/-- The bits of the trailing significand. -/
def Fmt.manBits : Fmt → Nat
  | .h => 10
  | .s => 23
  | .d => 52
  | .q => 112

/-- The bits of the biased exponent. -/
def Fmt.expBits : Fmt → Nat
  | .h => 5
  | .s => 8
  | .d => 11
  | .q => 15

/-- The exponent bias. -/
def Fmt.bias (f : Fmt) : Nat := 2 ^ (f.expBits - 1) - 1

/-- A floating-point datum as an exact value: a finite one is (-1)^neg · mant · 2^exp. -/
inductive Fp where
  | nan (signaling : Bool)
  | inf (neg : Bool)
  | fin (neg : Bool) (mant : Nat) (exp : Int)
  deriving DecidableEq, Repr

/-- The bits of a datum with the given sign, biased exponent and significand fields. -/
def Fmt.pack (f : Fmt) (neg : Bool) (biased man : Nat) : BitVec f.width :=
  BitVec.ofNat f.width ((if neg then 2 ^ (f.width - 1) else 0) + biased * 2 ^ f.manBits + man)

/-- A zero of a sign. -/
def Fmt.zero (f : Fmt) (neg : Bool) : BitVec f.width := f.pack neg 0 0

/-- An infinity of a sign. -/
def Fmt.inf (f : Fmt) (neg : Bool) : BitVec f.width := f.pack neg (2 ^ f.expBits - 1) 0

/-- The finite datum of greatest magnitude of a sign. -/
def Fmt.maxFinite (f : Fmt) (neg : Bool) : BitVec f.width :=
  f.pack neg (2 ^ f.expBits - 2) (2 ^ f.manBits - 1)

/-- The canonical NaN (45_f.md R438). -/
def Fmt.canonicalNaN (f : Fmt) : BitVec f.width :=
  f.pack false (2 ^ f.expBits - 1) (2 ^ (f.manBits - 1))

/-- The significand field of a datum. -/
def Fmt.manField (f : Fmt) (v : BitVec f.width) : Nat := v.toNat % 2 ^ f.manBits

/-- The biased exponent field of a datum. -/
def Fmt.expField (f : Fmt) (v : BitVec f.width) : Nat := v.toNat / 2 ^ f.manBits % 2 ^ f.expBits

/-- The sign of a datum. -/
def Fmt.signField (f : Fmt) (v : BitVec f.width) : Bool := 2 ^ (f.width - 1) ≤ v.toNat

/-- The value of the bits of a datum; a NaN is quiet when the top bit of its significand is 1 (R438). -/
def Fmt.decode (f : Fmt) (v : BitVec f.width) : Fp :=
  if f.expField v = 2 ^ f.expBits - 1 then
    if f.manField v = 0 then .inf (f.signField v) else .nan (f.manField v < 2 ^ (f.manBits - 1))
  else if f.expField v = 0 then
    .fin (f.signField v) (f.manField v) (1 - (f.bias : Int) - f.manBits)
  else
    .fin (f.signField v) (f.manField v + 2 ^ f.manBits) ((f.expField v : Int) - f.bias - f.manBits)

/-- The datum is a NaN. -/
def Fp.isNaN : Fp → Bool
  | .nan _ => true
  | _ => false

/-- The datum is a signaling NaN. -/
def Fp.isSNaN : Fp → Bool
  | .nan sig => sig
  | _ => false

/-- The datum with its sign inverted; a NaN stays. -/
def Fp.negate : Fp → Fp
  | .nan sig => .nan sig
  | .inf neg => .inf (!neg)
  | .fin neg m e => .fin (!neg) m e

/-! ## Rounding -/

/-- Whether a mode rounds a magnitude away from zero: `odd` of the kept digits, and how the discarded part compares with
half of the last kept place. -/
def RoundingMode.roundsUp (rm : RoundingMode) (neg odd aboveHalf half inexact : Bool) : Bool :=
  match rm with
  | .rne => aboveHalf || (half && odd)
  | .rtz => false
  | .rdn => neg && inexact
  | .rup => !neg && inexact
  | .rmm => aboveHalf || half

/-- mant / 2^shift rounded to an integer, and whether that is inexact. `sticky`: the exact magnitude lies strictly
between mant and mant + 1. -/
def shiftRound (rm : RoundingMode) (neg : Bool) (mant shift : Nat) (sticky : Bool) : Nat × Bool :=
  let q := mant / 2 ^ shift
  let r := mant % 2 ^ shift
  let inexact := r != 0 || sticky
  let aboveHalf := 2 ^ shift < 2 * r || (2 * r == 2 ^ shift && sticky)
  let half := 2 * r == 2 ^ shift && !sticky
  (if rm.roundsUp neg (q % 2 == 1) aboveHalf half inexact then q + 1 else q, inexact)

/-- mant · 2^exp rounded to a multiple of 2^place, as the number of such multiples, and whether that is inexact. -/
def roundTo (rm : RoundingMode) (neg : Bool) (mant : Nat) (exp place : Int) (sticky : Bool) : Nat × Bool :=
  if place ≤ exp then (mant * 2 ^ (exp - place).toNat, sticky)
  else shiftRound rm neg mant (place - exp).toNat sticky

/-- The result of an overflow: infinity or the greatest finite magnitude, by the mode. -/
def Fmt.overflow (f : Fmt) (rm : RoundingMode) (neg : Bool) : BitVec f.width :=
  match rm with
  | .rne => f.inf neg
  | .rmm => f.inf neg
  | .rtz => f.maxFinite neg
  | .rdn => if neg then f.inf neg else f.maxFinite neg
  | .rup => if neg then f.maxFinite neg else f.inf neg

/-- round_fmt of 00_scope.md R15: the exact (-1)^neg · mant · 2^exp (a little more in magnitude where `sticky`) in
format `f`, with the flags OF, UF, NX. -/
def Fmt.round (f : Fmt) (rm : RoundingMode) (neg : Bool) (mant : Nat) (exp : Int) (sticky : Bool) :
    BitVec f.width × FpFlags :=
  if mant = 0 then (f.zero neg, 0)
  else
    let lead : Int := mant.log2 + exp
    let emin : Int := 1 - (f.bias : Int)
    let place : Int := max lead emin - f.manBits
    let q := roundTo rm neg mant exp place sticky
    -- the same rounding with no lower bound on the exponent decides tininess
    let u := roundTo rm neg mant exp (lead - f.manBits) sticky
    let tiny := decide (lead < emin - 1) || (decide (lead = emin - 1) && decide (u.1 < 2 ^ (f.manBits + 1)))
    let carry := q.1 == 2 ^ (f.manBits + 1)
    let man := if carry then 2 ^ f.manBits else q.1
    let biased : Int := place + f.manBits + f.bias + (if carry then 1 else 0)
    if man < 2 ^ f.manBits then
      (f.pack neg 0 man, flagIf q.2 flagNX ||| flagIf (q.2 && tiny) flagUF)
    else if (2 : Int) ^ f.expBits - 1 ≤ biased then
      (f.overflow rm neg, flagOF ||| flagNX)
    else
      (f.pack neg biased.toNat (man - 2 ^ f.manBits), flagIf q.2 flagNX ||| flagIf (q.2 && tiny) flagUF)

/-- A signed mantissa. -/
def signedMant (neg : Bool) (mant : Nat) : Int := if neg then -(mant : Int) else mant

/-- The exact sum of two finite values, rounded. An exact zero sum has the sign of both where they agree, else that of
the mode: negative when rounding down. -/
def Fmt.roundSum (f : Fmt) (rm : RoundingMode) (na : Bool) (ma : Nat) (ea : Int) (nb : Bool) (mb : Nat) (eb : Int) :
    BitVec f.width × FpFlags :=
  let e := min ea eb
  let sum := signedMant na ma * 2 ^ (ea - e).toNat + signedMant nb mb * 2 ^ (eb - e).toNat
  if sum = 0 then (f.zero (if na == nb then na else rm == .rdn), 0)
  else f.round rm (decide (sum < 0)) sum.natAbs e false

/-- The invalid operation: the canonical NaN with NV. -/
def Fmt.invalid (f : Fmt) : BitVec f.width × FpFlags := (f.canonicalNaN, flagNV)

/-- The result where an operand is a NaN: the canonical NaN, with NV where one is signaling. -/
def Fmt.nanResult (f : Fmt) (signaling : Bool) : BitVec f.width × FpFlags :=
  (f.canonicalNaN, flagIf signaling flagNV)

/-! ## Arithmetic -/

/-- a + b. -/
def Fmt.add (f : Fmt) (rm : RoundingMode) (a b : Fp) : BitVec f.width × FpFlags :=
  match a, b with
  | .nan sa, b => f.nanResult (sa || b.isSNaN)
  | _, .nan sb => f.nanResult sb
  | .inf na, .inf nb => if na = nb then (f.inf na, 0) else f.invalid
  | .inf na, .fin _ _ _ => (f.inf na, 0)
  | .fin _ _ _, .inf nb => (f.inf nb, 0)
  | .fin na ma ea, .fin nb mb eb => f.roundSum rm na ma ea nb mb eb

/-- a - b. -/
def Fmt.sub (f : Fmt) (rm : RoundingMode) (a b : Fp) : BitVec f.width × FpFlags := f.add rm a b.negate

/-- a · b. -/
def Fmt.mul (f : Fmt) (rm : RoundingMode) (a b : Fp) : BitVec f.width × FpFlags :=
  match a, b with
  | .nan sa, b => f.nanResult (sa || b.isSNaN)
  | _, .nan sb => f.nanResult sb
  | .inf na, .inf nb => (f.inf (na != nb), 0)
  | .inf na, .fin nb mb _ => if mb = 0 then f.invalid else (f.inf (na != nb), 0)
  | .fin na ma _, .inf nb => if ma = 0 then f.invalid else (f.inf (na != nb), 0)
  | .fin na ma ea, .fin nb mb eb => f.round rm (na != nb) (ma * mb) (ea + eb) false

/-- a / b: the quotient is taken to two places more than the format keeps. -/
def Fmt.div (f : Fmt) (rm : RoundingMode) (a b : Fp) : BitVec f.width × FpFlags :=
  match a, b with
  | .nan sa, b => f.nanResult (sa || b.isSNaN)
  | _, .nan sb => f.nanResult sb
  | .inf _, .inf _ => f.invalid
  | .inf na, .fin nb _ _ => (f.inf (na != nb), 0)
  | .fin na _ _, .inf nb => (f.zero (na != nb), 0)
  | .fin na ma ea, .fin nb mb eb =>
    if mb = 0 then
      if ma = 0 then f.invalid else (f.inf (na != nb), flagDZ)
    else
      let k := mb.log2 + f.manBits + 3
      f.round rm (na != nb) (ma * 2 ^ k / mb) (ea - eb - k) (ma * 2 ^ k % mb != 0)

/-- The greatest r < 2^bits, at least `r`, with r² ≤ n, found bit by bit. -/
def isqrt : Nat → Nat → Nat → Nat
  | 0, _, r => r
  | bits + 1, n, r => if (r + 2 ^ bits) * (r + 2 ^ bits) ≤ n then isqrt bits n (r + 2 ^ bits) else isqrt bits n r

/-- The square root, taken to at least two places more than the format keeps. -/
def Fmt.sqrt (f : Fmt) (rm : RoundingMode) (a : Fp) : BitVec f.width × FpFlags :=
  match a with
  | .nan sa => f.nanResult sa
  | .inf neg => if neg then f.invalid else (f.inf false, 0)
  | .fin neg m e =>
    if m = 0 then (f.zero neg, 0)
    else if neg then f.invalid
    else
      -- scaled by an even power of two, so that the root of the scaled mantissa has manBits + 3 bits or more
      let k : Nat := 2 * f.manBits + 6 + (e % 2).toNat
      let n := m * 2 ^ k
      let r := isqrt (n.log2 / 2 + 1) n 0
      f.round rm false r ((e - k) / 2) (r * r != n)

/-- An infinity plus c. -/
def Fmt.addInf (f : Fmt) (neg : Bool) (c : Fp) : BitVec f.width × FpFlags :=
  match c with
  | .nan sc => f.nanResult sc
  | .inf nc => if neg = nc then (f.inf nc, 0) else f.invalid
  | .fin _ _ _ => (f.inf neg, 0)

/-- a · b + c with one rounding: NV for a product of infinity and zero even where c is a quiet NaN (45_f.md R450). -/
def Fmt.fma (f : Fmt) (rm : RoundingMode) (a b c : Fp) : BitVec f.width × FpFlags :=
  let signaling := a.isSNaN || b.isSNaN || c.isSNaN
  match a, b with
  | .nan _, _ => f.nanResult signaling
  | _, .nan _ => f.nanResult signaling
  | .inf na, .inf nb => f.addInf (na != nb) c
  | .inf na, .fin nb mb _ => if mb = 0 then f.invalid else f.addInf (na != nb) c
  | .fin na ma _, .inf nb => if ma = 0 then f.invalid else f.addInf (na != nb) c
  | .fin na ma ea, .fin nb mb eb =>
    match c with
    | .nan sc => f.nanResult sc
    | .inf nc => (f.inf nc, 0)
    | .fin nc mc ec => f.roundSum rm (na != nb) (ma * mb) (ea + eb) nc mc ec

/-! ## Comparisons (45_f.md R470-R472) -/

/-- A finite value against another, as signed mantissas at a common exponent. -/
def finLt (na : Bool) (ma : Nat) (ea : Int) (nb : Bool) (mb : Nat) (eb : Int) : Bool :=
  decide (signedMant na ma * 2 ^ (ea - min ea eb).toNat < signedMant nb mb * 2 ^ (eb - min ea eb).toNat)

/-- a < b; false where one is a NaN. -/
def Fp.lt : Fp → Fp → Bool
  | .nan _, _ => false
  | _, .nan _ => false
  | .inf na, .inf nb => na && !nb
  | .inf na, .fin _ _ _ => na
  | .fin _ _ _, .inf nb => !nb
  | .fin na ma ea, .fin nb mb eb => finLt na ma ea nb mb eb

/-- a = b; false where one is a NaN. -/
def Fp.eq (a b : Fp) : Bool := !a.isNaN && !b.isNaN && !a.lt b && !b.lt a

/-- a ≤ b; false where one is a NaN. -/
def Fp.le (a b : Fp) : Bool := !a.isNaN && !b.isNaN && !b.lt a

/-- The sign of a datum, that of a NaN taken as positive. -/
def Fp.isNeg : Fp → Bool
  | .nan _ => false
  | .inf neg => neg
  | .fin neg _ _ => neg

/-- a is the smaller, -0 counting as less than +0 (45_f.md R447). -/
def Fp.minFirst (a b : Fp) : Bool := a.lt b || (a.eq b && a.isNeg)

/-- FMIN and FMAX: the non-NaN operand where one is a NaN (45_f.md R447-R448). -/
def Fmt.minNum (f : Fmt) (max : Bool) (a b : BitVec f.width) : BitVec f.width × FpFlags :=
  let x := f.decode a
  let y := f.decode b
  let flags := flagIf (x.isSNaN || y.isSNaN) flagNV
  if x.isNaN && y.isNaN then (f.canonicalNaN, flags)
  else if x.isNaN then (b, flags)
  else if y.isNaN then (a, flags)
  else (if x.minFirst y != max then a else b, flags)

/-- FMINM and FMAXM: the canonical NaN where one operand is a NaN (48_zfinx_zfa_cmo_zawrs.md R655-R656). -/
def Fmt.minimum (f : Fmt) (max : Bool) (a b : BitVec f.width) : BitVec f.width × FpFlags :=
  let x := f.decode a
  let y := f.decode b
  let flags := flagIf (x.isSNaN || y.isSNaN) flagNV
  if x.isNaN || y.isNaN then (f.canonicalNaN, flags)
  else (if x.minFirst y != max then a else b, flags)

/-- A quiet comparison: NV only for a signaling NaN. -/
def quietFlags (a b : Fp) : FpFlags := flagIf (a.isSNaN || b.isSNaN) flagNV

/-- A signaling comparison: NV for any NaN. -/
def signalingFlags (a b : Fp) : FpFlags := flagIf (a.isNaN || b.isNaN) flagNV

/-- FCLASS: the one bit of the operand's class (45_f.md R473). -/
def Fmt.classify (f : Fmt) (v : BitVec f.width) : BitVec 10 :=
  match f.decode v with
  | .inf neg => if neg then 1#10 <<< 0 else 1#10 <<< 7
  | .nan sig => if sig then 1#10 <<< 8 else 1#10 <<< 9
  | .fin neg m _ =>
    if m = 0 then (if neg then 1#10 <<< 3 else 1#10 <<< 4)
    else if f.expField v = 0 then (if neg then 1#10 <<< 2 else 1#10 <<< 5)
    else (if neg then 1#10 <<< 1 else 1#10 <<< 6)

/-! ## Conversions -/

/-- A finite value rounded to an integer, and whether that is inexact. -/
def roundToInt (rm : RoundingMode) (neg : Bool) (m : Nat) (e : Int) : Int × Bool :=
  let r := roundTo rm neg m e 0 false
  (signedMant neg r.1, r.2)

/-- fcvt_int of 45_f.md R454: to an integer in [lo, hi], out of range saturating with NV, a NaN converting as +∞. -/
def Fp.toInt (rm : RoundingMode) (lo hi : Int) : Fp → Int × FpFlags
  | .nan _ => (hi, flagNV)
  | .inf neg => (if neg then lo else hi, flagNV)
  | .fin neg m e =>
    let r := roundToInt rm neg m e
    if r.1 < lo then (lo, flagNV)
    else if hi < r.1 then (hi, flagNV)
    else (r.1, flagIf r.2 flagNX)

/-- FCVTMOD.W.D: truncated, modulo 2^32, with the flags of FCVT.W.D (48_zfinx_zfa_cmo_zawrs.md R659). -/
def Fp.toInt32Mod : Fp → BitVec 32 × FpFlags
  | .nan _ => (0, flagNV)
  | .inf _ => (0, flagNV)
  | .fin neg m e =>
    let r := roundToInt .rtz neg m e
    (BitVec.ofInt 32 r.1,
      if r.1 < -2 ^ 31 || 2 ^ 31 - 1 < r.1 then flagNV else flagIf r.2 flagNX)

/-- An integer converted to the format (45_f.md R459). -/
def Fmt.ofInt (f : Fmt) (rm : RoundingMode) (v : Int) : BitVec f.width × FpFlags :=
  f.round rm (decide (v < 0)) v.natAbs 0 false

/-- A datum of another format converted to this one (46_d_q_zfh.md R511-R512). -/
def Fmt.ofFp (f : Fmt) (rm : RoundingMode) (a : Fp) : BitVec f.width × FpFlags :=
  match a with
  | .nan sig => f.nanResult sig
  | .inf neg => (f.inf neg, 0)
  | .fin neg m e => f.round rm neg m e false

/-- FROUND and FROUNDNX: to an integer in the same format, a zero result keeping the operand's sign; NX only where
`exact` is asked for (48_zfinx_zfa_cmo_zawrs.md R657-R658). -/
def Fmt.roundToIntegral (f : Fmt) (exact : Bool) (rm : RoundingMode) (v : BitVec f.width) :
    BitVec f.width × FpFlags :=
  match f.decode v with
  | .nan sig => f.nanResult sig
  | .inf _ => (v, 0)
  | .fin neg m e =>
    let r := roundTo rm neg m e 0 false
    ((f.round .rtz neg r.1 0 false).1, flagIf (exact && r.2) flagNX)

/-! ## The constants of FLI (48_zfinx_zfa_cmo_zawrs.md R651-R654) -/

/-- Entry i of the table as a sign-free value mant · 2^exp, for the entries of a numerical value. -/
def fliValues : List (Nat × Int) :=
  [(1, 0), (0, 0), (1, -16), (1, -15), (1, -8), (1, -7), (1, -4), (1, -3), (1, -2), (5, -4), (3, -3), (7, -4),
   (1, -1), (5, -3), (3, -2), (7, -3), (1, 0), (5, -2), (3, -1), (7, -2), (1, 1), (5, -1), (3, 0), (1, 2),
   (1, 3), (1, 4), (1, 7), (1, 8), (1, 15), (1, 16)]

/-- The constant of an index: entry 0 is -1.0, entry 1 the least positive normal datum of the format, entry 30 +∞ (and
2^16 where the format does not hold it), entry 31 the canonical NaN. -/
def Fmt.fli (f : Fmt) (idx : BitVec 5) : BitVec f.width :=
  if idx = 0 then (f.round .rne true 1 0 false).1
  else if idx = 1 then f.pack false 1 0
  else if idx = 30 then f.inf false
  else if idx = 31 then f.canonicalNaN
  else
    let v := fliValues.getD idx.toNat (0, 0)
    (f.round .rne false v.1 v.2 false).1

end Sys2Proof.Machine
end

