-- ==== Sys2Proof/Machine/Operands.lean ====
section
/-! DEFINITION. The operand forms: immediates, effective addresses, and the shared shapes of the meanings, each an instruction's
form over the operations of Ops.lean. `len` is the length of the instruction in bytes, 4 or 2: a compressed
instruction has the form of its expansion with a length of 2 (47_c_zimop_zcmop.md R560). -/

namespace Sys2Proof.Machine

/-! ## Immediates and addresses (30_encoding.md R156, R182) -/

/-- A U-immediate: 20 bits above 12 zeros, sign-extended. -/
def immU (n : Nat) (imm : BitVec 20) : BitVec n := (imm ++ 0#12).signExtend n

/-- The target of a pc-relative transfer whose offset, without its zero bit 0, is `off`. -/
def State.pcRel (s : State) {k : Nat} (off : BitVec k) : BitVec s.cfg.bits :=
  s.readPc s.cfg.bits + (off ++ 0#1).signExtend s.cfg.bits

/-- x[base] plus an offset, modulo 2^XLEN (20_memory.md R71). -/
def State.addr (s : State) (base : Reg) (off : BitVec s.cfg.bits) : Nat :=
  (s.readX s.cfg.bits base + off).toNat

/-- The effective address of a load or store with a signed 12-bit immediate. -/
def State.ea (s : State) (base : Reg) (imm : BitVec 12) : Nat := s.addr base (imm.signExtend s.cfg.bits)

/-- The effective address of a compressed load or store: an unsigned offset scaled by 2^k (30_encoding.md R182). -/
def State.eaScaled (s : State) (base : Reg) {m : Nat} (uimm : BitVec m) (k : Nat) : Nat :=
  s.addr base (BitVec.ofNat s.cfg.bits (uimm.toNat * 2 ^ k))

/-! ## Integer computation -/

/-- x[rd] <- op(x[rs1], x[rs2]). -/
def opReg (len : Nat) (rd rs1 rs2 : Reg) (op : (n : Nat) → BitVec n → BitVec n → BitVec n) (s : State) : Result :=
  .next ((s.setX rd (op s.cfg.bits (s.readX s.cfg.bits rs1) (s.readX s.cfg.bits rs2))).retire len)

/-- x[rd] <- op(x[rs1], sext(imm)). -/
def opImm (len : Nat) (rd rs1 : Reg) {k : Nat} (imm : BitVec k) (op : (n : Nat) → BitVec n → BitVec n → BitVec n)
    (s : State) : Result :=
  .next ((s.setX rd (op s.cfg.bits (s.readX s.cfg.bits rs1) (imm.signExtend s.cfg.bits))).retire len)

/-- x[rd] <- op(x[rs1]) with a shift amount. -/
def opShift (len : Nat) (rd rs1 : Reg) (amount : Nat) (op : (n : Nat) → BitVec n → Nat → BitVec n) (s : State) :
    Result :=
  .next ((s.setX rd (op s.cfg.bits (s.readX s.cfg.bits rs1) amount)).retire len)

/-- x[rd] <- sext_32(op(x[rs1][31:0], x[rs2][31:0])) (42_rv64i_rv128i.md R311). -/
def opRegW (len : Nat) (rd rs1 rs2 : Reg) (op : BitVec 32 → BitVec 32 → BitVec 32) (s : State) : Result :=
  .next ((s.setX rd ((op (s.readX 32 rs1) (s.readX 32 rs2)).signExtend s.cfg.bits)).retire len)

/-- x[rd] <- sext_32(op(x[rs1][31:0], sext_32(imm))). -/
def opImmW (len : Nat) (rd rs1 : Reg) {k : Nat} (imm : BitVec k) (op : BitVec 32 → BitVec 32 → BitVec 32)
    (s : State) : Result :=
  .next ((s.setX rd ((op (s.readX 32 rs1) (imm.signExtend 32)).signExtend s.cfg.bits)).retire len)

/-- x[rd] <- sext_32(op(x[rs1][31:0])) with a shift amount. -/
def opShiftW (len : Nat) (rd rs1 : Reg) (amount : Nat) (op : BitVec 32 → Nat → BitVec 32) (s : State) : Result :=
  .next ((s.setX rd ((op (s.readX 32 rs1) amount).signExtend s.cfg.bits)).retire len)

/-- x[rd] <- a value that depends on the state. -/
def opValue (len : Nat) (rd : Reg) (v : (s : State) → BitVec s.cfg.bits) (s : State) : Result :=
  .next ((s.setX rd (v s)).retire len)

/-- The comparison results 1 and 0. -/
def boolX (n : Nat) (b : Bool) : BitVec n := if b then 1 else 0

/-- The sum. -/
def intAdd (n : Nat) (a b : BitVec n) : BitVec n := a + b
/-- The difference. -/
def intSub (n : Nat) (a b : BitVec n) : BitVec n := a - b
/-- Signed less-than. -/
def intSlt (n : Nat) (a b : BitVec n) : BitVec n := boolX n (a.slt b)
/-- Unsigned less-than. -/
def intSltu (n : Nat) (a b : BitVec n) : BitVec n := boolX n (a.ult b)
/-- Bitwise AND. -/
def intAnd (n : Nat) (a b : BitVec n) : BitVec n := a &&& b
/-- Bitwise OR. -/
def intOr (n : Nat) (a b : BitVec n) : BitVec n := a ||| b
/-- Bitwise XOR. -/
def intXor (n : Nat) (a b : BitVec n) : BitVec n := a ^^^ b
/-- Shift left by the low log2(n) bits of the second operand. -/
def intSll (n : Nat) (a b : BitVec n) : BitVec n := a <<< (b.toNat % n)
/-- Logical shift right by the low log2(n) bits of the second operand. -/
def intSrl (n : Nat) (a b : BitVec n) : BitVec n := a >>> (b.toNat % n)
/-- Arithmetic shift right by the low log2(n) bits of the second operand. -/
def intSra (n : Nat) (a b : BitVec n) : BitVec n := a.sshiftRight (b.toNat % n)
/-- Shift left by an amount. -/
def shiftLeft (n : Nat) (a : BitVec n) (k : Nat) : BitVec n := a <<< k
/-- Logical shift right by an amount. -/
def shiftRight (n : Nat) (a : BitVec n) (k : Nat) : BitVec n := a >>> k
/-- Arithmetic shift right by an amount. -/
def shiftRightArith (n : Nat) (a : BitVec n) (k : Nat) : BitVec n := a.sshiftRight k

/-- The low half of the product (43_m_a.md R351). -/
def intMul (n : Nat) (a b : BitVec n) : BitVec n := a * b
/-- The high half of the signed product (R352). -/
def intMulh (n : Nat) (a b : BitVec n) : BitVec n :=
  (a.signExtend (2 * n) * b.signExtend (2 * n)).extractLsb' n n
/-- The high half of the product of a signed and an unsigned operand (R353). -/
def intMulhsu (n : Nat) (a b : BitVec n) : BitVec n :=
  (a.signExtend (2 * n) * b.setWidth (2 * n)).extractLsb' n n
/-- The high half of the unsigned product (R354). -/
def intMulhu (n : Nat) (a b : BitVec n) : BitVec n :=
  (a.setWidth (2 * n) * b.setWidth (2 * n)).extractLsb' n n
/-- The signed quotient, -1 for a zero divisor, the dividend on overflow (R356, R364). -/
def intDiv (n : Nat) (a b : BitVec n) : BitVec n := if b = 0 then BitVec.allOnes n else a.sdiv b
/-- The unsigned quotient, all ones for a zero divisor (R357, R364). -/
def intDivu (n : Nat) (a b : BitVec n) : BitVec n := if b = 0 then BitVec.allOnes n else a / b
/-- The signed remainder, the dividend for a zero divisor, 0 on overflow (R358, R364). -/
def intRem (n : Nat) (a b : BitVec n) : BitVec n := if b = 0 then a else a.srem b
/-- The unsigned remainder, the dividend for a zero divisor (R359, R364). -/
def intRemu (n : Nat) (a b : BitVec n) : BitVec n := if b = 0 then a else a % b

/-! ## Control transfer (40_rv32i.md R253-R269) -/

/-- The target is not IALIGN-aligned: possible only with IALIGN = 32 (R260). -/
def State.misalignedTarget (s : State) (target : BitVec s.cfg.bits) : Bool :=
  !s.cfg.ialign16 && target.toNat % 4 != 0

/-- Jump to a target and write the link register; a misaligned target raises, and nothing is written (R260). -/
def jump (len : Nat) (rd : Reg) (target : (s : State) → BitVec s.cfg.bits) (s : State) : Result :=
  if s.misalignedTarget (target s) then
    .next (s.raise (.instructionAddressMisaligned ((target s).setWidth 128)) len)
  else .next ((s.setX rd (s.nextPc len)).retireTo (target s))

/-- Branch where a condition on two registers holds; a branch not taken raises nothing (R260, R264-R269). -/
def branch (len : Nat) (rs1 rs2 : Reg) {k : Nat} (off : BitVec k) (cond : (n : Nat) → BitVec n → BitVec n → Bool)
    (s : State) : Result :=
  if cond s.cfg.bits (s.readX s.cfg.bits rs1) (s.readX s.cfg.bits rs2) then
    if s.misalignedTarget (s.pcRel off) then
      .next (s.raise (.instructionAddressMisaligned ((s.pcRel off).setWidth 128)) len)
    else .next (s.retireTo (s.pcRel off))
  else .next (s.retire len)

/-- The target of JALR: bit 0 of the sum is cleared (R254). -/
def State.jalrTarget (s : State) (rs1 : Reg) (imm : BitVec 12) : BitVec s.cfg.bits :=
  (s.readX s.cfg.bits rs1 + imm.signExtend s.cfg.bits) &&& ~~~1

/-- The conditions of the branches. -/
def condEq (n : Nat) (a b : BitVec n) : Bool := a == b
/-- Not equal. -/
def condNe (n : Nat) (a b : BitVec n) : Bool := a != b
/-- Signed less-than. -/
def condLt (n : Nat) (a b : BitVec n) : Bool := a.slt b
/-- Signed greater or equal. -/
def condGe (n : Nat) (a b : BitVec n) : Bool := !a.slt b
/-- Unsigned less-than. -/
def condLtu (n : Nat) (a b : BitVec n) : Bool := a.ult b
/-- Unsigned greater or equal. -/
def condGeu (n : Nat) (a b : BitVec n) : Bool := !a.ult b

/-! ## Loads and stores (40_rv32i.md R279-R286; 20_memory.md R72-R81) -/

/-- A loaded value of `n` bytes extended to a register's width. -/
def extendTo (bits : Nat) (signed : Bool) (n v : Nat) : BitVec bits :=
  if signed then (BitVec.ofNat (8 * n) v).signExtend bits else (BitVec.ofNat (8 * n) v).setWidth bits

/-- x[rd] <- the extension of the `n` bytes at an address. -/
def loadX (len n : Nat) (signed : Bool) (rd : Reg) (ea : State → Nat) (s : State) : Result :=
  match s.load true (ea s) n with
  | .error e => .next (s.raise e len)
  | .ok (v, s') => .next ((s'.setX rd (extendTo s.cfg.bits signed n v)).retire len)

/-- The `n` bytes at an address <- the low bits of x[rs2]. -/
def storeX (len n : Nat) (rs2 : Reg) (ea : State → Nat) (s : State) : Result :=
  match s.store true (ea s) n (s.readX s.cfg.bits rs2).toNat with
  | .error e => .next (s.raise e len)
  | .ok s' => .next (s'.retire len)

/-- Whether a misaligned atomicity granule relaxes a floating-point access: a format of F, D or Q of at most XLEN bits
(43_m_a.md R384). -/
def State.magFp (s : State) (f : Fmt) : Bool := f != .h && f.width ≤ s.cfg.bits

/-- f[rd] <- box of the bytes at an address, bit for bit (10_state.md R44). -/
def loadF (len : Nat) (f : Fmt) (rd : Reg) (ea : State → Nat) (s : State) : Result :=
  match s.load (s.magFp f) (ea s) (f.width / 8) with
  | .error e => .next (s.raise e len)
  | .ok (v, s') => .next ((s'.setF rd (box s.cfg.flen (BitVec.ofNat f.width v))).retire len)

/-- The bytes at an address <- the low bits of f[rs2], without a check of the box (10_state.md R44). -/
def storeF (len : Nat) (f : Fmt) (rs2 : Reg) (ea : State → Nat) (s : State) : Result :=
  match s.store (s.magFp f) (ea s) (f.width / 8) (s.readF rs2).toNat with
  | .error e => .next (s.raise e len)
  | .ok s' => .next (s'.retire len)

/-! ## Floating-point forms (45_f.md R433; 46_d_q_zfh.md) -/

/-- An operand of a format, unboxed. -/
def State.fpArg (s : State) (f : Fmt) (r : Reg) : BitVec f.width := s.readFp f.width f.canonicalNaN r

/-- The value of an operand of a format. -/
def State.fpVal (s : State) (f : Fmt) (r : Reg) : Fp := f.decode (s.fpArg f r)

/-- An instruction with an rm field: a reserved rounding mode raises illegal instruction, else the body runs in the
effective mode (45_f.md R436). -/
def withMode (i : Instr) (rm : BitVec 3) (body : RoundingMode → State → State) (s : State) : Result :=
  match s.effectiveMode rm with
  | none => .next (s.raiseIllegal i)
  | some mode => .next ((body mode s).retire 4)

/-- f[rd] <- a result, and its flags accrue. -/
def State.putFp (s : State) (f : Fmt) (rd : Reg) (r : BitVec f.width × FpFlags) : State :=
  (s.setFp rd r.1).accrue r.2

/-- x[rd] <- a result, and its flags accrue. -/
def State.putX (s : State) (rd : Reg) (v : BitVec s.cfg.bits) (flags : FpFlags) : State :=
  (s.setX rd v).accrue flags

/-- One operand, rounded: FSQRT. -/
def fp1 (i : Instr) (f : Fmt) (rd rs1 : Reg) (rm : BitVec 3)
    (op : RoundingMode → Fp → BitVec f.width × FpFlags) : State → Result :=
  withMode i rm fun mode s => s.putFp f rd (op mode (s.fpVal f rs1))

/-- Two operands, rounded: FADD, FSUB, FMUL, FDIV. -/
def fp2 (i : Instr) (f : Fmt) (rd rs1 rs2 : Reg) (rm : BitVec 3)
    (op : RoundingMode → Fp → Fp → BitVec f.width × FpFlags) : State → Result :=
  withMode i rm fun mode s => s.putFp f rd (op mode (s.fpVal f rs1) (s.fpVal f rs2))

/-- Fused multiply-add ±(rs1 · rs2) ± rs3 (45_f.md R450-R453). -/
def fp3 (i : Instr) (f : Fmt) (rd rs1 rs2 rs3 : Reg) (rm : BitVec 3) (negProduct negAddend : Bool) : State → Result :=
  withMode i rm fun mode s =>
    s.putFp f rd (f.fma mode (if negProduct then (s.fpVal f rs1).negate else s.fpVal f rs1) (s.fpVal f rs2)
      (if negAddend then (s.fpVal f rs3).negate else s.fpVal f rs3))

/-- Two operands to a result without rounding: FSGNJ, FMIN, FMAX, FMINM, FMAXM. -/
def fpBits2 (f : Fmt) (rd rs1 rs2 : Reg) (op : BitVec f.width → BitVec f.width → BitVec f.width × FpFlags)
    (s : State) : Result :=
  .next ((s.putFp f rd (op (s.fpArg f rs1) (s.fpArg f rs2))).retire 4)

/-- A comparison: 1 or 0 to x[rd] (45_f.md R470-R472). -/
def fpCompare (f : Fmt) (rd rs1 rs2 : Reg) (rel : Fp → Fp → Bool) (flags : Fp → Fp → FpFlags) (s : State) : Result :=
  .next ((s.putX rd (boolX s.cfg.bits (rel (s.fpVal f rs1) (s.fpVal f rs2)))
    (flags (s.fpVal f rs1) (s.fpVal f rs2))).retire 4)

/-- FCLASS (45_f.md R473). -/
def fpClass (f : Fmt) (rd rs1 : Reg) (s : State) : Result :=
  .next ((s.setX rd ((f.classify (s.fpArg f rs1)).setWidth s.cfg.bits)).retire 4)

/-- FCVT to an integer of `w` bits, its low `w` bits sign-extended to XLEN (45_f.md R454-R458). -/
def fpToInt (i : Instr) (f : Fmt) (rd rs1 : Reg) (rm : BitVec 3) (w : Nat) (lo hi : Int) : State → Result :=
  withMode i rm fun mode s =>
    s.putX rd ((BitVec.ofInt w ((s.fpVal f rs1).toInt mode lo hi).1).signExtend s.cfg.bits)
      ((s.fpVal f rs1).toInt mode lo hi).2

/-- FCVT from the low `w` bits of x[rs1], signed or unsigned (45_f.md R459-R463). -/
def fpOfInt (i : Instr) (f : Fmt) (rd rs1 : Reg) (rm : BitVec 3) (w : Nat) (signed : Bool) : State → Result :=
  withMode i rm fun mode s =>
    s.putFp f rd (f.ofInt mode (if signed then (s.readX w rs1).toInt else ((s.readX w rs1).toNat : Int)))

/-- FCVT between formats (46_d_q_zfh.md R511-R512). -/
def fpConvert (i : Instr) (dst src : Fmt) (rd rs1 : Reg) (rm : BitVec 3) : State → Result :=
  withMode i rm fun mode s => s.putFp dst rd (dst.ofFp mode (s.fpVal src rs1))

/-- FROUND and FROUNDNX (48_zfinx_zfa_cmo_zawrs.md R657-R658). -/
def fpRound (i : Instr) (f : Fmt) (exact : Bool) (rd rs1 : Reg) (rm : BitVec 3) : State → Result :=
  withMode i rm fun mode s => s.putFp f rd (f.roundToIntegral exact mode (s.fpArg f rs1))

/-- FLI: a constant (48_zfinx_zfa_cmo_zawrs.md R651). -/
def fpConst (f : Fmt) (rd : Reg) (idx : BitVec 5) (s : State) : Result :=
  .next ((s.setFp rd (f.fli idx)).retire 4)

/-- FMV.X.fmt: the low bits of f[rs1], sign-extended (45_f.md R467). -/
def fpMoveToX (f : Fmt) (rd rs1 : Reg) (s : State) : Result :=
  .next ((s.setX rd (((s.readF rs1).setWidth f.width).signExtend s.cfg.bits)).retire 4)

/-- FMV.fmt.X: the low bits of x[rs1], boxed (45_f.md R468). -/
def fpMoveFromX (f : Fmt) (rd rs1 : Reg) (s : State) : Result :=
  .next ((s.setF rd (box s.cfg.flen (s.readX f.width rs1))).retire 4)

/-- The sign-injected datum: the magnitude of `a` with a sign (45_f.md R464-R466). -/
def Fmt.withSign (f : Fmt) (a : BitVec f.width) (neg : Bool) : BitVec f.width :=
  BitVec.ofNat f.width (a.toNat % 2 ^ (f.width - 1) + if neg then 2 ^ (f.width - 1) else 0)

/-- FSGNJ: the sign of b. -/
def Fmt.sgnj (f : Fmt) (a b : BitVec f.width) : BitVec f.width × FpFlags := (f.withSign a (f.signField b), 0)
/-- FSGNJN: the opposite of the sign of b. -/
def Fmt.sgnjn (f : Fmt) (a b : BitVec f.width) : BitVec f.width × FpFlags := (f.withSign a (!f.signField b), 0)
/-- FSGNJX: the exclusive or of both signs. -/
def Fmt.sgnjx (f : Fmt) (a b : BitVec f.width) : BitVec f.width × FpFlags :=
  (f.withSign a (f.signField a != f.signField b), 0)

end Sys2Proof.Machine
end

