-- ==== Sys2Proof/Machine/Atomic.lean ====
section
/-! DEFINITION. The A extension and Zawrs (43_m_a.md section 2; 48_zfinx_zfa_cmo_zawrs.md R690-R692). The aq and rl bits
order accesses as other harts see them and change no value (43_m_a.md R368). -/

namespace Sys2Proof

/-- The region of every one of the `n` bytes at `a` supports LR and SC. -/
def Config.lrscAt (c : Config) (a n : Nat) : Bool := c.allIn (span c.bits a n) fun r => r.lrsc

/-- The `n` bytes at `a` may be read and written by an AMO of a class (R379; 92_eei_decisions.md D4; assumption log 26). -/
def Config.amoAt (c : Config) (a n : Nat) (cls : AmoClass) : Bool :=
  c.accessible a n .load && c.accessible a n .store &&
    c.allIn (span c.bits a n) fun r => decide (cls.rank ≤ r.amo.rank)

end Sys2Proof

namespace Sys2Proof.Machine

/-- What the reservation set of an LR of `n` bytes at `a` holds beside them: RESERVATION_SET (43_m_a.md R369;
92_eei_decisions.md D9). -/
def State.reservationExtra (s : State) (a n : Nat) : List (Nat × Nat) :=
  match s.cfg.reservation with
  | .exact => []
  | .granule k => [(a / 2 ^ k * 2 ^ k, 2 ^ k)]
  | .superset => Config.reservationSet s.draws a n

/-- An LR of `n` bytes at `a` registers its reservation (43_m_a.md R369). -/
def State.reserve (s : State) (a n : Nat) : State :=
  { s with reservation := some { addr := a, size := n, extra := s.reservationExtra a n } }

/-- An address lies in the reservation set: in the addressed bytes or in what it holds beside them. -/
def Reservation.contains (r : Reservation) (b : Nat) : Bool :=
  ((r.addr, r.size) :: r.extra).any fun p => decide (p.1 ≤ b ∧ b < p.1 + p.2)

/-- The hart holds a reservation whose set contains the `n` bytes at `a`. -/
def State.reserved (s : State) (a n : Nat) : Bool :=
  match s.reservation with
  | none => false
  | some r => (span s.cfg.bits a n).all r.contains

/-- sc_succeeds(hart, a, n): never without a reservation that contains the bytes; else as SC_FAIL says (R372). -/
def State.scSucceeds (s : State) (a n : Nat) : Bool :=
  s.reserved a n && !(s.cfg.scFail == .nondeterministic && Config.scSpuriouslyFails s.draws)

/-- x[rs1] as the address of an atomic instruction (R367). -/
def State.atomicAddr (s : State) (rs1 : Reg) : Nat := (s.readX s.cfg.bits rs1).toNat

/-- LR of `n` bytes (R369, R370). -/
def loadReserved (n : Nat) (rd rs1 : Reg) (s : State) : Result :=
  if s.atomicAddr rs1 % n ≠ 0 then .next (s.raise (misalignedExc .load (s.atomicAddr rs1)) 4)
  else if s.cfg.accessible (s.atomicAddr rs1) n .load && s.cfg.lrscAt (s.atomicAddr rs1) n then
    .next (((((s.readMem (s.atomicAddr rs1) n).2.reserve (s.atomicAddr rs1) n)).setX rd
      (extendTo s.cfg.bits true n (s.readMem (s.atomicAddr rs1) n).1)).retire 4)
  else .next (s.raise (accessFaultExc .load (s.atomicAddr rs1)) 4)

/-- The reservation is invalidated. -/
def State.unreserve (s : State) : State := { s with reservation := none }

/-- SC of `n` bytes (R371-R374): the failure code is 1, and the reservation ends whether it succeeds or fails. -/
def storeConditional (n : Nat) (rd rs1 rs2 : Reg) (s : State) : Result :=
  if s.atomicAddr rs1 % n ≠ 0 then .next (s.raise (misalignedExc .store (s.atomicAddr rs1)) 4)
  else if s.cfg.accessible (s.atomicAddr rs1) n .store && s.cfg.lrscAt (s.atomicAddr rs1) n then
    if s.scSucceeds (s.atomicAddr rs1) n then
      .next ((((s.writeMem (s.atomicAddr rs1) n (s.readX s.cfg.bits rs2).toNat).unreserve).setX rd
        (0 : BitVec s.cfg.bits)).retire 4)
    else .next (((s.unreserve).setX rd (1 : BitVec s.cfg.bits)).retire 4)
  else .next (s.raise (accessFaultExc .store (s.atomicAddr rs1)) 4)

/-- The new value of AMOSWAP: the register operand. -/
def amoSwap (w : Nat) (_t b : BitVec w) : BitVec w := b

/-- The signed minimum. -/
def amoMin (w : Nat) (t b : BitVec w) : BitVec w := if t.slt b then t else b

/-- The signed maximum. -/
def amoMax (w : Nat) (t b : BitVec w) : BitVec w := if b.slt t then t else b

/-- The unsigned minimum. -/
def amoMinu (w : Nat) (t b : BitVec w) : BitVec w := if t.ult b then t else b

/-- The unsigned maximum. -/
def amoMaxu (w : Nat) (t b : BitVec w) : BitVec w := if b.ult t then t else b

/-- The value that an AMO of `n` bytes stores. -/
def amoValue (n : Nat) (op : BitVec (8 * n) → BitVec (8 * n) → BitVec (8 * n)) (rs1 rs2 : Reg) (s : State) : Nat :=
  (op (BitVec.ofNat (8 * n) (s.readMem (s.atomicAddr rs1) n).1) (s.readX (8 * n) rs2)).toNat

/-- An AMO of `n` bytes (R379): both halves raise the exceptions of a store. R379 does not say whether an AMO ends the
hart's own reservation; that it leaves it is the model's choice (DESIGN CHOICE, assumption log 16). The class of each
AMO is the model's choice too (PRESUMED, assumption log 26). -/
def amo (n : Nat) (cls : AmoClass) (rd rs1 rs2 : Reg) (op : BitVec (8 * n) → BitVec (8 * n) → BitVec (8 * n))
    (s : State) : Result :=
  if s.atomicAddr rs1 % n != 0 && !s.cfg.inGranule (s.atomicAddr rs1) n then
    .next (s.raise (misalignedExc .store (s.atomicAddr rs1)) 4)
  else if s.cfg.amoAt (s.atomicAddr rs1) n cls then
    .next ((((s.readMem (s.atomicAddr rs1) n).2.writeMem (s.atomicAddr rs1) n (amoValue n op rs1 rs2 s)).setX rd
      (extendTo s.cfg.bits true n (s.readMem (s.atomicAddr rs1) n).1)).retire 4)
  else .next (s.raise (accessFaultExc .store (s.atomicAddr rs1)) 4)

/-- may_stall of 48_zfinx_zfa_cmo_zawrs.md R690, as far as the hart stalls at all: a reservation is held, no interrupt is
pending, and the stall does not end for another reason (its timeout, or the implementation's choice). -/
def State.mayStall (s : State) : Bool :=
  s.cfg.wrsStalls && s.reservation.isSome && !s.interruptPending && !Config.stallEnds s.draws

/-- WRS.NTO and WRS.STO (R690-R692): retire at once, or begin to stall. -/
def waitReservation (s : State) : Result :=
  if s.mayStall then .next { s.tick with stalled := true } else .next (s.retire 4)

/-- A stalled hart: the stall goes on, or it ends and the WRS retires (R690; 60_exceptions.md R773). -/
def stallStep (s : State) : Result :=
  if s.mayStall then .next s.tick else .next (({ s with stalled := false } : State).retire 4)

/-- LR.W (R369). -/
def execLrW (rd : BitVec 5) (rs1 : BitVec 5) (_aq : BitVec 1) (_rl : BitVec 1) (s : State) : Result :=
  loadReserved 4 rd rs1 s

/-- SC.W (R371). -/
def execScW (rd : BitVec 5) (rs1 : BitVec 5) (rs2 : BitVec 5) (_aq : BitVec 1) (_rl : BitVec 1) (s : State) : Result :=
  storeConditional 4 rd rs1 rs2 s

/-- LR.D (R370). -/
def execLrD (rd : BitVec 5) (rs1 : BitVec 5) (_aq : BitVec 1) (_rl : BitVec 1) (s : State) : Result :=
  loadReserved 8 rd rs1 s

/-- SC.D (R373). -/
def execScD (rd : BitVec 5) (rs1 : BitVec 5) (rs2 : BitVec 5) (_aq : BitVec 1) (_rl : BitVec 1) (s : State) : Result :=
  storeConditional 8 rd rs1 rs2 s

/-- AMOSWAP.W (R381). -/
def execAmoswapW (rd : BitVec 5) (rs1 : BitVec 5) (rs2 : BitVec 5) (_aq : BitVec 1) (_rl : BitVec 1) (s : State) : Result :=
  amo 4 .swap rd rs1 rs2 (amoSwap (8 * 4)) s

/-- AMOSWAP.D (R391). -/
def execAmoswapD (rd : BitVec 5) (rs1 : BitVec 5) (rs2 : BitVec 5) (_aq : BitVec 1) (_rl : BitVec 1) (s : State) : Result :=
  amo 8 .swap rd rs1 rs2 (amoSwap (8 * 8)) s

/-- AMOADD.W (R382). -/
def execAmoaddW (rd : BitVec 5) (rs1 : BitVec 5) (rs2 : BitVec 5) (_aq : BitVec 1) (_rl : BitVec 1) (s : State) : Result :=
  amo 4 .arithmetic rd rs1 rs2 (intAdd (8 * 4)) s

/-- AMOADD.D (R392). -/
def execAmoaddD (rd : BitVec 5) (rs1 : BitVec 5) (rs2 : BitVec 5) (_aq : BitVec 1) (_rl : BitVec 1) (s : State) : Result :=
  amo 8 .arithmetic rd rs1 rs2 (intAdd (8 * 8)) s

/-- AMOXOR.W (R383). -/
def execAmoxorW (rd : BitVec 5) (rs1 : BitVec 5) (rs2 : BitVec 5) (_aq : BitVec 1) (_rl : BitVec 1) (s : State) : Result :=
  amo 4 .logical rd rs1 rs2 (intXor (8 * 4)) s

/-- AMOXOR.D (R393). -/
def execAmoxorD (rd : BitVec 5) (rs1 : BitVec 5) (rs2 : BitVec 5) (_aq : BitVec 1) (_rl : BitVec 1) (s : State) : Result :=
  amo 8 .logical rd rs1 rs2 (intXor (8 * 8)) s

/-- AMOAND.W (R385). -/
def execAmoandW (rd : BitVec 5) (rs1 : BitVec 5) (rs2 : BitVec 5) (_aq : BitVec 1) (_rl : BitVec 1) (s : State) : Result :=
  amo 4 .logical rd rs1 rs2 (intAnd (8 * 4)) s

/-- AMOAND.D (R394). -/
def execAmoandD (rd : BitVec 5) (rs1 : BitVec 5) (rs2 : BitVec 5) (_aq : BitVec 1) (_rl : BitVec 1) (s : State) : Result :=
  amo 8 .logical rd rs1 rs2 (intAnd (8 * 8)) s

/-- AMOOR.W (R386). -/
def execAmoorW (rd : BitVec 5) (rs1 : BitVec 5) (rs2 : BitVec 5) (_aq : BitVec 1) (_rl : BitVec 1) (s : State) : Result :=
  amo 4 .logical rd rs1 rs2 (intOr (8 * 4)) s

/-- AMOOR.D (R395). -/
def execAmoorD (rd : BitVec 5) (rs1 : BitVec 5) (rs2 : BitVec 5) (_aq : BitVec 1) (_rl : BitVec 1) (s : State) : Result :=
  amo 8 .logical rd rs1 rs2 (intOr (8 * 8)) s

/-- AMOMIN.W (R387). -/
def execAmominW (rd : BitVec 5) (rs1 : BitVec 5) (rs2 : BitVec 5) (_aq : BitVec 1) (_rl : BitVec 1) (s : State) : Result :=
  amo 4 .arithmetic rd rs1 rs2 (amoMin (8 * 4)) s

/-- AMOMIN.D (R396). -/
def execAmominD (rd : BitVec 5) (rs1 : BitVec 5) (rs2 : BitVec 5) (_aq : BitVec 1) (_rl : BitVec 1) (s : State) : Result :=
  amo 8 .arithmetic rd rs1 rs2 (amoMin (8 * 8)) s

/-- AMOMAX.W (R388). -/
def execAmomaxW (rd : BitVec 5) (rs1 : BitVec 5) (rs2 : BitVec 5) (_aq : BitVec 1) (_rl : BitVec 1) (s : State) : Result :=
  amo 4 .arithmetic rd rs1 rs2 (amoMax (8 * 4)) s

/-- AMOMAX.D (R397). -/
def execAmomaxD (rd : BitVec 5) (rs1 : BitVec 5) (rs2 : BitVec 5) (_aq : BitVec 1) (_rl : BitVec 1) (s : State) : Result :=
  amo 8 .arithmetic rd rs1 rs2 (amoMax (8 * 8)) s

/-- AMOMINU.W (R389). -/
def execAmominuW (rd : BitVec 5) (rs1 : BitVec 5) (rs2 : BitVec 5) (_aq : BitVec 1) (_rl : BitVec 1) (s : State) : Result :=
  amo 4 .arithmetic rd rs1 rs2 (amoMinu (8 * 4)) s

/-- AMOMINU.D (R398). -/
def execAmominuD (rd : BitVec 5) (rs1 : BitVec 5) (rs2 : BitVec 5) (_aq : BitVec 1) (_rl : BitVec 1) (s : State) : Result :=
  amo 8 .arithmetic rd rs1 rs2 (amoMinu (8 * 8)) s

/-- AMOMAXU.W (R390). -/
def execAmomaxuW (rd : BitVec 5) (rs1 : BitVec 5) (rs2 : BitVec 5) (_aq : BitVec 1) (_rl : BitVec 1) (s : State) : Result :=
  amo 4 .arithmetic rd rs1 rs2 (amoMaxu (8 * 4)) s

/-- AMOMAXU.D (R399). -/
def execAmomaxuD (rd : BitVec 5) (rs1 : BitVec 5) (rs2 : BitVec 5) (_aq : BitVec 1) (_rl : BitVec 1) (s : State) : Result :=
  amo 8 .arithmetic rd rs1 rs2 (amoMaxu (8 * 8)) s

/-- WRS.NTO (R691). -/
def execWrsNto (s : State) : Result :=
  waitReservation s

/-- WRS.STO (R692). -/
def execWrsSto (s : State) : Result :=
  waitReservation s

end Sys2Proof.Machine
end

