-- ==== Sys2Proof/Machine/Cmo.lean ====
section
/-! DEFINITION. Zicbom, Zicboz and Zicbop (48_zfinx_zfa_cmo_zawrs.md R670-R684). -/

namespace Sys2Proof

/-- The base of the naturally aligned block of 2^k bytes around an address (R670). -/
def blockBase (k a : Nat) : Nat := a / 2 ^ k * 2 ^ k

/-- check_cbo_access (R677): a management instruction may access a block that a load or a store may access. No list of
widths limits it (DESIGN CHOICE, assumption log 29). A block that may be written and not read, on which R677 leaves a CBO
UNSPECIFIED, is treated by the same rule (DESIGN CHOICE, assumption log 30). -/
def Config.cboAccess (c : Config) (a : Nat) : Bool :=
  c.allIn (span c.bits (blockBase c.cblockMLog2 a) (2 ^ c.cblockMLog2)) fun r => r.readable || r.writable

/-- CBO.ZERO may write the block: a store is permitted, and an I/O region supports the zeroing of blocks (R677). The list
of widths of a region does not limit it, as the granularity of its stores is open (DESIGN CHOICE, assumption log 29). A
block that may be written and not read, on which R677 leaves a CBO UNSPECIFIED, is treated by the same rule (DESIGN
CHOICE, assumption log 30). -/
def Config.cboZeroAccess (c : Config) (a : Nat) : Bool :=
  c.allIn (span c.bits (blockBase c.cblockZLog2 a) (2 ^ c.cblockZLog2)) fun r =>
    r.writable && (r.kind == .mainMemory || r.cboZero)

end Sys2Proof

namespace Sys2Proof.Machine

/-- CBO.INVAL, CBO.CLEAN, CBO.FLUSH (R672-R677): memory is one coherent array, in which they change no byte
(20_memory.md R124). -/
def cboManage (i : Instr) (enabled : Bool) (rs1 : Reg) (s : State) : Result :=
  if enabled then
    if s.cfg.cboAccess (s.addr rs1 0) then .next (s.retire 4)
    else .next (s.raise (accessFaultExc .store (s.addr rs1 0)) 4)
  else .next (s.raiseIllegal i)

/-- CBO.ZERO (R676): zeros to every byte of the block. The spec leaves the order and the granularity of the stores open;
that a device sees them as one write of the whole block is the model's choice (DESIGN CHOICE, assumption log 9). -/
def cboZeroBlock (i : Instr) (rs1 : Reg) (s : State) : Result :=
  if s.cfg.cbze then
    if s.cfg.cboZeroAccess (s.addr rs1 0) then
      .next ((s.writeMem (blockBase s.cfg.cblockZLog2 (s.addr rs1 0)) (2 ^ s.cfg.cblockZLog2) 0).retire 4)
    else .next (s.raise (accessFaultExc .store (s.addr rs1 0)) 4)
  else .next (s.raiseIllegal i)

/-- CBO.INVAL (R675). -/
def execCboInval (rs1 : BitVec 5) (s : State) : Result :=
  cboManage (.cboInval rs1) (s.cfg.cbie != .illegal) rs1 s

/-- CBO.CLEAN (R673). -/
def execCboClean (rs1 : BitVec 5) (s : State) : Result :=
  cboManage (.cboClean rs1) s.cfg.cbcfe rs1 s

/-- CBO.FLUSH (R674). -/
def execCboFlush (rs1 : BitVec 5) (s : State) : Result :=
  cboManage (.cboFlush rs1) s.cfg.cbcfe rs1 s

/-- CBO.ZERO (R676). -/
def execCboZero (rs1 : BitVec 5) (s : State) : Result :=
  cboZeroBlock (.cboZero rs1) rs1 s

/-- PREFETCH.I (R681). -/
def execPrefetchI (_rs1 : BitVec 5) (_off : BitVec 7) (s : State) : Result :=
  .next (s.retire 4)

/-- PREFETCH.R (R682). -/
def execPrefetchR (_rs1 : BitVec 5) (_off : BitVec 7) (s : State) : Result :=
  .next (s.retire 4)

/-- PREFETCH.W (R683). -/
def execPrefetchW (_rs1 : BitVec 5) (_off : BitVec 7) (s : State) : Result :=
  .next (s.retire 4)

end Sys2Proof.Machine
end

