-- ==== Sys2Proof/Machine/Compressed.lean ====
section
/-! DEFINITION. The compressed instructions of RVC, Zca, Zcf and Zcd (47_c_zimop_zcmop.md). -/

namespace Sys2Proof

/-- The amount of C.SLLI: on RV128 a zero encodes 64 (47_c_zimop_zcmop.md R597). -/
def Config.leftAmount (c : Config) (shamt : BitVec 6) : Nat :=
  if c.xlen = .rv128 ∧ shamt = 0 then 64 else shamt.toNat

/-- The amount of C.SRLI and C.SRAI: on RV128 a zero encodes 64, and the amount is sign-extended to 7 bits
(47_c_zimop_zcmop.md R598-R599). -/
def Config.rightAmount (c : Config) (shamt : BitVec 6) : Nat :=
  if c.xlen = .rv128 then (if shamt = 0 then 64 else (shamt.signExtend 7).toNat) else shamt.toNat

end Sys2Proof

namespace Sys2Proof.Machine

/-- C.ILLEGAL (R612). -/
def execCIllegal (s : State) : Result :=
  .next (s.raise (.illegalInstruction 0) 2)

/-- C.ADDI4SPN (R600). -/
def execCAddi4spn (rdp : BitVec 3) (nzuimm : BitVec 8) (s : State) : Result :=
  opValue 2 (wideReg rdp) (fun s => s.readX s.cfg.bits 2 + (nzuimm ++ 0#2).setWidth s.cfg.bits) s

/-- C.FLD (R582). -/
def execCFld (rdp : BitVec 3) (rs1p : BitVec 3) (uimm : BitVec 5) (s : State) : Result :=
  loadF 2 .d (wideReg rdp) (fun s => s.eaScaled (wideReg rs1p) uimm 3) s

/-- C.LQ (R580). -/
def execCLq (rdp : BitVec 3) (rs1p : BitVec 3) (uimm : BitVec 5) (s : State) : Result :=
  loadX 2 16 true (wideReg rdp) (fun s => s.eaScaled (wideReg rs1p) uimm 4) s

/-- C.LW (R578). -/
def execCLw (rdp : BitVec 3) (rs1p : BitVec 3) (uimm : BitVec 5) (s : State) : Result :=
  loadX 2 4 true (wideReg rdp) (fun s => s.eaScaled (wideReg rs1p) uimm 2) s

/-- C.FLW (R581). -/
def execCFlw (rdp : BitVec 3) (rs1p : BitVec 3) (uimm : BitVec 5) (s : State) : Result :=
  loadF 2 .s (wideReg rdp) (fun s => s.eaScaled (wideReg rs1p) uimm 2) s

/-- C.LD (R579). -/
def execCLd (rdp : BitVec 3) (rs1p : BitVec 3) (uimm : BitVec 5) (s : State) : Result :=
  loadX 2 8 true (wideReg rdp) (fun s => s.eaScaled (wideReg rs1p) uimm 3) s

/-- C.FSD (R587). -/
def execCFsd (rs1p : BitVec 3) (rs2p : BitVec 3) (uimm : BitVec 5) (s : State) : Result :=
  storeF 2 .d (wideReg rs2p) (fun s => s.eaScaled (wideReg rs1p) uimm 3) s

/-- C.SQ (R585). -/
def execCSq (rs1p : BitVec 3) (rs2p : BitVec 3) (uimm : BitVec 5) (s : State) : Result :=
  storeX 2 16 (wideReg rs2p) (fun s => s.eaScaled (wideReg rs1p) uimm 4) s

/-- C.SW (R583). -/
def execCSw (rs1p : BitVec 3) (rs2p : BitVec 3) (uimm : BitVec 5) (s : State) : Result :=
  storeX 2 4 (wideReg rs2p) (fun s => s.eaScaled (wideReg rs1p) uimm 2) s

/-- C.FSW (R586). -/
def execCFsw (rs1p : BitVec 3) (rs2p : BitVec 3) (uimm : BitVec 5) (s : State) : Result :=
  storeF 2 .s (wideReg rs2p) (fun s => s.eaScaled (wideReg rs1p) uimm 2) s

/-- C.SD (R584). -/
def execCSd (rs1p : BitVec 3) (rs2p : BitVec 3) (uimm : BitVec 5) (s : State) : Result :=
  storeX 2 8 (wideReg rs2p) (fun s => s.eaScaled (wideReg rs1p) uimm 3) s

/-- C.NOP (R613). -/
def execCNop (_imm : BitVec 6) (s : State) : Result :=
  .next (s.retire 2)

/-- C.ADDI (R597). -/
def execCAddi (rd : BitVec 5) (imm : BitVec 6) (s : State) : Result :=
  opImm 2 rd rd imm intAdd s

/-- C.JAL (R590). -/
def execCJal (off : BitVec 11) (s : State) : Result :=
  jump 2 1 (fun s => s.pcRel off) s

/-- C.ADDIW (R598). -/
def execCAddiw (rd : BitVec 5) (imm : BitVec 6) (s : State) : Result :=
  opImmW 2 rd rd imm (intAdd 32) s

/-- C.LI (R595). -/
def execCLi (rd : BitVec 5) (imm : BitVec 6) (s : State) : Result :=
  opValue 2 rd (fun s => imm.signExtend s.cfg.bits) s

/-- C.ADDI16SP (R599). -/
def execCAddi16sp (nzimm : BitVec 6) (s : State) : Result :=
  opImm 2 2 2 (nzimm ++ 0#4) intAdd s

/-- C.LUI (R596). -/
def execCLui (rd : BitVec 5) (imm : BitVec 6) (s : State) : Result :=
  opValue 2 rd (fun s => (imm ++ 0#12).signExtend s.cfg.bits) s

/-- C.SRLI (R602). -/
def execCSrli (rdp : BitVec 3) (shamt : BitVec 6) (s : State) : Result :=
  opShift 2 (wideReg rdp) (wideReg rdp) (s.cfg.rightAmount shamt) shiftRight s

/-- C.SRAI (R603). -/
def execCSrai (rdp : BitVec 3) (shamt : BitVec 6) (s : State) : Result :=
  opShift 2 (wideReg rdp) (wideReg rdp) (s.cfg.rightAmount shamt) shiftRightArith s

/-- C.ANDI (R604). -/
def execCAndi (rdp : BitVec 3) (imm : BitVec 6) (s : State) : Result :=
  opImm 2 (wideReg rdp) (wideReg rdp) imm intAnd s

/-- C.SUB (R610). -/
def execCSub (rdp : BitVec 3) (rs2p : BitVec 3) (s : State) : Result :=
  opReg 2 (wideReg rdp) (wideReg rdp) (wideReg rs2p) intSub s

/-- C.XOR (R609). -/
def execCXor (rdp : BitVec 3) (rs2p : BitVec 3) (s : State) : Result :=
  opReg 2 (wideReg rdp) (wideReg rdp) (wideReg rs2p) intXor s

/-- C.OR (R608). -/
def execCOr (rdp : BitVec 3) (rs2p : BitVec 3) (s : State) : Result :=
  opReg 2 (wideReg rdp) (wideReg rdp) (wideReg rs2p) intOr s

/-- C.AND (R607). -/
def execCAnd (rdp : BitVec 3) (rs2p : BitVec 3) (s : State) : Result :=
  opReg 2 (wideReg rdp) (wideReg rdp) (wideReg rs2p) intAnd s

/-- C.SUBW (R611). -/
def execCSubw (rdp : BitVec 3) (rs2p : BitVec 3) (s : State) : Result :=
  opRegW 2 (wideReg rdp) (wideReg rdp) (wideReg rs2p) (intSub 32) s

/-- C.ADDW (R611). -/
def execCAddw (rdp : BitVec 3) (rs2p : BitVec 3) (s : State) : Result :=
  opRegW 2 (wideReg rdp) (wideReg rdp) (wideReg rs2p) (intAdd 32) s

/-- C.J (R589). -/
def execCJ (off : BitVec 11) (s : State) : Result :=
  jump 2 0 (fun s => s.pcRel off) s

/-- C.BEQZ (R593). -/
def execCBeqz (rs1p : BitVec 3) (off : BitVec 8) (s : State) : Result :=
  branch 2 (wideReg rs1p) 0 off condEq s

/-- C.BNEZ (R594). -/
def execCBnez (rs1p : BitVec 3) (off : BitVec 8) (s : State) : Result :=
  branch 2 (wideReg rs1p) 0 off condNe s

/-- C.SLLI (R601). -/
def execCSlli (rd : BitVec 5) (shamt : BitVec 6) (s : State) : Result :=
  opShift 2 rd rd (s.cfg.leftAmount shamt) shiftLeft s

/-- C.FLDSP (R570). -/
def execCFldsp (rd : BitVec 5) (uimm : BitVec 6) (s : State) : Result :=
  loadF 2 .d rd (fun s => s.eaScaled 2 uimm 3) s

/-- C.LQSP (R568). -/
def execCLqsp (rd : BitVec 5) (uimm : BitVec 6) (s : State) : Result :=
  loadX 2 16 true rd (fun s => s.eaScaled 2 uimm 4) s

/-- C.LWSP (R566). -/
def execCLwsp (rd : BitVec 5) (uimm : BitVec 6) (s : State) : Result :=
  loadX 2 4 true rd (fun s => s.eaScaled 2 uimm 2) s

/-- C.FLWSP (R569). -/
def execCFlwsp (rd : BitVec 5) (uimm : BitVec 6) (s : State) : Result :=
  loadF 2 .s rd (fun s => s.eaScaled 2 uimm 2) s

/-- C.LDSP (R567). -/
def execCLdsp (rd : BitVec 5) (uimm : BitVec 6) (s : State) : Result :=
  loadX 2 8 true rd (fun s => s.eaScaled 2 uimm 3) s

/-- C.JR (R591). -/
def execCJr (rs1 : BitVec 5) (s : State) : Result :=
  jump 2 0 (fun s => s.jalrTarget rs1 0) s

/-- C.MV (R605). -/
def execCMv (rd : BitVec 5) (rs2 : BitVec 5) (s : State) : Result :=
  opValue 2 rd (fun s => s.readX s.cfg.bits rs2) s

/-- C.EBREAK (R614). -/
def execCEbreak (s : State) : Result :=
  .next (s.raise (.breakpoint s.pc) 2)

/-- C.JALR (R592). -/
def execCJalr (rs1 : BitVec 5) (s : State) : Result :=
  jump 2 1 (fun s => s.jalrTarget rs1 0) s

/-- C.ADD (R606). -/
def execCAdd (rd : BitVec 5) (rs2 : BitVec 5) (s : State) : Result :=
  opReg 2 rd rd rs2 intAdd s

/-- C.FSDSP (R575). -/
def execCFsdsp (rs2 : BitVec 5) (uimm : BitVec 6) (s : State) : Result :=
  storeF 2 .d rs2 (fun s => s.eaScaled 2 uimm 3) s

/-- C.SQSP (R573). -/
def execCSqsp (rs2 : BitVec 5) (uimm : BitVec 6) (s : State) : Result :=
  storeX 2 16 rs2 (fun s => s.eaScaled 2 uimm 4) s

/-- C.SWSP (R571). -/
def execCSwsp (rs2 : BitVec 5) (uimm : BitVec 6) (s : State) : Result :=
  storeX 2 4 rs2 (fun s => s.eaScaled 2 uimm 2) s

/-- C.FSWSP (R574). -/
def execCFswsp (rs2 : BitVec 5) (uimm : BitVec 6) (s : State) : Result :=
  storeF 2 .s rs2 (fun s => s.eaScaled 2 uimm 2) s

/-- C.SDSP (R572). -/
def execCSdsp (rs2 : BitVec 5) (uimm : BitVec 6) (s : State) : Result :=
  storeX 2 8 rs2 (fun s => s.eaScaled 2 uimm 3) s

end Sys2Proof.Machine
end

