-- ==== Sys2Proof/Machine/Csr.lean ====
section
/-! DEFINITION. Zicsr, and the CSRs of the floating-point unit, the counters and Zcmt (44_zicsr_counters.md; 10_state.md
R45-R56). -/

namespace Sys2Proof.Machine

/-- The low XLEN bits of a 64-bit counter, zero-extended where XLEN is greater (10_state.md R54). -/
def lowHalf (n : Nat) (v : BitVec 64) : BitVec n := v.setWidth n

/-- Bits 63..32 of a 64-bit counter (10_state.md R54). -/
def highHalf (n : Nat) (v : BitVec 64) : BitVec n := (v >>> 32).setWidth n

/-- The value of the implemented hpmcounter of a number (10_state.md R55). -/
def State.hpmValue (s : State) (k : Nat) : Option (BitVec 64) :=
  match s.hpm.find? (fun h => h.number == k) with
  | none => none
  | some h => some (BitVec.ofNat 64 (h.value.toNat % 2 ^ h.width))

/-- The counter of a number 0 to 31: cycle, time, instret, or an hpmcounter (10_state.md R45, R51-R55). -/
def State.counter (s : State) (k : Nat) : Option (BitVec 64) :=
  if k = 0 then (if s.cfg.ext.zicntr then some s.cycle else none)
  else if k = 1 then (if s.cfg.ext.zicntr then some s.time else none)
  else if k = 2 then (if s.cfg.ext.zicntr then some s.instret else none)
  else if s.cfg.ext.zihpm then s.hpmValue k else none

/-- jvt as it reads: a read-only BASE shows its value whatever has been written (10_state.md R56). -/
def State.readJvt (s : State) : BitVec s.cfg.bits :=
  match s.cfg.jvtBase with
  | .any => s.jvt.setWidth s.cfg.bits
  | .readOnly b => s.cfg.jvtValue b
  | .alignedTo _ => s.jvt.setWidth s.cfg.bits
  | .oneOf _ _ => s.jvt.setWidth s.cfg.bits

/-- csr_read: the XLEN-bit view of a CSR, none where the configuration has no such CSR (10_state.md R45-R56;
44_zicsr_counters.md R408). -/
def State.csrRead (s : State) (a : BitVec 12) : Option (BitVec s.cfg.bits) :=
  if a = 0x001 then (if s.cfg.hasFcsr then some (s.fflags.setWidth s.cfg.bits) else none)
  else if a = 0x002 then (if s.cfg.hasFcsr then some (s.frm.setWidth s.cfg.bits) else none)
  else if a = 0x003 then (if s.cfg.hasFcsr then some ((s.frm ++ s.fflags).setWidth s.cfg.bits) else none)
  else if a = 0x017 then (if s.cfg.ext.zcmt && s.cfg.jvtEnabled then some s.readJvt else none)
  else if a.extractLsb' 5 7 = 0b1100000 then (s.counter (a.toNat % 32)).map (lowHalf s.cfg.bits)
  else if a.extractLsb' 5 7 = 0b1100100 then
    (if s.cfg.xlen = .rv32 then (s.counter (a.toNat % 32)).map (highHalf s.cfg.bits) else none)
  else none

/-- A CSR address marks a read-only CSR (44_zicsr_counters.md R407). -/
def csrReadOnly (a : BitVec 12) : Bool := a.extractLsb' 10 2 == 0b11

/-- csr_write: the writable bits of the value, the others ignored (10_state.md R46-R49, R56). -/
def State.csrWrite (s : State) (a : BitVec 12) (v : BitVec s.cfg.bits) : State :=
  if a = 0x001 then { s with fflags := v.setWidth 5 }
  else if a = 0x002 then { s with frm := v.setWidth 3 }
  else if a = 0x003 then { s with frm := (v >>> 5).setWidth 3, fflags := v.setWidth 5 }
  else if a = 0x017 then { s with jvt := (s.cfg.jvtLegal s.draws v).setWidth 128 }
  else s

/-- The value CSRRW writes. -/
def csrSwap (n : Nat) (_old v : BitVec n) : BitVec n := v

/-- The value CSRRS writes: the mask's bits set. -/
def csrSet (n : Nat) (old v : BitVec n) : BitVec n := old ||| v

/-- The value CSRRC writes: the mask's bits cleared. -/
def csrClear (n : Nat) (old v : BitVec n) : BitVec n := old &&& ~~~v

/-- A CSR instruction (44_zicsr_counters.md R400-R408): an absent CSR, and a write to a read-only one, raise illegal
instruction; else the old value goes to x[rd] where the instruction reads, and the CSR takes the new one where it
writes. -/
def csrAccess (i : Instr) (a : BitVec 12) (reads writes : Bool) (rd : Reg)
    (op : (n : Nat) → BitVec n → BitVec n → BitVec n) (src : (s : State) → BitVec s.cfg.bits) (s : State) : Result :=
  match s.csrRead a with
  | none => .next (s.raiseIllegal i)
  | some old =>
    if writes && csrReadOnly a then .next (s.raiseIllegal i)
    else
      let s1 := if writes then s.csrWrite a (op s.cfg.bits old (src s)) else s
      .next ((if reads then s1.setX rd old else s1).retire 4)

/-- CSRRW (R400). -/
def execCsrrw (rd : BitVec 5) (rs1 : BitVec 5) (csr : BitVec 12) (s : State) : Result :=
  csrAccess (.csrrw rd rs1 csr) csr (rd != 0) true rd csrSwap (fun s => s.readX s.cfg.bits rs1) s

/-- CSRRS (R401). -/
def execCsrrs (rd : BitVec 5) (rs1 : BitVec 5) (csr : BitVec 12) (s : State) : Result :=
  csrAccess (.csrrs rd rs1 csr) csr true (rs1 != 0) rd csrSet (fun s => s.readX s.cfg.bits rs1) s

/-- CSRRC (R402). -/
def execCsrrc (rd : BitVec 5) (rs1 : BitVec 5) (csr : BitVec 12) (s : State) : Result :=
  csrAccess (.csrrc rd rs1 csr) csr true (rs1 != 0) rd csrClear (fun s => s.readX s.cfg.bits rs1) s

/-- CSRRWI (R403). -/
def execCsrrwi (rd : BitVec 5) (uimm : BitVec 5) (csr : BitVec 12) (s : State) : Result :=
  csrAccess (.csrrwi rd uimm csr) csr (rd != 0) true rd csrSwap (fun s => uimm.setWidth s.cfg.bits) s

/-- CSRRSI (R404). -/
def execCsrrsi (rd : BitVec 5) (uimm : BitVec 5) (csr : BitVec 12) (s : State) : Result :=
  csrAccess (.csrrsi rd uimm csr) csr true (uimm != 0) rd csrSet (fun s => uimm.setWidth s.cfg.bits) s

/-- CSRRCI (R405). -/
def execCsrrci (rd : BitVec 5) (uimm : BitVec 5) (csr : BitVec 12) (s : State) : Result :=
  csrAccess (.csrrci rd uimm csr) csr true (uimm != 0) rd csrClear (fun s => uimm.setWidth s.cfg.bits) s

end Sys2Proof.Machine
end

