-- ==== Sys2Proof/Machine/FloatD.lean ====
section
/-! DEFINITION. The D extension (46_d_q_zfh.md). -/

namespace Sys2Proof.Machine

/-- FLD (R495). -/
def execFld (rd : BitVec 5) (rs1 : BitVec 5) (imm : BitVec 12) (s : State) : Result :=
  loadF 4 .d rd (fun s => s.ea rs1 imm) s

/-- FSD (R496). -/
def execFsd (rs1 : BitVec 5) (rs2 : BitVec 5) (imm : BitVec 12) (s : State) : Result :=
  storeF 4 .d rs2 (fun s => s.ea rs1 imm) s

/-- FMADD.D (R497). -/
def execFmaddD (rd : BitVec 5) (rs1 : BitVec 5) (rs2 : BitVec 5) (rs3 : BitVec 5) (rm : BitVec 3) (s : State) : Result :=
  fp3 (.fmaddD rd rs1 rs2 rs3 rm) .d rd rs1 rs2 rs3 rm false false s

/-- FMSUB.D (R498). -/
def execFmsubD (rd : BitVec 5) (rs1 : BitVec 5) (rs2 : BitVec 5) (rs3 : BitVec 5) (rm : BitVec 3) (s : State) : Result :=
  fp3 (.fmsubD rd rs1 rs2 rs3 rm) .d rd rs1 rs2 rs3 rm false true s

/-- FNMSUB.D (R499). -/
def execFnmsubD (rd : BitVec 5) (rs1 : BitVec 5) (rs2 : BitVec 5) (rs3 : BitVec 5) (rm : BitVec 3) (s : State) : Result :=
  fp3 (.fnmsubD rd rs1 rs2 rs3 rm) .d rd rs1 rs2 rs3 rm true false s

/-- FNMADD.D (R500). -/
def execFnmaddD (rd : BitVec 5) (rs1 : BitVec 5) (rs2 : BitVec 5) (rs3 : BitVec 5) (rm : BitVec 3) (s : State) : Result :=
  fp3 (.fnmaddD rd rs1 rs2 rs3 rm) .d rd rs1 rs2 rs3 rm true true s

/-- FADD.D (R501). -/
def execFaddD (rd : BitVec 5) (rs1 : BitVec 5) (rs2 : BitVec 5) (rm : BitVec 3) (s : State) : Result :=
  fp2 (.faddD rd rs1 rs2 rm) .d rd rs1 rs2 rm (Fmt.add .d) s

/-- FSUB.D (R502). -/
def execFsubD (rd : BitVec 5) (rs1 : BitVec 5) (rs2 : BitVec 5) (rm : BitVec 3) (s : State) : Result :=
  fp2 (.fsubD rd rs1 rs2 rm) .d rd rs1 rs2 rm (Fmt.sub .d) s

/-- FMUL.D (R503). -/
def execFmulD (rd : BitVec 5) (rs1 : BitVec 5) (rs2 : BitVec 5) (rm : BitVec 3) (s : State) : Result :=
  fp2 (.fmulD rd rs1 rs2 rm) .d rd rs1 rs2 rm (Fmt.mul .d) s

/-- FDIV.D (R504). -/
def execFdivD (rd : BitVec 5) (rs1 : BitVec 5) (rs2 : BitVec 5) (rm : BitVec 3) (s : State) : Result :=
  fp2 (.fdivD rd rs1 rs2 rm) .d rd rs1 rs2 rm (Fmt.div .d) s

/-- FSQRT.D (R505). -/
def execFsqrtD (rd : BitVec 5) (rs1 : BitVec 5) (rm : BitVec 3) (s : State) : Result :=
  fp1 (.fsqrtD rd rs1 rm) .d rd rs1 rm (Fmt.sqrt .d) s

/-- FSGNJ.D (R506). -/
def execFsgnjD (rd : BitVec 5) (rs1 : BitVec 5) (rs2 : BitVec 5) (s : State) : Result :=
  fpBits2 .d rd rs1 rs2 (Fmt.sgnj .d) s

/-- FSGNJN.D (R507). -/
def execFsgnjnD (rd : BitVec 5) (rs1 : BitVec 5) (rs2 : BitVec 5) (s : State) : Result :=
  fpBits2 .d rd rs1 rs2 (Fmt.sgnjn .d) s

/-- FSGNJX.D (R508). -/
def execFsgnjxD (rd : BitVec 5) (rs1 : BitVec 5) (rs2 : BitVec 5) (s : State) : Result :=
  fpBits2 .d rd rs1 rs2 (Fmt.sgnjx .d) s

/-- FMIN.D (R509). -/
def execFminD (rd : BitVec 5) (rs1 : BitVec 5) (rs2 : BitVec 5) (s : State) : Result :=
  fpBits2 .d rd rs1 rs2 (Fmt.minNum .d false) s

/-- FMAX.D (R510). -/
def execFmaxD (rd : BitVec 5) (rs1 : BitVec 5) (rs2 : BitVec 5) (s : State) : Result :=
  fpBits2 .d rd rs1 rs2 (Fmt.minNum .d true) s

/-- FEQ.D (R513). -/
def execFeqD (rd : BitVec 5) (rs1 : BitVec 5) (rs2 : BitVec 5) (s : State) : Result :=
  fpCompare .d rd rs1 rs2 Fp.eq quietFlags s

/-- FLT.D (R514). -/
def execFltD (rd : BitVec 5) (rs1 : BitVec 5) (rs2 : BitVec 5) (s : State) : Result :=
  fpCompare .d rd rs1 rs2 Fp.lt signalingFlags s

/-- FLE.D (R515). -/
def execFleD (rd : BitVec 5) (rs1 : BitVec 5) (rs2 : BitVec 5) (s : State) : Result :=
  fpCompare .d rd rs1 rs2 Fp.le signalingFlags s

/-- FCLASS.D (R516). -/
def execFclassD (rd : BitVec 5) (rs1 : BitVec 5) (s : State) : Result :=
  fpClass .d rd rs1 s

/-- FCVT.W.D (R517). -/
def execFcvtWD (rd : BitVec 5) (rs1 : BitVec 5) (rm : BitVec 3) (s : State) : Result :=
  fpToInt (.fcvtWD rd rs1 rm) .d rd rs1 rm 32 (-2 ^ 31) (2 ^ 31 - 1) s

/-- FCVT.D.W (R521). -/
def execFcvtDW (rd : BitVec 5) (rs1 : BitVec 5) (rm : BitVec 3) (s : State) : Result :=
  fpOfInt (.fcvtDW rd rs1 rm) .d rd rs1 rm 32 true s

/-- FCVT.WU.D (R518). -/
def execFcvtWuD (rd : BitVec 5) (rs1 : BitVec 5) (rm : BitVec 3) (s : State) : Result :=
  fpToInt (.fcvtWuD rd rs1 rm) .d rd rs1 rm 32 0 (2 ^ 32 - 1) s

/-- FCVT.D.WU (R522). -/
def execFcvtDWu (rd : BitVec 5) (rs1 : BitVec 5) (rm : BitVec 3) (s : State) : Result :=
  fpOfInt (.fcvtDWu rd rs1 rm) .d rd rs1 rm 32 false s

/-- FCVT.L.D (R519). -/
def execFcvtLD (rd : BitVec 5) (rs1 : BitVec 5) (rm : BitVec 3) (s : State) : Result :=
  fpToInt (.fcvtLD rd rs1 rm) .d rd rs1 rm 64 (-2 ^ 63) (2 ^ 63 - 1) s

/-- FCVT.D.L (R523). -/
def execFcvtDL (rd : BitVec 5) (rs1 : BitVec 5) (rm : BitVec 3) (s : State) : Result :=
  fpOfInt (.fcvtDL rd rs1 rm) .d rd rs1 rm 64 true s

/-- FCVT.LU.D (R520). -/
def execFcvtLuD (rd : BitVec 5) (rs1 : BitVec 5) (rm : BitVec 3) (s : State) : Result :=
  fpToInt (.fcvtLuD rd rs1 rm) .d rd rs1 rm 64 0 (2 ^ 64 - 1) s

/-- FCVT.D.LU (R524). -/
def execFcvtDLu (rd : BitVec 5) (rs1 : BitVec 5) (rm : BitVec 3) (s : State) : Result :=
  fpOfInt (.fcvtDLu rd rs1 rm) .d rd rs1 rm 64 false s

/-- FMV.X.D (R525). -/
def execFmvXD (rd : BitVec 5) (rs1 : BitVec 5) (s : State) : Result :=
  fpMoveToX .d rd rs1 s

/-- FMV.D.X (R526). -/
def execFmvDX (rd : BitVec 5) (rs1 : BitVec 5) (s : State) : Result :=
  fpMoveFromX .d rd rs1 s

/-- FCVT.S.D (R511). -/
def execFcvtSD (rd : BitVec 5) (rs1 : BitVec 5) (rm : BitVec 3) (s : State) : Result :=
  fpConvert (.fcvtSD rd rs1 rm) .s .d rd rs1 rm s

/-- FCVT.D.S (R512). -/
def execFcvtDS (rd : BitVec 5) (rs1 : BitVec 5) (rm : BitVec 3) (s : State) : Result :=
  fpConvert (.fcvtDS rd rs1 rm) .d .s rd rs1 rm s

end Sys2Proof.Machine
end

