-- ==== Sys2Proof/Machine/FloatH.lean ====
section
/-! DEFINITION. Zfh and Zfhmin (46_d_q_zfh.md). -/

namespace Sys2Proof.Machine

/-- FLH (R814). -/
def execFlh (rd : BitVec 5) (rs1 : BitVec 5) (imm : BitVec 12) (s : State) : Result :=
  loadF 4 .h rd (fun s => s.ea rs1 imm) s

/-- FSH (R815). -/
def execFsh (rs1 : BitVec 5) (rs2 : BitVec 5) (imm : BitVec 12) (s : State) : Result :=
  storeF 4 .h rs2 (fun s => s.ea rs1 imm) s

/-- FMADD.H (R816). -/
def execFmaddH (rd : BitVec 5) (rs1 : BitVec 5) (rs2 : BitVec 5) (rs3 : BitVec 5) (rm : BitVec 3) (s : State) : Result :=
  fp3 (.fmaddH rd rs1 rs2 rs3 rm) .h rd rs1 rs2 rs3 rm false false s

/-- FMSUB.H (R817). -/
def execFmsubH (rd : BitVec 5) (rs1 : BitVec 5) (rs2 : BitVec 5) (rs3 : BitVec 5) (rm : BitVec 3) (s : State) : Result :=
  fp3 (.fmsubH rd rs1 rs2 rs3 rm) .h rd rs1 rs2 rs3 rm false true s

/-- FNMSUB.H (R818). -/
def execFnmsubH (rd : BitVec 5) (rs1 : BitVec 5) (rs2 : BitVec 5) (rs3 : BitVec 5) (rm : BitVec 3) (s : State) : Result :=
  fp3 (.fnmsubH rd rs1 rs2 rs3 rm) .h rd rs1 rs2 rs3 rm true false s

/-- FNMADD.H (R819). -/
def execFnmaddH (rd : BitVec 5) (rs1 : BitVec 5) (rs2 : BitVec 5) (rs3 : BitVec 5) (rm : BitVec 3) (s : State) : Result :=
  fp3 (.fnmaddH rd rs1 rs2 rs3 rm) .h rd rs1 rs2 rs3 rm true true s

/-- FADD.H (R820). -/
def execFaddH (rd : BitVec 5) (rs1 : BitVec 5) (rs2 : BitVec 5) (rm : BitVec 3) (s : State) : Result :=
  fp2 (.faddH rd rs1 rs2 rm) .h rd rs1 rs2 rm (Fmt.add .h) s

/-- FSUB.H (R821). -/
def execFsubH (rd : BitVec 5) (rs1 : BitVec 5) (rs2 : BitVec 5) (rm : BitVec 3) (s : State) : Result :=
  fp2 (.fsubH rd rs1 rs2 rm) .h rd rs1 rs2 rm (Fmt.sub .h) s

/-- FMUL.H (R822). -/
def execFmulH (rd : BitVec 5) (rs1 : BitVec 5) (rs2 : BitVec 5) (rm : BitVec 3) (s : State) : Result :=
  fp2 (.fmulH rd rs1 rs2 rm) .h rd rs1 rs2 rm (Fmt.mul .h) s

/-- FDIV.H (R823). -/
def execFdivH (rd : BitVec 5) (rs1 : BitVec 5) (rs2 : BitVec 5) (rm : BitVec 3) (s : State) : Result :=
  fp2 (.fdivH rd rs1 rs2 rm) .h rd rs1 rs2 rm (Fmt.div .h) s

/-- FSQRT.H (R824). -/
def execFsqrtH (rd : BitVec 5) (rs1 : BitVec 5) (rm : BitVec 3) (s : State) : Result :=
  fp1 (.fsqrtH rd rs1 rm) .h rd rs1 rm (Fmt.sqrt .h) s

/-- FSGNJ.H (R825). -/
def execFsgnjH (rd : BitVec 5) (rs1 : BitVec 5) (rs2 : BitVec 5) (s : State) : Result :=
  fpBits2 .h rd rs1 rs2 (Fmt.sgnj .h) s

/-- FSGNJN.H (R826). -/
def execFsgnjnH (rd : BitVec 5) (rs1 : BitVec 5) (rs2 : BitVec 5) (s : State) : Result :=
  fpBits2 .h rd rs1 rs2 (Fmt.sgnjn .h) s

/-- FSGNJX.H (R827). -/
def execFsgnjxH (rd : BitVec 5) (rs1 : BitVec 5) (rs2 : BitVec 5) (s : State) : Result :=
  fpBits2 .h rd rs1 rs2 (Fmt.sgnjx .h) s

/-- FMIN.H (R828). -/
def execFminH (rd : BitVec 5) (rs1 : BitVec 5) (rs2 : BitVec 5) (s : State) : Result :=
  fpBits2 .h rd rs1 rs2 (Fmt.minNum .h false) s

/-- FMAX.H (R829). -/
def execFmaxH (rd : BitVec 5) (rs1 : BitVec 5) (rs2 : BitVec 5) (s : State) : Result :=
  fpBits2 .h rd rs1 rs2 (Fmt.minNum .h true) s

/-- FEQ.H (R836). -/
def execFeqH (rd : BitVec 5) (rs1 : BitVec 5) (rs2 : BitVec 5) (s : State) : Result :=
  fpCompare .h rd rs1 rs2 Fp.eq quietFlags s

/-- FLT.H (R837). -/
def execFltH (rd : BitVec 5) (rs1 : BitVec 5) (rs2 : BitVec 5) (s : State) : Result :=
  fpCompare .h rd rs1 rs2 Fp.lt signalingFlags s

/-- FLE.H (R838). -/
def execFleH (rd : BitVec 5) (rs1 : BitVec 5) (rs2 : BitVec 5) (s : State) : Result :=
  fpCompare .h rd rs1 rs2 Fp.le signalingFlags s

/-- FCLASS.H (R839). -/
def execFclassH (rd : BitVec 5) (rs1 : BitVec 5) (s : State) : Result :=
  fpClass .h rd rs1 s

/-- FCVT.W.H (R840). -/
def execFcvtWH (rd : BitVec 5) (rs1 : BitVec 5) (rm : BitVec 3) (s : State) : Result :=
  fpToInt (.fcvtWH rd rs1 rm) .h rd rs1 rm 32 (-2 ^ 31) (2 ^ 31 - 1) s

/-- FCVT.H.W (R844). -/
def execFcvtHW (rd : BitVec 5) (rs1 : BitVec 5) (rm : BitVec 3) (s : State) : Result :=
  fpOfInt (.fcvtHW rd rs1 rm) .h rd rs1 rm 32 true s

/-- FCVT.WU.H (R841). -/
def execFcvtWuH (rd : BitVec 5) (rs1 : BitVec 5) (rm : BitVec 3) (s : State) : Result :=
  fpToInt (.fcvtWuH rd rs1 rm) .h rd rs1 rm 32 0 (2 ^ 32 - 1) s

/-- FCVT.H.WU (R845). -/
def execFcvtHWu (rd : BitVec 5) (rs1 : BitVec 5) (rm : BitVec 3) (s : State) : Result :=
  fpOfInt (.fcvtHWu rd rs1 rm) .h rd rs1 rm 32 false s

/-- FCVT.L.H (R842). -/
def execFcvtLH (rd : BitVec 5) (rs1 : BitVec 5) (rm : BitVec 3) (s : State) : Result :=
  fpToInt (.fcvtLH rd rs1 rm) .h rd rs1 rm 64 (-2 ^ 63) (2 ^ 63 - 1) s

/-- FCVT.H.L (R846). -/
def execFcvtHL (rd : BitVec 5) (rs1 : BitVec 5) (rm : BitVec 3) (s : State) : Result :=
  fpOfInt (.fcvtHL rd rs1 rm) .h rd rs1 rm 64 true s

/-- FCVT.LU.H (R843). -/
def execFcvtLuH (rd : BitVec 5) (rs1 : BitVec 5) (rm : BitVec 3) (s : State) : Result :=
  fpToInt (.fcvtLuH rd rs1 rm) .h rd rs1 rm 64 0 (2 ^ 64 - 1) s

/-- FCVT.H.LU (R847). -/
def execFcvtHLu (rd : BitVec 5) (rs1 : BitVec 5) (rm : BitVec 3) (s : State) : Result :=
  fpOfInt (.fcvtHLu rd rs1 rm) .h rd rs1 rm 64 false s

/-- FMV.X.H (R848). -/
def execFmvXH (rd : BitVec 5) (rs1 : BitVec 5) (s : State) : Result :=
  fpMoveToX .h rd rs1 s

/-- FMV.H.X (R849). -/
def execFmvHX (rd : BitVec 5) (rs1 : BitVec 5) (s : State) : Result :=
  fpMoveFromX .h rd rs1 s

/-- FCVT.S.H (R830). -/
def execFcvtSH (rd : BitVec 5) (rs1 : BitVec 5) (rm : BitVec 3) (s : State) : Result :=
  fpConvert (.fcvtSH rd rs1 rm) .s .h rd rs1 rm s

/-- FCVT.H.S (R831). -/
def execFcvtHS (rd : BitVec 5) (rs1 : BitVec 5) (rm : BitVec 3) (s : State) : Result :=
  fpConvert (.fcvtHS rd rs1 rm) .h .s rd rs1 rm s

/-- FCVT.D.H (R832). -/
def execFcvtDH (rd : BitVec 5) (rs1 : BitVec 5) (rm : BitVec 3) (s : State) : Result :=
  fpConvert (.fcvtDH rd rs1 rm) .d .h rd rs1 rm s

/-- FCVT.H.D (R833). -/
def execFcvtHD (rd : BitVec 5) (rs1 : BitVec 5) (rm : BitVec 3) (s : State) : Result :=
  fpConvert (.fcvtHD rd rs1 rm) .h .d rd rs1 rm s

/-- FCVT.Q.H (R834). -/
def execFcvtQH (rd : BitVec 5) (rs1 : BitVec 5) (rm : BitVec 3) (s : State) : Result :=
  fpConvert (.fcvtQH rd rs1 rm) .q .h rd rs1 rm s

/-- FCVT.H.Q (R835). -/
def execFcvtHQ (rd : BitVec 5) (rs1 : BitVec 5) (rm : BitVec 3) (s : State) : Result :=
  fpConvert (.fcvtHQ rd rs1 rm) .h .q rd rs1 rm s

end Sys2Proof.Machine
end

