-- ==== Sys2Proof/Machine/FloatQ.lean ====
section
/-! DEFINITION. The Q extension (46_d_q_zfh.md). -/

namespace Sys2Proof.Machine

/-- FLQ (R528). -/
def execFlq (rd : BitVec 5) (rs1 : BitVec 5) (imm : BitVec 12) (s : State) : Result :=
  loadF 4 .q rd (fun s => s.ea rs1 imm) s

/-- FSQ (R529). -/
def execFsq (rs1 : BitVec 5) (rs2 : BitVec 5) (imm : BitVec 12) (s : State) : Result :=
  storeF 4 .q rs2 (fun s => s.ea rs1 imm) s

/-- FMADD.Q (R530). -/
def execFmaddQ (rd : BitVec 5) (rs1 : BitVec 5) (rs2 : BitVec 5) (rs3 : BitVec 5) (rm : BitVec 3) (s : State) : Result :=
  fp3 (.fmaddQ rd rs1 rs2 rs3 rm) .q rd rs1 rs2 rs3 rm false false s

/-- FMSUB.Q (R531). -/
def execFmsubQ (rd : BitVec 5) (rs1 : BitVec 5) (rs2 : BitVec 5) (rs3 : BitVec 5) (rm : BitVec 3) (s : State) : Result :=
  fp3 (.fmsubQ rd rs1 rs2 rs3 rm) .q rd rs1 rs2 rs3 rm false true s

/-- FNMSUB.Q (R532). -/
def execFnmsubQ (rd : BitVec 5) (rs1 : BitVec 5) (rs2 : BitVec 5) (rs3 : BitVec 5) (rm : BitVec 3) (s : State) : Result :=
  fp3 (.fnmsubQ rd rs1 rs2 rs3 rm) .q rd rs1 rs2 rs3 rm true false s

/-- FNMADD.Q (R533). -/
def execFnmaddQ (rd : BitVec 5) (rs1 : BitVec 5) (rs2 : BitVec 5) (rs3 : BitVec 5) (rm : BitVec 3) (s : State) : Result :=
  fp3 (.fnmaddQ rd rs1 rs2 rs3 rm) .q rd rs1 rs2 rs3 rm true true s

/-- FADD.Q (R534). -/
def execFaddQ (rd : BitVec 5) (rs1 : BitVec 5) (rs2 : BitVec 5) (rm : BitVec 3) (s : State) : Result :=
  fp2 (.faddQ rd rs1 rs2 rm) .q rd rs1 rs2 rm (Fmt.add .q) s

/-- FSUB.Q (R535). -/
def execFsubQ (rd : BitVec 5) (rs1 : BitVec 5) (rs2 : BitVec 5) (rm : BitVec 3) (s : State) : Result :=
  fp2 (.fsubQ rd rs1 rs2 rm) .q rd rs1 rs2 rm (Fmt.sub .q) s

/-- FMUL.Q (R536). -/
def execFmulQ (rd : BitVec 5) (rs1 : BitVec 5) (rs2 : BitVec 5) (rm : BitVec 3) (s : State) : Result :=
  fp2 (.fmulQ rd rs1 rs2 rm) .q rd rs1 rs2 rm (Fmt.mul .q) s

/-- FDIV.Q (R537). -/
def execFdivQ (rd : BitVec 5) (rs1 : BitVec 5) (rs2 : BitVec 5) (rm : BitVec 3) (s : State) : Result :=
  fp2 (.fdivQ rd rs1 rs2 rm) .q rd rs1 rs2 rm (Fmt.div .q) s

/-- FSQRT.Q (R538). -/
def execFsqrtQ (rd : BitVec 5) (rs1 : BitVec 5) (rm : BitVec 3) (s : State) : Result :=
  fp1 (.fsqrtQ rd rs1 rm) .q rd rs1 rm (Fmt.sqrt .q) s

/-- FSGNJ.Q (R539). -/
def execFsgnjQ (rd : BitVec 5) (rs1 : BitVec 5) (rs2 : BitVec 5) (s : State) : Result :=
  fpBits2 .q rd rs1 rs2 (Fmt.sgnj .q) s

/-- FSGNJN.Q (R540). -/
def execFsgnjnQ (rd : BitVec 5) (rs1 : BitVec 5) (rs2 : BitVec 5) (s : State) : Result :=
  fpBits2 .q rd rs1 rs2 (Fmt.sgnjn .q) s

/-- FSGNJX.Q (R541). -/
def execFsgnjxQ (rd : BitVec 5) (rs1 : BitVec 5) (rs2 : BitVec 5) (s : State) : Result :=
  fpBits2 .q rd rs1 rs2 (Fmt.sgnjx .q) s

/-- FMIN.Q (R542). -/
def execFminQ (rd : BitVec 5) (rs1 : BitVec 5) (rs2 : BitVec 5) (s : State) : Result :=
  fpBits2 .q rd rs1 rs2 (Fmt.minNum .q false) s

/-- FMAX.Q (R543). -/
def execFmaxQ (rd : BitVec 5) (rs1 : BitVec 5) (rs2 : BitVec 5) (s : State) : Result :=
  fpBits2 .q rd rs1 rs2 (Fmt.minNum .q true) s

/-- FEQ.Q (R548). -/
def execFeqQ (rd : BitVec 5) (rs1 : BitVec 5) (rs2 : BitVec 5) (s : State) : Result :=
  fpCompare .q rd rs1 rs2 Fp.eq quietFlags s

/-- FLT.Q (R549). -/
def execFltQ (rd : BitVec 5) (rs1 : BitVec 5) (rs2 : BitVec 5) (s : State) : Result :=
  fpCompare .q rd rs1 rs2 Fp.lt signalingFlags s

/-- FLE.Q (R550). -/
def execFleQ (rd : BitVec 5) (rs1 : BitVec 5) (rs2 : BitVec 5) (s : State) : Result :=
  fpCompare .q rd rs1 rs2 Fp.le signalingFlags s

/-- FCLASS.Q (R551). -/
def execFclassQ (rd : BitVec 5) (rs1 : BitVec 5) (s : State) : Result :=
  fpClass .q rd rs1 s

/-- FCVT.W.Q (R552). -/
def execFcvtWQ (rd : BitVec 5) (rs1 : BitVec 5) (rm : BitVec 3) (s : State) : Result :=
  fpToInt (.fcvtWQ rd rs1 rm) .q rd rs1 rm 32 (-2 ^ 31) (2 ^ 31 - 1) s

/-- FCVT.Q.W (R556). -/
def execFcvtQW (rd : BitVec 5) (rs1 : BitVec 5) (rm : BitVec 3) (s : State) : Result :=
  fpOfInt (.fcvtQW rd rs1 rm) .q rd rs1 rm 32 true s

/-- FCVT.WU.Q (R553). -/
def execFcvtWuQ (rd : BitVec 5) (rs1 : BitVec 5) (rm : BitVec 3) (s : State) : Result :=
  fpToInt (.fcvtWuQ rd rs1 rm) .q rd rs1 rm 32 0 (2 ^ 32 - 1) s

/-- FCVT.Q.WU (R557). -/
def execFcvtQWu (rd : BitVec 5) (rs1 : BitVec 5) (rm : BitVec 3) (s : State) : Result :=
  fpOfInt (.fcvtQWu rd rs1 rm) .q rd rs1 rm 32 false s

/-- FCVT.L.Q (R554). -/
def execFcvtLQ (rd : BitVec 5) (rs1 : BitVec 5) (rm : BitVec 3) (s : State) : Result :=
  fpToInt (.fcvtLQ rd rs1 rm) .q rd rs1 rm 64 (-2 ^ 63) (2 ^ 63 - 1) s

/-- FCVT.Q.L (R558). -/
def execFcvtQL (rd : BitVec 5) (rs1 : BitVec 5) (rm : BitVec 3) (s : State) : Result :=
  fpOfInt (.fcvtQL rd rs1 rm) .q rd rs1 rm 64 true s

/-- FCVT.LU.Q (R555). -/
def execFcvtLuQ (rd : BitVec 5) (rs1 : BitVec 5) (rm : BitVec 3) (s : State) : Result :=
  fpToInt (.fcvtLuQ rd rs1 rm) .q rd rs1 rm 64 0 (2 ^ 64 - 1) s

/-- FCVT.Q.LU (R559). -/
def execFcvtQLu (rd : BitVec 5) (rs1 : BitVec 5) (rm : BitVec 3) (s : State) : Result :=
  fpOfInt (.fcvtQLu rd rs1 rm) .q rd rs1 rm 64 false s

/-- FCVT.S.Q (R544). -/
def execFcvtSQ (rd : BitVec 5) (rs1 : BitVec 5) (rm : BitVec 3) (s : State) : Result :=
  fpConvert (.fcvtSQ rd rs1 rm) .s .q rd rs1 rm s

/-- FCVT.Q.S (R545). -/
def execFcvtQS (rd : BitVec 5) (rs1 : BitVec 5) (rm : BitVec 3) (s : State) : Result :=
  fpConvert (.fcvtQS rd rs1 rm) .q .s rd rs1 rm s

/-- FCVT.D.Q (R546). -/
def execFcvtDQ (rd : BitVec 5) (rs1 : BitVec 5) (rm : BitVec 3) (s : State) : Result :=
  fpConvert (.fcvtDQ rd rs1 rm) .d .q rd rs1 rm s

/-- FCVT.Q.D (R547). -/
def execFcvtQD (rd : BitVec 5) (rs1 : BitVec 5) (rm : BitVec 3) (s : State) : Result :=
  fpConvert (.fcvtQD rd rs1 rm) .q .d rd rs1 rm s

end Sys2Proof.Machine
end

