-- ==== Sys2Proof/Machine/FloatS.lean ====
section
/-! DEFINITION. The F extension (45_f.md). -/

namespace Sys2Proof.Machine

/-- FLW (R440). -/
def execFlw (rd : BitVec 5) (rs1 : BitVec 5) (imm : BitVec 12) (s : State) : Result :=
  loadF 4 .s rd (fun s => s.ea rs1 imm) s

/-- FSW (R441). -/
def execFsw (rs1 : BitVec 5) (rs2 : BitVec 5) (imm : BitVec 12) (s : State) : Result :=
  storeF 4 .s rs2 (fun s => s.ea rs1 imm) s

/-- FMADD.S (R450). -/
def execFmaddS (rd : BitVec 5) (rs1 : BitVec 5) (rs2 : BitVec 5) (rs3 : BitVec 5) (rm : BitVec 3) (s : State) : Result :=
  fp3 (.fmaddS rd rs1 rs2 rs3 rm) .s rd rs1 rs2 rs3 rm false false s

/-- FMSUB.S (R451). -/
def execFmsubS (rd : BitVec 5) (rs1 : BitVec 5) (rs2 : BitVec 5) (rs3 : BitVec 5) (rm : BitVec 3) (s : State) : Result :=
  fp3 (.fmsubS rd rs1 rs2 rs3 rm) .s rd rs1 rs2 rs3 rm false true s

/-- FNMSUB.S (R452). -/
def execFnmsubS (rd : BitVec 5) (rs1 : BitVec 5) (rs2 : BitVec 5) (rs3 : BitVec 5) (rm : BitVec 3) (s : State) : Result :=
  fp3 (.fnmsubS rd rs1 rs2 rs3 rm) .s rd rs1 rs2 rs3 rm true false s

/-- FNMADD.S (R453). -/
def execFnmaddS (rd : BitVec 5) (rs1 : BitVec 5) (rs2 : BitVec 5) (rs3 : BitVec 5) (rm : BitVec 3) (s : State) : Result :=
  fp3 (.fnmaddS rd rs1 rs2 rs3 rm) .s rd rs1 rs2 rs3 rm true true s

/-- FADD.S (R442). -/
def execFaddS (rd : BitVec 5) (rs1 : BitVec 5) (rs2 : BitVec 5) (rm : BitVec 3) (s : State) : Result :=
  fp2 (.faddS rd rs1 rs2 rm) .s rd rs1 rs2 rm (Fmt.add .s) s

/-- FSUB.S (R443). -/
def execFsubS (rd : BitVec 5) (rs1 : BitVec 5) (rs2 : BitVec 5) (rm : BitVec 3) (s : State) : Result :=
  fp2 (.fsubS rd rs1 rs2 rm) .s rd rs1 rs2 rm (Fmt.sub .s) s

/-- FMUL.S (R444). -/
def execFmulS (rd : BitVec 5) (rs1 : BitVec 5) (rs2 : BitVec 5) (rm : BitVec 3) (s : State) : Result :=
  fp2 (.fmulS rd rs1 rs2 rm) .s rd rs1 rs2 rm (Fmt.mul .s) s

/-- FDIV.S (R445). -/
def execFdivS (rd : BitVec 5) (rs1 : BitVec 5) (rs2 : BitVec 5) (rm : BitVec 3) (s : State) : Result :=
  fp2 (.fdivS rd rs1 rs2 rm) .s rd rs1 rs2 rm (Fmt.div .s) s

/-- FSQRT.S (R446). -/
def execFsqrtS (rd : BitVec 5) (rs1 : BitVec 5) (rm : BitVec 3) (s : State) : Result :=
  fp1 (.fsqrtS rd rs1 rm) .s rd rs1 rm (Fmt.sqrt .s) s

/-- FSGNJ.S (R464). -/
def execFsgnjS (rd : BitVec 5) (rs1 : BitVec 5) (rs2 : BitVec 5) (s : State) : Result :=
  fpBits2 .s rd rs1 rs2 (Fmt.sgnj .s) s

/-- FSGNJN.S (R465). -/
def execFsgnjnS (rd : BitVec 5) (rs1 : BitVec 5) (rs2 : BitVec 5) (s : State) : Result :=
  fpBits2 .s rd rs1 rs2 (Fmt.sgnjn .s) s

/-- FSGNJX.S (R466). -/
def execFsgnjxS (rd : BitVec 5) (rs1 : BitVec 5) (rs2 : BitVec 5) (s : State) : Result :=
  fpBits2 .s rd rs1 rs2 (Fmt.sgnjx .s) s

/-- FMIN.S (R447). -/
def execFminS (rd : BitVec 5) (rs1 : BitVec 5) (rs2 : BitVec 5) (s : State) : Result :=
  fpBits2 .s rd rs1 rs2 (Fmt.minNum .s false) s

/-- FMAX.S (R448). -/
def execFmaxS (rd : BitVec 5) (rs1 : BitVec 5) (rs2 : BitVec 5) (s : State) : Result :=
  fpBits2 .s rd rs1 rs2 (Fmt.minNum .s true) s

/-- FEQ.S (R470). -/
def execFeqS (rd : BitVec 5) (rs1 : BitVec 5) (rs2 : BitVec 5) (s : State) : Result :=
  fpCompare .s rd rs1 rs2 Fp.eq quietFlags s

/-- FLT.S (R471). -/
def execFltS (rd : BitVec 5) (rs1 : BitVec 5) (rs2 : BitVec 5) (s : State) : Result :=
  fpCompare .s rd rs1 rs2 Fp.lt signalingFlags s

/-- FLE.S (R472). -/
def execFleS (rd : BitVec 5) (rs1 : BitVec 5) (rs2 : BitVec 5) (s : State) : Result :=
  fpCompare .s rd rs1 rs2 Fp.le signalingFlags s

/-- FCLASS.S (R473). -/
def execFclassS (rd : BitVec 5) (rs1 : BitVec 5) (s : State) : Result :=
  fpClass .s rd rs1 s

/-- FCVT.W.S (R455). -/
def execFcvtWS (rd : BitVec 5) (rs1 : BitVec 5) (rm : BitVec 3) (s : State) : Result :=
  fpToInt (.fcvtWS rd rs1 rm) .s rd rs1 rm 32 (-2 ^ 31) (2 ^ 31 - 1) s

/-- FCVT.S.W (R460). -/
def execFcvtSW (rd : BitVec 5) (rs1 : BitVec 5) (rm : BitVec 3) (s : State) : Result :=
  fpOfInt (.fcvtSW rd rs1 rm) .s rd rs1 rm 32 true s

/-- FCVT.WU.S (R456). -/
def execFcvtWuS (rd : BitVec 5) (rs1 : BitVec 5) (rm : BitVec 3) (s : State) : Result :=
  fpToInt (.fcvtWuS rd rs1 rm) .s rd rs1 rm 32 0 (2 ^ 32 - 1) s

/-- FCVT.S.WU (R461). -/
def execFcvtSWu (rd : BitVec 5) (rs1 : BitVec 5) (rm : BitVec 3) (s : State) : Result :=
  fpOfInt (.fcvtSWu rd rs1 rm) .s rd rs1 rm 32 false s

/-- FCVT.L.S (R457). -/
def execFcvtLS (rd : BitVec 5) (rs1 : BitVec 5) (rm : BitVec 3) (s : State) : Result :=
  fpToInt (.fcvtLS rd rs1 rm) .s rd rs1 rm 64 (-2 ^ 63) (2 ^ 63 - 1) s

/-- FCVT.S.L (R462). -/
def execFcvtSL (rd : BitVec 5) (rs1 : BitVec 5) (rm : BitVec 3) (s : State) : Result :=
  fpOfInt (.fcvtSL rd rs1 rm) .s rd rs1 rm 64 true s

/-- FCVT.LU.S (R458). -/
def execFcvtLuS (rd : BitVec 5) (rs1 : BitVec 5) (rm : BitVec 3) (s : State) : Result :=
  fpToInt (.fcvtLuS rd rs1 rm) .s rd rs1 rm 64 0 (2 ^ 64 - 1) s

/-- FCVT.S.LU (R463). -/
def execFcvtSLu (rd : BitVec 5) (rs1 : BitVec 5) (rm : BitVec 3) (s : State) : Result :=
  fpOfInt (.fcvtSLu rd rs1 rm) .s rd rs1 rm 64 false s

/-- FMV.X.W (R467). -/
def execFmvXW (rd : BitVec 5) (rs1 : BitVec 5) (s : State) : Result :=
  fpMoveToX .s rd rs1 s

/-- FMV.W.X (R468). -/
def execFmvWX (rd : BitVec 5) (rs1 : BitVec 5) (s : State) : Result :=
  fpMoveFromX .s rd rs1 s

end Sys2Proof.Machine
end

