-- ==== Sys2Proof/Machine/Hints.lean ====
section
/-! DEFINITION. The hints NTL and PAUSE, and the may-be-operations MOP and C.MOP in their default behaviour
(41_zifencei_hints_rv32e.md; 47_c_zimop_zcmop.md). -/

namespace Sys2Proof.Machine

/-- PAUSE (R296). -/
def execPause (s : State) : Result :=
  .next (s.retire 4)

/-- NTL.P1 (R293). -/
def execNtlP1 (s : State) : Result :=
  .next (s.retire 4)

/-- NTL.PALL (R293). -/
def execNtlPall (s : State) : Result :=
  .next (s.retire 4)

/-- NTL.S1 (R293). -/
def execNtlS1 (s : State) : Result :=
  .next (s.retire 4)

/-- NTL.ALL (R293). -/
def execNtlAll (s : State) : Result :=
  .next (s.retire 4)

/-- C.NTL.P1 (R294). -/
def execCNtlP1 (s : State) : Result :=
  .next (s.retire 2)

/-- C.NTL.PALL (R294). -/
def execCNtlPall (s : State) : Result :=
  .next (s.retire 2)

/-- C.NTL.S1 (R294). -/
def execCNtlS1 (s : State) : Result :=
  .next (s.retire 2)

/-- C.NTL.ALL (R294). -/
def execCNtlAll (s : State) : Result :=
  .next (s.retire 2)

/-- MOP.R.0 (R620). -/
def execMopR0 (rd : BitVec 5) (_rs1 : BitVec 5) (s : State) : Result :=
  opValue 4 rd (fun _ => 0) s

/-- MOP.R.1 (R620). -/
def execMopR1 (rd : BitVec 5) (_rs1 : BitVec 5) (s : State) : Result :=
  opValue 4 rd (fun _ => 0) s

/-- MOP.R.2 (R620). -/
def execMopR2 (rd : BitVec 5) (_rs1 : BitVec 5) (s : State) : Result :=
  opValue 4 rd (fun _ => 0) s

/-- MOP.R.3 (R620). -/
def execMopR3 (rd : BitVec 5) (_rs1 : BitVec 5) (s : State) : Result :=
  opValue 4 rd (fun _ => 0) s

/-- MOP.R.4 (R620). -/
def execMopR4 (rd : BitVec 5) (_rs1 : BitVec 5) (s : State) : Result :=
  opValue 4 rd (fun _ => 0) s

/-- MOP.R.5 (R620). -/
def execMopR5 (rd : BitVec 5) (_rs1 : BitVec 5) (s : State) : Result :=
  opValue 4 rd (fun _ => 0) s

/-- MOP.R.6 (R620). -/
def execMopR6 (rd : BitVec 5) (_rs1 : BitVec 5) (s : State) : Result :=
  opValue 4 rd (fun _ => 0) s

/-- MOP.R.7 (R620). -/
def execMopR7 (rd : BitVec 5) (_rs1 : BitVec 5) (s : State) : Result :=
  opValue 4 rd (fun _ => 0) s

/-- MOP.R.8 (R620). -/
def execMopR8 (rd : BitVec 5) (_rs1 : BitVec 5) (s : State) : Result :=
  opValue 4 rd (fun _ => 0) s

/-- MOP.R.9 (R620). -/
def execMopR9 (rd : BitVec 5) (_rs1 : BitVec 5) (s : State) : Result :=
  opValue 4 rd (fun _ => 0) s

/-- MOP.R.10 (R620). -/
def execMopR10 (rd : BitVec 5) (_rs1 : BitVec 5) (s : State) : Result :=
  opValue 4 rd (fun _ => 0) s

/-- MOP.R.11 (R620). -/
def execMopR11 (rd : BitVec 5) (_rs1 : BitVec 5) (s : State) : Result :=
  opValue 4 rd (fun _ => 0) s

/-- MOP.R.12 (R620). -/
def execMopR12 (rd : BitVec 5) (_rs1 : BitVec 5) (s : State) : Result :=
  opValue 4 rd (fun _ => 0) s

/-- MOP.R.13 (R620). -/
def execMopR13 (rd : BitVec 5) (_rs1 : BitVec 5) (s : State) : Result :=
  opValue 4 rd (fun _ => 0) s

/-- MOP.R.14 (R620). -/
def execMopR14 (rd : BitVec 5) (_rs1 : BitVec 5) (s : State) : Result :=
  opValue 4 rd (fun _ => 0) s

/-- MOP.R.15 (R620). -/
def execMopR15 (rd : BitVec 5) (_rs1 : BitVec 5) (s : State) : Result :=
  opValue 4 rd (fun _ => 0) s

/-- MOP.R.16 (R620). -/
def execMopR16 (rd : BitVec 5) (_rs1 : BitVec 5) (s : State) : Result :=
  opValue 4 rd (fun _ => 0) s

/-- MOP.R.17 (R620). -/
def execMopR17 (rd : BitVec 5) (_rs1 : BitVec 5) (s : State) : Result :=
  opValue 4 rd (fun _ => 0) s

/-- MOP.R.18 (R620). -/
def execMopR18 (rd : BitVec 5) (_rs1 : BitVec 5) (s : State) : Result :=
  opValue 4 rd (fun _ => 0) s

/-- MOP.R.19 (R620). -/
def execMopR19 (rd : BitVec 5) (_rs1 : BitVec 5) (s : State) : Result :=
  opValue 4 rd (fun _ => 0) s

/-- MOP.R.20 (R620). -/
def execMopR20 (rd : BitVec 5) (_rs1 : BitVec 5) (s : State) : Result :=
  opValue 4 rd (fun _ => 0) s

/-- MOP.R.21 (R620). -/
def execMopR21 (rd : BitVec 5) (_rs1 : BitVec 5) (s : State) : Result :=
  opValue 4 rd (fun _ => 0) s

/-- MOP.R.22 (R620). -/
def execMopR22 (rd : BitVec 5) (_rs1 : BitVec 5) (s : State) : Result :=
  opValue 4 rd (fun _ => 0) s

/-- MOP.R.23 (R620). -/
def execMopR23 (rd : BitVec 5) (_rs1 : BitVec 5) (s : State) : Result :=
  opValue 4 rd (fun _ => 0) s

/-- MOP.R.24 (R620). -/
def execMopR24 (rd : BitVec 5) (_rs1 : BitVec 5) (s : State) : Result :=
  opValue 4 rd (fun _ => 0) s

/-- MOP.R.25 (R620). -/
def execMopR25 (rd : BitVec 5) (_rs1 : BitVec 5) (s : State) : Result :=
  opValue 4 rd (fun _ => 0) s

/-- MOP.R.26 (R620). -/
def execMopR26 (rd : BitVec 5) (_rs1 : BitVec 5) (s : State) : Result :=
  opValue 4 rd (fun _ => 0) s

/-- MOP.R.27 (R620). -/
def execMopR27 (rd : BitVec 5) (_rs1 : BitVec 5) (s : State) : Result :=
  opValue 4 rd (fun _ => 0) s

/-- MOP.R.28 (R620). -/
def execMopR28 (rd : BitVec 5) (_rs1 : BitVec 5) (s : State) : Result :=
  opValue 4 rd (fun _ => 0) s

/-- MOP.R.29 (R620). -/
def execMopR29 (rd : BitVec 5) (_rs1 : BitVec 5) (s : State) : Result :=
  opValue 4 rd (fun _ => 0) s

/-- MOP.R.30 (R620). -/
def execMopR30 (rd : BitVec 5) (_rs1 : BitVec 5) (s : State) : Result :=
  opValue 4 rd (fun _ => 0) s

/-- MOP.R.31 (R620). -/
def execMopR31 (rd : BitVec 5) (_rs1 : BitVec 5) (s : State) : Result :=
  opValue 4 rd (fun _ => 0) s

/-- MOP.RR.0 (R621). -/
def execMopRr0 (rd : BitVec 5) (_rs1 : BitVec 5) (_rs2 : BitVec 5) (s : State) : Result :=
  opValue 4 rd (fun _ => 0) s

/-- MOP.RR.1 (R621). -/
def execMopRr1 (rd : BitVec 5) (_rs1 : BitVec 5) (_rs2 : BitVec 5) (s : State) : Result :=
  opValue 4 rd (fun _ => 0) s

/-- MOP.RR.2 (R621). -/
def execMopRr2 (rd : BitVec 5) (_rs1 : BitVec 5) (_rs2 : BitVec 5) (s : State) : Result :=
  opValue 4 rd (fun _ => 0) s

/-- MOP.RR.3 (R621). -/
def execMopRr3 (rd : BitVec 5) (_rs1 : BitVec 5) (_rs2 : BitVec 5) (s : State) : Result :=
  opValue 4 rd (fun _ => 0) s

/-- MOP.RR.4 (R621). -/
def execMopRr4 (rd : BitVec 5) (_rs1 : BitVec 5) (_rs2 : BitVec 5) (s : State) : Result :=
  opValue 4 rd (fun _ => 0) s

/-- MOP.RR.5 (R621). -/
def execMopRr5 (rd : BitVec 5) (_rs1 : BitVec 5) (_rs2 : BitVec 5) (s : State) : Result :=
  opValue 4 rd (fun _ => 0) s

/-- MOP.RR.6 (R621). -/
def execMopRr6 (rd : BitVec 5) (_rs1 : BitVec 5) (_rs2 : BitVec 5) (s : State) : Result :=
  opValue 4 rd (fun _ => 0) s

/-- MOP.RR.7 (R621). -/
def execMopRr7 (rd : BitVec 5) (_rs1 : BitVec 5) (_rs2 : BitVec 5) (s : State) : Result :=
  opValue 4 rd (fun _ => 0) s

/-- C.MOP.1 (R635). -/
def execCMop1 (s : State) : Result :=
  .next (s.retire 2)

/-- C.MOP.3 (R635). -/
def execCMop3 (s : State) : Result :=
  .next (s.retire 2)

/-- C.MOP.5 (R635). -/
def execCMop5 (s : State) : Result :=
  .next (s.retire 2)

/-- C.MOP.7 (R635). -/
def execCMop7 (s : State) : Result :=
  .next (s.retire 2)

/-- C.MOP.9 (R635). -/
def execCMop9 (s : State) : Result :=
  .next (s.retire 2)

/-- C.MOP.11 (R635). -/
def execCMop11 (s : State) : Result :=
  .next (s.retire 2)

/-- C.MOP.13 (R635). -/
def execCMop13 (s : State) : Result :=
  .next (s.retire 2)

/-- C.MOP.15 (R635). -/
def execCMop15 (s : State) : Result :=
  .next (s.retire 2)

end Sys2Proof.Machine
end

