-- ==== Sys2Proof/Machine/MulDiv.lean ====
section
/-! DEFINITION. The M extension and Zmmul (43_m_a.md section 1). -/

namespace Sys2Proof.Machine

/-- MUL (R351). -/
def execMul (rd : BitVec 5) (rs1 : BitVec 5) (rs2 : BitVec 5) (s : State) : Result :=
  opReg 4 rd rs1 rs2 intMul s

/-- MULH (R352). -/
def execMulh (rd : BitVec 5) (rs1 : BitVec 5) (rs2 : BitVec 5) (s : State) : Result :=
  opReg 4 rd rs1 rs2 intMulh s

/-- MULHSU (R353). -/
def execMulhsu (rd : BitVec 5) (rs1 : BitVec 5) (rs2 : BitVec 5) (s : State) : Result :=
  opReg 4 rd rs1 rs2 intMulhsu s

/-- MULHU (R354). -/
def execMulhu (rd : BitVec 5) (rs1 : BitVec 5) (rs2 : BitVec 5) (s : State) : Result :=
  opReg 4 rd rs1 rs2 intMulhu s

/-- DIV (R356). -/
def execDiv (rd : BitVec 5) (rs1 : BitVec 5) (rs2 : BitVec 5) (s : State) : Result :=
  opReg 4 rd rs1 rs2 intDiv s

/-- DIVU (R357). -/
def execDivu (rd : BitVec 5) (rs1 : BitVec 5) (rs2 : BitVec 5) (s : State) : Result :=
  opReg 4 rd rs1 rs2 intDivu s

/-- REM (R358). -/
def execRem (rd : BitVec 5) (rs1 : BitVec 5) (rs2 : BitVec 5) (s : State) : Result :=
  opReg 4 rd rs1 rs2 intRem s

/-- REMU (R359). -/
def execRemu (rd : BitVec 5) (rs1 : BitVec 5) (rs2 : BitVec 5) (s : State) : Result :=
  opReg 4 rd rs1 rs2 intRemu s

/-- MULW (R355). -/
def execMulw (rd : BitVec 5) (rs1 : BitVec 5) (rs2 : BitVec 5) (s : State) : Result :=
  opRegW 4 rd rs1 rs2 (intMul 32) s

/-- DIVW (R360). -/
def execDivw (rd : BitVec 5) (rs1 : BitVec 5) (rs2 : BitVec 5) (s : State) : Result :=
  opRegW 4 rd rs1 rs2 (intDiv 32) s

/-- DIVUW (R361). -/
def execDivuw (rd : BitVec 5) (rs1 : BitVec 5) (rs2 : BitVec 5) (s : State) : Result :=
  opRegW 4 rd rs1 rs2 (intDivu 32) s

/-- REMW (R362). -/
def execRemw (rd : BitVec 5) (rs1 : BitVec 5) (rs2 : BitVec 5) (s : State) : Result :=
  opRegW 4 rd rs1 rs2 (intRem 32) s

/-- REMUW (R363). -/
def execRemuw (rd : BitVec 5) (rs1 : BitVec 5) (rs2 : BitVec 5) (s : State) : Result :=
  opRegW 4 rd rs1 rs2 (intRemu 32) s

end Sys2Proof.Machine
end

