-- ==== Sys2Proof/Machine/Rv32i.lean ====
section
/-! DEFINITION. The instructions of the base ISA, and Zifencei (40_rv32i.md; 41_zifencei_hints_rv32e.md; the shifts by an
immediate of RV64I and RV128I: 42_rv64i_rv128i.md). -/

namespace Sys2Proof.Machine

/-- FENCE.I: this hart's later fetches see the stores before it, so that no older value stays fetchable
(20_memory.md R84; 41_zifencei_hints_rv32e.md R290). -/
def State.syncFetch (s : State) : State := { s with stale := [] }

/-- ADDI (R225). -/
def execAddi (rd : BitVec 5) (rs1 : BitVec 5) (imm : BitVec 12) (s : State) : Result :=
  opImm 4 rd rs1 imm intAdd s

/-- SLTI (R226). -/
def execSlti (rd : BitVec 5) (rs1 : BitVec 5) (imm : BitVec 12) (s : State) : Result :=
  opImm 4 rd rs1 imm intSlt s

/-- SLTIU (R227). -/
def execSltiu (rd : BitVec 5) (rs1 : BitVec 5) (imm : BitVec 12) (s : State) : Result :=
  opImm 4 rd rs1 imm intSltu s

/-- XORI (R230). -/
def execXori (rd : BitVec 5) (rs1 : BitVec 5) (imm : BitVec 12) (s : State) : Result :=
  opImm 4 rd rs1 imm intXor s

/-- ORI (R229). -/
def execOri (rd : BitVec 5) (rs1 : BitVec 5) (imm : BitVec 12) (s : State) : Result :=
  opImm 4 rd rs1 imm intOr s

/-- ANDI (R228). -/
def execAndi (rd : BitVec 5) (rs1 : BitVec 5) (imm : BitVec 12) (s : State) : Result :=
  opImm 4 rd rs1 imm intAnd s

/-- SLLI (R231). -/
def execSlliRv32 (rd : BitVec 5) (rs1 : BitVec 5) (shamt : BitVec 5) (s : State) : Result :=
  opShift 4 rd rs1 shamt.toNat shiftLeft s

/-- SLLI (R313). -/
def execSlliRv64 (rd : BitVec 5) (rs1 : BitVec 5) (shamt : BitVec 6) (s : State) : Result :=
  opShift 4 rd rs1 shamt.toNat shiftLeft s

/-- SLLI (R342). -/
def execSlliRv128 (rd : BitVec 5) (rs1 : BitVec 5) (shamt : BitVec 7) (s : State) : Result :=
  opShift 4 rd rs1 shamt.toNat shiftLeft s

/-- SRLI (R232). -/
def execSrliRv32 (rd : BitVec 5) (rs1 : BitVec 5) (shamt : BitVec 5) (s : State) : Result :=
  opShift 4 rd rs1 shamt.toNat shiftRight s

/-- SRLI (R313). -/
def execSrliRv64 (rd : BitVec 5) (rs1 : BitVec 5) (shamt : BitVec 6) (s : State) : Result :=
  opShift 4 rd rs1 shamt.toNat shiftRight s

/-- SRLI (R342). -/
def execSrliRv128 (rd : BitVec 5) (rs1 : BitVec 5) (shamt : BitVec 7) (s : State) : Result :=
  opShift 4 rd rs1 shamt.toNat shiftRight s

/-- SRAI (R233). -/
def execSraiRv32 (rd : BitVec 5) (rs1 : BitVec 5) (shamt : BitVec 5) (s : State) : Result :=
  opShift 4 rd rs1 shamt.toNat shiftRightArith s

/-- SRAI (R313). -/
def execSraiRv64 (rd : BitVec 5) (rs1 : BitVec 5) (shamt : BitVec 6) (s : State) : Result :=
  opShift 4 rd rs1 shamt.toNat shiftRightArith s

/-- SRAI (R342). -/
def execSraiRv128 (rd : BitVec 5) (rs1 : BitVec 5) (shamt : BitVec 7) (s : State) : Result :=
  opShift 4 rd rs1 shamt.toNat shiftRightArith s

/-- LUI (R234). -/
def execLui (rd : BitVec 5) (imm : BitVec 20) (s : State) : Result :=
  opValue 4 rd (fun s => immU s.cfg.bits imm) s

/-- AUIPC (R235). -/
def execAuipc (rd : BitVec 5) (imm : BitVec 20) (s : State) : Result :=
  opValue 4 rd (fun s => s.readPc s.cfg.bits + immU s.cfg.bits imm) s

/-- ADD (R240). -/
def execAdd (rd : BitVec 5) (rs1 : BitVec 5) (rs2 : BitVec 5) (s : State) : Result :=
  opReg 4 rd rs1 rs2 intAdd s

/-- SUB (R241). -/
def execSub (rd : BitVec 5) (rs1 : BitVec 5) (rs2 : BitVec 5) (s : State) : Result :=
  opReg 4 rd rs1 rs2 intSub s

/-- SLL (R247). -/
def execSll (rd : BitVec 5) (rs1 : BitVec 5) (rs2 : BitVec 5) (s : State) : Result :=
  opReg 4 rd rs1 rs2 intSll s

/-- SLT (R242). -/
def execSlt (rd : BitVec 5) (rs1 : BitVec 5) (rs2 : BitVec 5) (s : State) : Result :=
  opReg 4 rd rs1 rs2 intSlt s

/-- SLTU (R243). -/
def execSltu (rd : BitVec 5) (rs1 : BitVec 5) (rs2 : BitVec 5) (s : State) : Result :=
  opReg 4 rd rs1 rs2 intSltu s

/-- XOR (R246). -/
def execXor (rd : BitVec 5) (rs1 : BitVec 5) (rs2 : BitVec 5) (s : State) : Result :=
  opReg 4 rd rs1 rs2 intXor s

/-- SRL (R248). -/
def execSrl (rd : BitVec 5) (rs1 : BitVec 5) (rs2 : BitVec 5) (s : State) : Result :=
  opReg 4 rd rs1 rs2 intSrl s

/-- SRA (R249). -/
def execSra (rd : BitVec 5) (rs1 : BitVec 5) (rs2 : BitVec 5) (s : State) : Result :=
  opReg 4 rd rs1 rs2 intSra s

/-- OR (R245). -/
def execOr (rd : BitVec 5) (rs1 : BitVec 5) (rs2 : BitVec 5) (s : State) : Result :=
  opReg 4 rd rs1 rs2 intOr s

/-- AND (R244). -/
def execAnd (rd : BitVec 5) (rs1 : BitVec 5) (rs2 : BitVec 5) (s : State) : Result :=
  opReg 4 rd rs1 rs2 intAnd s

/-- JAL (R253). -/
def execJal (rd : BitVec 5) (off : BitVec 20) (s : State) : Result :=
  jump 4 rd (fun s => s.pcRel off) s

/-- JALR (R254). -/
def execJalr (rd : BitVec 5) (rs1 : BitVec 5) (imm : BitVec 12) (s : State) : Result :=
  jump 4 rd (fun s => s.jalrTarget rs1 imm) s

/-- BEQ (R264). -/
def execBeq (rs1 : BitVec 5) (rs2 : BitVec 5) (off : BitVec 12) (s : State) : Result :=
  branch 4 rs1 rs2 off condEq s

/-- BNE (R265). -/
def execBne (rs1 : BitVec 5) (rs2 : BitVec 5) (off : BitVec 12) (s : State) : Result :=
  branch 4 rs1 rs2 off condNe s

/-- BLT (R266). -/
def execBlt (rs1 : BitVec 5) (rs2 : BitVec 5) (off : BitVec 12) (s : State) : Result :=
  branch 4 rs1 rs2 off condLt s

/-- BGE (R267). -/
def execBge (rs1 : BitVec 5) (rs2 : BitVec 5) (off : BitVec 12) (s : State) : Result :=
  branch 4 rs1 rs2 off condGe s

/-- BLTU (R268). -/
def execBltu (rs1 : BitVec 5) (rs2 : BitVec 5) (off : BitVec 12) (s : State) : Result :=
  branch 4 rs1 rs2 off condLtu s

/-- BGEU (R269). -/
def execBgeu (rs1 : BitVec 5) (rs2 : BitVec 5) (off : BitVec 12) (s : State) : Result :=
  branch 4 rs1 rs2 off condGeu s

/-- LB (R279). -/
def execLb (rd : BitVec 5) (rs1 : BitVec 5) (imm : BitVec 12) (s : State) : Result :=
  loadX 4 1 true rd (fun s => s.ea rs1 imm) s

/-- LH (R280). -/
def execLh (rd : BitVec 5) (rs1 : BitVec 5) (imm : BitVec 12) (s : State) : Result :=
  loadX 4 2 true rd (fun s => s.ea rs1 imm) s

/-- LW (R281). -/
def execLw (rd : BitVec 5) (rs1 : BitVec 5) (imm : BitVec 12) (s : State) : Result :=
  loadX 4 4 true rd (fun s => s.ea rs1 imm) s

/-- LBU (R282). -/
def execLbu (rd : BitVec 5) (rs1 : BitVec 5) (imm : BitVec 12) (s : State) : Result :=
  loadX 4 1 false rd (fun s => s.ea rs1 imm) s

/-- LHU (R283). -/
def execLhu (rd : BitVec 5) (rs1 : BitVec 5) (imm : BitVec 12) (s : State) : Result :=
  loadX 4 2 false rd (fun s => s.ea rs1 imm) s

/-- SB (R284). -/
def execSb (rs1 : BitVec 5) (rs2 : BitVec 5) (imm : BitVec 12) (s : State) : Result :=
  storeX 4 1 rs2 (fun s => s.ea rs1 imm) s

/-- SH (R285). -/
def execSh (rs1 : BitVec 5) (rs2 : BitVec 5) (imm : BitVec 12) (s : State) : Result :=
  storeX 4 2 rs2 (fun s => s.ea rs1 imm) s

/-- SW (R286). -/
def execSw (rs1 : BitVec 5) (rs2 : BitVec 5) (imm : BitVec 12) (s : State) : Result :=
  storeX 4 4 rs2 (fun s => s.ea rs1 imm) s

/-- FENCE (R274). -/
def execFence (_fm : BitVec 4) (_pred : BitVec 4) (_succ : BitVec 4) (_rs1 : BitVec 5) (_rd : BitVec 5) (s : State) : Result :=
  .next (s.retire 4)

/-- FENCE.TSO (R275). -/
def execFenceTso (_rs1 : BitVec 5) (_rd : BitVec 5) (s : State) : Result :=
  .next (s.retire 4)

/-- ECALL (R276). -/
def execEcall (s : State) : Result :=
  .next (s.raise .environmentCall 4)

/-- EBREAK (R277). -/
def execEbreak (s : State) : Result :=
  .next (s.raise (.breakpoint s.pc) 4)

/-- FENCE.I (R290). -/
def execFenceI (_imm : BitVec 12) (_rs1 : BitVec 5) (_rd : BitVec 5) (s : State) : Result :=
  .next (s.syncFetch.retire 4)

end Sys2Proof.Machine
end

