-- ==== Sys2Proof/Machine/Rv64i.lean ====
section
/-! DEFINITION. The instructions that RV64I adds (42_rv64i_rv128i.md). -/

namespace Sys2Proof.Machine

/-- ADDIW (R312). -/
def execAddiw (rd : BitVec 5) (rs1 : BitVec 5) (imm : BitVec 12) (s : State) : Result :=
  opImmW 4 rd rs1 imm (intAdd 32) s

/-- SLLIW (R314). -/
def execSlliw (rd : BitVec 5) (rs1 : BitVec 5) (shamt : BitVec 5) (s : State) : Result :=
  opShiftW 4 rd rs1 shamt.toNat (shiftLeft 32) s

/-- SRLIW (R315). -/
def execSrliw (rd : BitVec 5) (rs1 : BitVec 5) (shamt : BitVec 5) (s : State) : Result :=
  opShiftW 4 rd rs1 shamt.toNat (shiftRight 32) s

/-- SRAIW (R316). -/
def execSraiw (rd : BitVec 5) (rs1 : BitVec 5) (shamt : BitVec 5) (s : State) : Result :=
  opShiftW 4 rd rs1 shamt.toNat (shiftRightArith 32) s

/-- ADDW (R319). -/
def execAddw (rd : BitVec 5) (rs1 : BitVec 5) (rs2 : BitVec 5) (s : State) : Result :=
  opRegW 4 rd rs1 rs2 (intAdd 32) s

/-- SUBW (R320). -/
def execSubw (rd : BitVec 5) (rs1 : BitVec 5) (rs2 : BitVec 5) (s : State) : Result :=
  opRegW 4 rd rs1 rs2 (intSub 32) s

/-- SLLW (R322). -/
def execSllw (rd : BitVec 5) (rs1 : BitVec 5) (rs2 : BitVec 5) (s : State) : Result :=
  opRegW 4 rd rs1 rs2 (intSll 32) s

/-- SRLW (R323). -/
def execSrlw (rd : BitVec 5) (rs1 : BitVec 5) (rs2 : BitVec 5) (s : State) : Result :=
  opRegW 4 rd rs1 rs2 (intSrl 32) s

/-- SRAW (R324). -/
def execSraw (rd : BitVec 5) (rs1 : BitVec 5) (rs2 : BitVec 5) (s : State) : Result :=
  opRegW 4 rd rs1 rs2 (intSra 32) s

/-- LD (R325). -/
def execLd (rd : BitVec 5) (rs1 : BitVec 5) (imm : BitVec 12) (s : State) : Result :=
  loadX 4 8 true rd (fun s => s.ea rs1 imm) s

/-- LWU (R326). -/
def execLwu (rd : BitVec 5) (rs1 : BitVec 5) (imm : BitVec 12) (s : State) : Result :=
  loadX 4 4 false rd (fun s => s.ea rs1 imm) s

/-- SD (R327). -/
def execSd (rs1 : BitVec 5) (rs2 : BitVec 5) (imm : BitVec 12) (s : State) : Result :=
  storeX 4 8 rs2 (fun s => s.ea rs1 imm) s

end Sys2Proof.Machine
end

