-- ==== Sys2Proof/Machine/Zc.lean ====
section
/-! DEFINITION. Zcb, Zcmp and Zcmt (49_zc.md). -/

namespace Sys2Proof

/-- The register numbers of a Zcmp register list, descending (R720, R722). -/
def regList (rlist : BitVec 4) : List Reg :=
  let saved : Nat := if rlist = 15 then 12 else rlist.toNat - 4
  ([27, 26, 25, 24, 23, 22, 21, 20, 19, 18, 9, 8] : List Reg).drop (12 - saved) ++ [1]

/-- stack_adj (R721). -/
def Config.stackAdj (c : Config) (rlist : BitVec 4) (spimm : BitVec 2) : Nat :=
  ((regList rlist).length * c.bytes + 15) / 16 * 16 + 16 * spimm.toNat

/-- The region of every byte of a slot performs PUSH and POP accesses (R724). -/
def Config.slotOk (c : Config) (a : Nat) : Bool := c.allIn (span c.bits a c.bytes) fun r => r.pushPop

end Sys2Proof

namespace Sys2Proof.Machine

/-- The address of slot k below `top` (R722). -/
def slotAddr (bits bytes : Nat) (top : BitVec bits) (k : Nat) : Nat := (top - BitVec.ofNat bits ((k + 1) * bytes)).toNat

/-- The exception of a slot's access: as that of an ordinary access of XLEN/8 bytes, misaligned before inaccessible (R78;
60_exceptions.md R760), in a region that performs the accesses of PUSH and POP (R724). -/
def State.slotCheck (s : State) (a : Nat) (kind : AccessKind) : Option Exc :=
  s.checkAs true a s.cfg.bytes kind (s.cfg.accessible a s.cfg.bytes kind && s.cfg.slotOk a)

/-- Store registers to the slots below `top` from slot k on, stopping at the first that raises (R725): the state so
far, and the exception. -/
def pushSlots {bits : Nat} (top : BitVec bits) (k : Nat) (rs : List Reg) (s : State) : State × Option Exc :=
  match rs with
  | [] => (s, none)
  | r :: rest =>
    match s.slotCheck (slotAddr bits s.cfg.bytes top k) .store with
    | some e => (s, some e)
    | none =>
      pushSlots top (k + 1) rest
        (s.writeMem (slotAddr bits s.cfg.bytes top k) s.cfg.bytes (s.readX s.cfg.bits r).toNat)

/-- Load registers from the slots below `top` from slot k on, stopping at the first that raises (R725). -/
def popSlots {bits : Nat} (top : BitVec bits) (k : Nat) (rs : List Reg) (s : State) : State × Option Exc :=
  match rs with
  | [] => (s, none)
  | r :: rest =>
    match s.slotCheck (slotAddr bits s.cfg.bytes top k) .load with
    | some e => (s, some e)
    | none =>
      popSlots top (k + 1) rest ((s.readMem (slotAddr bits s.cfg.bytes top k) s.cfg.bytes).2.setX r
        (BitVec.ofNat s.cfg.bits (s.readMem (slotAddr bits s.cfg.bytes top k) s.cfg.bytes).1))

/-- x[2], the stack pointer. -/
def State.sp (s : State) : BitVec s.cfg.bits := s.readX s.cfg.bits 2

/-- The top of the frame that POP destroys (R722). -/
def State.popTop (s : State) (rlist : BitVec 4) (spimm : BitVec 2) : BitVec s.cfg.bits :=
  s.sp + BitVec.ofNat s.cfg.bits (s.cfg.stackAdj rlist spimm)

/-- CM.PUSH (R726). -/
def push (rlist : BitVec 4) (spimm : BitVec 2) (s : State) : Result :=
  match pushSlots s.sp 0 (regList rlist) s with
  | (s1, some e) => .next (s1.raise e 2)
  | (s1, none) => .next ((s1.setX 2 (s.sp - BitVec.ofNat s.cfg.bits (s.cfg.stackAdj rlist spimm))).retire 2)

/-- CM.POP (R727). -/
def pop (rlist : BitVec 4) (spimm : BitVec 2) (s : State) : Result :=
  match popSlots (s.popTop rlist spimm) 0 (regList rlist) s with
  | (s1, some e) => .next (s1.raise e 2)
  | (s1, none) => .next ((s1.setX 2 (s.popTop rlist spimm)).retire 2)

/-- CM.POPRET and CM.POPRETZ (R728, R729): the return goes to the x1 just loaded. -/
def popRet (rlist : BitVec 4) (spimm : BitVec 2) (zero : Bool) (s : State) : Result :=
  match popSlots (s.popTop rlist spimm) 0 (regList rlist) s with
  | (s1, some e) => .next (s1.raise e 2)
  | (s1, none) =>
    let s2 := if zero then s1.setX 10 (0 : BitVec s.cfg.bits) else s1
    .next ((s2.setX 2 (s.popTop rlist spimm)).retireTo (s1.readX s.cfg.bits 1 &&& ~~~1))

/-- The register s0 to s7 a 3-bit specifier names (R703). -/
def sreg (r : Reg3) : Reg := (if r.extractLsb' 1 2 = 0 then 0b01#2 else 0b10#2) ++ r

/-- x[d1] <- x[s1] and x[d2] <- x[s2] in one step (R730, R731). -/
def moveTwo (d1 d2 s1 s2 : Reg) (s : State) : Result :=
  .next (((s.setX d1 (s.readX s.cfg.bits s1)).setX d2 (s.readX s.cfg.bits s2)).retire 2)

/-- The address of entry `index` of the jump table (R737, R740). -/
def State.tableAddr (s : State) (index : BitVec 8) : Nat :=
  ((s.readJvt >>> 6 <<< 6) + BitVec.ofNat s.cfg.bits (index.toNat * s.cfg.bytes)).toNat

/-- The target of a table jump: the entry as the hart's fetches see it, in the byte order of data, with bit 0 cleared
(R737, R740, R741). -/
def State.tableTarget (s : State) (index : BitVec 8) : BitVec s.cfg.bits :=
  BitVec.ofNat s.cfg.bits (bytesToNat s.cfg.endian (s.fetchBytes (s.tableAddr index) s.cfg.bytes)) &&& ~~~1

/-- CM.JT and CM.JALT (R738-R743): the table is read as instructions are (no region's list of widths limits the read:
DESIGN CHOICE, assumption log 29). -/
def tableJump (i : Instr) (index : BitVec 8) (link : Bool) (s : State) : Result :=
  if s.cfg.jvtEnabled && s.readJvt.setWidth 6 == 0 then
    if s.cfg.fetchable (s.tableAddr index) s.cfg.bytes then
      .next ((if link then s.setX 1 (s.nextPc 2) else s).retireTo (s.tableTarget index))
    else .next (s.raise (accessFaultExc .fetch (s.tableAddr index)) 2)
  else .next (s.raiseIllegal i)

/-- C.LBU (R705). -/
def execCLbu (rdp : BitVec 3) (rs1p : BitVec 3) (uimm : BitVec 2) (s : State) : Result :=
  loadX 2 1 false (wideReg rdp) (fun s => s.eaScaled (wideReg rs1p) uimm 0) s

/-- C.LHU (R706). -/
def execCLhu (rdp : BitVec 3) (rs1p : BitVec 3) (uimm : BitVec 1) (s : State) : Result :=
  loadX 2 2 false (wideReg rdp) (fun s => s.eaScaled (wideReg rs1p) uimm 1) s

/-- C.LH (R707). -/
def execCLh (rdp : BitVec 3) (rs1p : BitVec 3) (uimm : BitVec 1) (s : State) : Result :=
  loadX 2 2 true (wideReg rdp) (fun s => s.eaScaled (wideReg rs1p) uimm 1) s

/-- C.SB (R708). -/
def execCSb (rs1p : BitVec 3) (rs2p : BitVec 3) (uimm : BitVec 2) (s : State) : Result :=
  storeX 2 1 (wideReg rs2p) (fun s => s.eaScaled (wideReg rs1p) uimm 0) s

/-- C.SH (R709). -/
def execCSh (rs1p : BitVec 3) (rs2p : BitVec 3) (uimm : BitVec 1) (s : State) : Result :=
  storeX 2 2 (wideReg rs2p) (fun s => s.eaScaled (wideReg rs1p) uimm 1) s

/-- C.ZEXT.B (R710). -/
def execCZextB (rdp : BitVec 3) (s : State) : Result :=
  opValue 2 (wideReg rdp) (fun s => (s.readX 8 (wideReg rdp)).setWidth s.cfg.bits) s

/-- C.SEXT.B (R711). -/
def execCSextB (rdp : BitVec 3) (s : State) : Result :=
  opValue 2 (wideReg rdp) (fun s => (s.readX 8 (wideReg rdp)).signExtend s.cfg.bits) s

/-- C.ZEXT.H (R712). -/
def execCZextH (rdp : BitVec 3) (s : State) : Result :=
  opValue 2 (wideReg rdp) (fun s => (s.readX 16 (wideReg rdp)).setWidth s.cfg.bits) s

/-- C.SEXT.H (R713). -/
def execCSextH (rdp : BitVec 3) (s : State) : Result :=
  opValue 2 (wideReg rdp) (fun s => (s.readX 16 (wideReg rdp)).signExtend s.cfg.bits) s

/-- C.ZEXT.W (R714). -/
def execCZextW (rdp : BitVec 3) (s : State) : Result :=
  opValue 2 (wideReg rdp) (fun s => (s.readX 32 (wideReg rdp)).setWidth s.cfg.bits) s

/-- C.NOT (R715). -/
def execCNot (rdp : BitVec 3) (s : State) : Result :=
  opValue 2 (wideReg rdp) (fun s => ~~~(s.readX s.cfg.bits (wideReg rdp))) s

/-- C.MUL (R716). -/
def execCMul (rdp : BitVec 3) (rs2p : BitVec 3) (s : State) : Result :=
  opReg 2 (wideReg rdp) (wideReg rdp) (wideReg rs2p) intMul s

/-- CM.PUSH (R726). -/
def execCmPush (rlist : BitVec 4) (spimm : BitVec 2) (s : State) : Result :=
  push rlist spimm s

/-- CM.POP (R727). -/
def execCmPop (rlist : BitVec 4) (spimm : BitVec 2) (s : State) : Result :=
  pop rlist spimm s

/-- CM.POPRETZ (R728). -/
def execCmPopretz (rlist : BitVec 4) (spimm : BitVec 2) (s : State) : Result :=
  popRet rlist spimm true s

/-- CM.POPRET (R729). -/
def execCmPopret (rlist : BitVec 4) (spimm : BitVec 2) (s : State) : Result :=
  popRet rlist spimm false s

/-- CM.MVSA01 (R730). -/
def execCmMvsa01 (r1s : BitVec 3) (r2s : BitVec 3) (s : State) : Result :=
  moveTwo (sreg r1s) (sreg r2s) 10 11 s

/-- CM.MVA01S (R731). -/
def execCmMva01s (r1s : BitVec 3) (r2s : BitVec 3) (s : State) : Result :=
  moveTwo 10 11 (sreg r1s) (sreg r2s) s

/-- CM.JT (R742). -/
def execCmJt (index : BitVec 5) (s : State) : Result :=
  tableJump (.cmJt index) (index.setWidth 8) false s

/-- CM.JALT (R743). -/
def execCmJalt (index : BitVec 8) (s : State) : Result :=
  tableJump (.cmJalt index) index true s

end Sys2Proof.Machine
end

