-- ==== Sys2Proof/Machine/Zfa.lean ====
section
/-! DEFINITION. Zfa (48_zfinx_zfa_cmo_zawrs.md). -/

namespace Sys2Proof.Machine

/-- FCVTMOD.W.D: the integer modulo 2^32, sign-extended (R659). -/
def fpToIntMod (rd rs1 : Reg) (s : State) : Result :=
  .next ((s.putX rd ((s.fpVal .d rs1).toInt32Mod.1.signExtend s.cfg.bits) (s.fpVal .d rs1).toInt32Mod.2).retire 4)

/-- FMVH: bits 2w-1..w of f[rs1], as they stand (R660, R662). -/
def fpMoveHighToX (w : Nat) (rd rs1 : Reg) (s : State) : Result :=
  .next ((s.setX rd (((s.readF rs1).extractLsb' w w).signExtend s.cfg.bits)).retire 4)

/-- FMVP: x[rs2] above x[rs1], in f[rd] (R661, R663). -/
def fpMovePairFromX (w : Nat) (rd rs1 rs2 : Reg) (s : State) : Result :=
  .next ((s.setF rd (box s.cfg.flen (s.readX w rs2 ++ s.readX w rs1))).retire 4)

/-- FLI.S (R651). -/
def execFliS (rd : BitVec 5) (idx : BitVec 5) (s : State) : Result :=
  fpConst .s rd idx s

/-- FMINM.S (R655). -/
def execFminmS (rd : BitVec 5) (rs1 : BitVec 5) (rs2 : BitVec 5) (s : State) : Result :=
  fpBits2 .s rd rs1 rs2 (Fmt.minimum .s false) s

/-- FMAXM.S (R656). -/
def execFmaxmS (rd : BitVec 5) (rs1 : BitVec 5) (rs2 : BitVec 5) (s : State) : Result :=
  fpBits2 .s rd rs1 rs2 (Fmt.minimum .s true) s

/-- FROUND.S (R657). -/
def execFroundS (rd : BitVec 5) (rs1 : BitVec 5) (rm : BitVec 3) (s : State) : Result :=
  fpRound (.froundS rd rs1 rm) .s false rd rs1 rm s

/-- FROUNDNX.S (R658). -/
def execFroundnxS (rd : BitVec 5) (rs1 : BitVec 5) (rm : BitVec 3) (s : State) : Result :=
  fpRound (.froundnxS rd rs1 rm) .s true rd rs1 rm s

/-- FLEQ.S (R664). -/
def execFleqS (rd : BitVec 5) (rs1 : BitVec 5) (rs2 : BitVec 5) (s : State) : Result :=
  fpCompare .s rd rs1 rs2 Fp.le quietFlags s

/-- FLTQ.S (R665). -/
def execFltqS (rd : BitVec 5) (rs1 : BitVec 5) (rs2 : BitVec 5) (s : State) : Result :=
  fpCompare .s rd rs1 rs2 Fp.lt quietFlags s

/-- FLI.D (R652). -/
def execFliD (rd : BitVec 5) (idx : BitVec 5) (s : State) : Result :=
  fpConst .d rd idx s

/-- FMINM.D (R850). -/
def execFminmD (rd : BitVec 5) (rs1 : BitVec 5) (rs2 : BitVec 5) (s : State) : Result :=
  fpBits2 .d rd rs1 rs2 (Fmt.minimum .d false) s

/-- FMAXM.D (R851). -/
def execFmaxmD (rd : BitVec 5) (rs1 : BitVec 5) (rs2 : BitVec 5) (s : State) : Result :=
  fpBits2 .d rd rs1 rs2 (Fmt.minimum .d true) s

/-- FROUND.D (R852). -/
def execFroundD (rd : BitVec 5) (rs1 : BitVec 5) (rm : BitVec 3) (s : State) : Result :=
  fpRound (.froundD rd rs1 rm) .d false rd rs1 rm s

/-- FROUNDNX.D (R853). -/
def execFroundnxD (rd : BitVec 5) (rs1 : BitVec 5) (rm : BitVec 3) (s : State) : Result :=
  fpRound (.froundnxD rd rs1 rm) .d true rd rs1 rm s

/-- FLEQ.D (R854). -/
def execFleqD (rd : BitVec 5) (rs1 : BitVec 5) (rs2 : BitVec 5) (s : State) : Result :=
  fpCompare .d rd rs1 rs2 Fp.le quietFlags s

/-- FLTQ.D (R855). -/
def execFltqD (rd : BitVec 5) (rs1 : BitVec 5) (rs2 : BitVec 5) (s : State) : Result :=
  fpCompare .d rd rs1 rs2 Fp.lt quietFlags s

/-- FLI.H (R653). -/
def execFliH (rd : BitVec 5) (idx : BitVec 5) (s : State) : Result :=
  fpConst .h rd idx s

/-- FMINM.H (R856). -/
def execFminmH (rd : BitVec 5) (rs1 : BitVec 5) (rs2 : BitVec 5) (s : State) : Result :=
  fpBits2 .h rd rs1 rs2 (Fmt.minimum .h false) s

/-- FMAXM.H (R857). -/
def execFmaxmH (rd : BitVec 5) (rs1 : BitVec 5) (rs2 : BitVec 5) (s : State) : Result :=
  fpBits2 .h rd rs1 rs2 (Fmt.minimum .h true) s

/-- FROUND.H (R858). -/
def execFroundH (rd : BitVec 5) (rs1 : BitVec 5) (rm : BitVec 3) (s : State) : Result :=
  fpRound (.froundH rd rs1 rm) .h false rd rs1 rm s

/-- FROUNDNX.H (R859). -/
def execFroundnxH (rd : BitVec 5) (rs1 : BitVec 5) (rm : BitVec 3) (s : State) : Result :=
  fpRound (.froundnxH rd rs1 rm) .h true rd rs1 rm s

/-- FLEQ.H (R860). -/
def execFleqH (rd : BitVec 5) (rs1 : BitVec 5) (rs2 : BitVec 5) (s : State) : Result :=
  fpCompare .h rd rs1 rs2 Fp.le quietFlags s

/-- FLTQ.H (R861). -/
def execFltqH (rd : BitVec 5) (rs1 : BitVec 5) (rs2 : BitVec 5) (s : State) : Result :=
  fpCompare .h rd rs1 rs2 Fp.lt quietFlags s

/-- FLI.Q (R654). -/
def execFliQ (rd : BitVec 5) (idx : BitVec 5) (s : State) : Result :=
  fpConst .q rd idx s

/-- FMINM.Q (R862). -/
def execFminmQ (rd : BitVec 5) (rs1 : BitVec 5) (rs2 : BitVec 5) (s : State) : Result :=
  fpBits2 .q rd rs1 rs2 (Fmt.minimum .q false) s

/-- FMAXM.Q (R863). -/
def execFmaxmQ (rd : BitVec 5) (rs1 : BitVec 5) (rs2 : BitVec 5) (s : State) : Result :=
  fpBits2 .q rd rs1 rs2 (Fmt.minimum .q true) s

/-- FROUND.Q (R864). -/
def execFroundQ (rd : BitVec 5) (rs1 : BitVec 5) (rm : BitVec 3) (s : State) : Result :=
  fpRound (.froundQ rd rs1 rm) .q false rd rs1 rm s

/-- FROUNDNX.Q (R865). -/
def execFroundnxQ (rd : BitVec 5) (rs1 : BitVec 5) (rm : BitVec 3) (s : State) : Result :=
  fpRound (.froundnxQ rd rs1 rm) .q true rd rs1 rm s

/-- FLEQ.Q (R866). -/
def execFleqQ (rd : BitVec 5) (rs1 : BitVec 5) (rs2 : BitVec 5) (s : State) : Result :=
  fpCompare .q rd rs1 rs2 Fp.le quietFlags s

/-- FLTQ.Q (R867). -/
def execFltqQ (rd : BitVec 5) (rs1 : BitVec 5) (rs2 : BitVec 5) (s : State) : Result :=
  fpCompare .q rd rs1 rs2 Fp.lt quietFlags s

/-- FCVTMOD.W.D (R659). -/
def execFcvtmodWD (rd : BitVec 5) (rs1 : BitVec 5) (s : State) : Result :=
  fpToIntMod rd rs1 s

/-- FMVH.X.D (R660). -/
def execFmvhXD (rd : BitVec 5) (rs1 : BitVec 5) (s : State) : Result :=
  fpMoveHighToX 32 rd rs1 s

/-- FMVP.D.X (R661). -/
def execFmvpDX (rd : BitVec 5) (rs1 : BitVec 5) (rs2 : BitVec 5) (s : State) : Result :=
  fpMovePairFromX 32 rd rs1 rs2 s

/-- FMVH.X.Q (R662). -/
def execFmvhXQ (rd : BitVec 5) (rs1 : BitVec 5) (s : State) : Result :=
  fpMoveHighToX 64 rd rs1 s

/-- FMVP.Q.X (R663). -/
def execFmvpQX (rd : BitVec 5) (rs1 : BitVec 5) (rs2 : BitVec 5) (s : State) : Result :=
  fpMovePairFromX 64 rd rs1 rs2 s

end Sys2Proof.Machine
end

