-- ==== Sys2Proof/Machine/Run.lean ====
section
/-! DEFINITION. One step of a hart from its parts: fetch, decode, execute (40_rv32i.md R221), and the placing of an instruction
where the next step fetches. -/

namespace Sys2Proof.Machine

/-- Execute the instruction that bits of `len` bytes stand for; bits that are no instruction of the configuration raise
illegal instruction (60_exceptions.md R755). -/
noncomputable def execBits (w : InstBits) (len : Nat) (s : State) : Result :=
  match decode s.cfg w with
  | .ok i => exec i s
  | .error _ => .next (s.raise (.illegalInstruction w) len)

/-- Fetch at pc, decode and execute (20_memory.md R73; 60_exceptions.md R758). -/
noncomputable def fetchAndExecute (s : State) : Result :=
  match s.fetch with
  | .bits16 w => execBits w 2 s
  | .bits32 w => execBits w 4 s
  | .fault => .next (s.raise (.instructionAccessFault s.pc) 4)

/-- A hart that is not terminated (60_exceptions.md R773): a stalled one waits; else a pending and enabled interrupt is
taken between instructions; else it runs the instruction at pc. -/
noncomputable def runHart (s : State) : Result :=
  if s.stalled then stallStep s
  else if s.interruptPending && s.interruptEnabled then .next s.takeInterrupt
  else fetchAndExecute s

/-- A byte of a program placed in memory from outside: nothing older can be fetched there. -/
def State.placeByte (s : State) (a : Nat) (b : Byte) : State :=
  { s with mem := memSet s.mem a b, stale := s.stale.map fun store => store.filter fun p => p.1 != a }

/-- Four bytes of the instruction stream placed at pc, little-endian (20_memory.md R73). -/
def State.placeBits (s : State) (w : InstBits) : State :=
  (((s.placeByte (s.pc.toNat % 2 ^ s.cfg.bits) (w.extractLsb' 0 8)).placeByte
    ((s.pc.toNat + 1) % 2 ^ s.cfg.bits) (w.extractLsb' 8 8)).placeByte
    ((s.pc.toNat + 2) % 2 ^ s.cfg.bits) (w.extractLsb' 16 8)).placeByte
    ((s.pc.toNat + 3) % 2 ^ s.cfg.bits) (w.extractLsb' 24 8)

/-- The state with the first configuration of `tableConfigs` that has the instruction, and the instruction at pc. -/
noncomputable def State.placeInstruction (s : State) (w : InstBits) : State :=
  match firstDecode w tableConfigs with
  | some (c, _) => ({ s with cfg := c } : State).placeBits w
  | none => s.placeBits w

end Sys2Proof.Machine
end

