-- ==== Sys2Proof/Machine/Step.lean ====
section
/-! DEFINITION. The step of the machine. -/

namespace Sys2Proof.Machine

/-- One step: a hart that a fatal trap has terminated takes none (60_exceptions.md R751, R777). -/
noncomputable def step (s : State) : Host.Outcome State Fault Refusal :=
  match s.halted with
  | some r => .fault (.hartTerminated r)
  | none => runHart s

/-- The state whose next step fetches and runs the instruction of the given bits. -/
noncomputable def State.withFetchWord (s : State) (nbits w : Nat) : State := s.placeInstruction (tableBits nbits w)

end Sys2Proof.Machine
end

