-- ==== Sys2Proof/Safety.lean ====
section
/-! DEFINITION. What a good state and a safe run are, and the terms the statements use: what an instruction keeps, what it
writes, the value of bytes in memory. -/

namespace Sys2Proof

/-- The registers that a result of `w` bits in a register number is written to with Zfinx: one or an even pair of x
registers, none where it is x0 (10_state.md R64). -/
def Config.finxRegs (c : Config) (w : Nat) (r : Reg) : List Reg :=
  if r = 0 then [] else if w ≤ c.bits then [r] else [r, r + 1]

end Sys2Proof

namespace Sys2Proof.Machine

/-! ## Good states -/

/-- Every x register and jvt hold a value of XLEN bits, every f register one of FLEN bits (10_state.md R30, R40, R56). -/
def State.widthsOk (s : State) : Prop :=
  (∀ r : Fin 32, s.x[r].toNat < 2 ^ s.cfg.bits) ∧ (∀ r : Fin 32, s.f[r].toNat < 2 ^ s.cfg.flen) ∧
    s.jvt.toNat < 2 ^ s.cfg.bits

/-- pc is an address of XLEN bits, and a multiple of IALIGN/8 (10_state.md R35, R37). -/
def State.pcOk (s : State) : Prop := s.pc.toNat < 2 ^ s.cfg.bits ∧ s.pc.toNat % s.cfg.ialignBytes = 0

/-- Memory is in its canonical form. -/
def State.memOk (s : State) : Prop := memWf s.mem = true

/-- jvt.MODE holds the one implemented mode, and jvt reads as a value that BASE can hold (10_state.md R56). -/
def State.jvtOk (s : State) : Prop := s.jvt.toNat % 64 = 0 ∧ s.cfg.jvtHolds s.readJvt = true

/-- The invariant of the machine. -/
structure State.Inv (s : State) : Prop where
  legal : s.cfg.legal = true
  mem : s.memOk
  pc : s.pcOk
  jvt : s.jvtOk
  widths : s.widthsOk

/-- The next step runs the instruction at pc: the hart is not terminated and not stalled, and no interrupt is taken. -/
structure State.Ready (s : State) : Prop where
  live : s.halted = none
  awake : s.stalled = false
  quiet : (s.interruptPending && s.interruptEnabled) = false

/-- Every exception ends the hart (60_exceptions.md R751, the default of 92_eei_decisions.md D7). -/
def State.allFatal (s : State) : Prop := ∀ e, s.cfg.trapAction e = .fatal

/-! ## What an instruction keeps -/

/-- The value of pc after an instruction of `len` bytes that does not transfer control (10_state.md R36). -/
def State.after (s : State) (len : Nat) : Cell := (s.nextPc len).setWidth 128

/-- From `s` to `t`, the x registers outside `xs`, the f registers outside `fs` and the bytes of memory outside `mem`
are unchanged, and so is everything that no instruction but a CSR instruction or an exception touches. pc, the
counters, fflags, the reservation and the trace of device accesses are not spoken of here. -/
structure State.Keeps (s t : State) (xs fs : List Reg) (mem : List Nat) : Prop where
  x : ∀ r, r ∉ xs → ∀ n, t.readX n r = s.readX n r
  f : ∀ r, r ∉ fs → t.readF r = s.readF r
  mem : ∀ a, a ∉ mem → t.byte a = s.byte a
  cfg : t.cfg = s.cfg
  frm : t.frm = s.frm
  jvt : t.jvt = s.jvt
  stalled : t.stalled = s.stalled
  halted : t.halted = s.halted
  pending : t.interruptPending = s.interruptPending
  enabled : t.interruptEnabled = s.interruptEnabled
  cause : t.interruptCause = s.interruptCause

/-- Beside `Keeps`: fflags, the reservation, the device accesses and what a fetch may return are unchanged. -/
structure State.KeepsRest (s t : State) (xs fs : List Reg) (mem : List Nat) : Prop extends State.Keeps s t xs fs mem where
  fflags : t.fflags = s.fflags
  reservation : t.reservation = s.reservation
  ioTrace : t.ioTrace = s.ioTrace
  stale : t.stale = s.stale

/-- The x registers outside `xs`, the f registers and memory are unchanged. -/
structure State.KeepsData (s t : State) (xs : List Reg) : Prop where
  x : ∀ r, r ∉ xs → ∀ n, t.readX n r = s.readX n r
  f : ∀ r, t.readF r = s.readF r
  mem : ∀ a, t.byte a = s.byte a

/-- The instruction retired and the next one is at `target`. -/
structure State.RetiredTo (s t : State) (target : Cell) : Prop where
  pc : t.pc = target
  instret : t.instret = s.instret + 1

/-- From `s` to `t` only time has passed: the counters it drives and the draws apart, `t` is `s`. -/
def State.OnlyTimePasses (s t : State) : Prop :=
  t = { s with cycle := t.cycle, time := t.time, hpm := t.hpm, draws := t.draws }

/-- The instruction completes, retires after its `len` bytes, and writes nothing. -/
def NoEffect (i : Instr) (s : State) (len : Nat) : Prop :=
  ∃ t, exec i s = .next t ∧ s.RetiredTo t (s.after len) ∧ s.KeepsRest t [] [] []

/-- The instruction completes, retires after its `len` bytes, and writes x[rd] <- v and nothing else; x0 stays 0. -/
def WritesX (i : Instr) (s : State) (len : Nat) (rd : Reg) (v : BitVec s.cfg.bits) : Prop :=
  ∃ t, exec i s = .next t ∧ t.readX s.cfg.bits rd = (if rd = 0 then 0 else v) ∧
    s.RetiredTo t (s.after len) ∧ s.KeepsRest t [rd] [] []

/-- The instruction completes, goes to `target`, writes the address after it to x[rd], and nothing else. -/
def JumpsTo (i : Instr) (s : State) (len : Nat) (rd : Reg) (target : BitVec s.cfg.bits) : Prop :=
  ∃ t, exec i s = .next t ∧ t.readX s.cfg.bits rd = (if rd = 0 then 0 else s.nextPc len) ∧
    s.RetiredTo t (target.setWidth 128) ∧ s.KeepsRest t [rd] [] []

/-- The instruction completes and goes to `target` where `taken`, else to the next instruction; nothing is written. -/
def BranchesTo (i : Instr) (s : State) (len : Nat) (taken : Prop) (target : BitVec s.cfg.bits) : Prop :=
  ∃ t, exec i s = .next t ∧ (taken → s.RetiredTo t (target.setWidth 128)) ∧
    (¬taken → s.RetiredTo t (s.after len)) ∧ s.KeepsRest t [] [] []

/-- The instruction takes the exception: the environment's trap policy decides what follows (60_exceptions.md R752). -/
def Raises (i : Instr) (s : State) (e : Exc) (len : Nat) : Prop := exec i s = .next (s.raise e len)

/-! ## Memory as the statements see it -/

/-- A fetch sees the `n` bytes at an address as they stand in memory: no store since the last FENCE.I has changed one of
them (20_memory.md R84; 70_reset_and_hazards.md R801). -/
def State.FetchesCurrent (s : State) (a n : Nat) : Prop :=
  ∀ store ∈ s.stale, ∀ p ∈ store, p.1 ∉ span s.cfg.bits a n

/-- From `s` to `t`, what a fetch may return beside memory has grown by values of the listed bytes alone (R84). -/
def State.StaleWithin (s t : State) (bytes : List Nat) : Prop :=
  ∃ new, t.stale = new ++ s.stale ∧ ∀ store ∈ new, ∀ p ∈ store, p.1 ∈ bytes

/-- The value of the `n` bytes at an address, in the byte order of data (20_memory.md R71, R72). -/
def State.valueAt (s : State) (ea n : Nat) : Nat :=
  ((List.range n).map fun k =>
    (s.byte ((ea + k) % 2 ^ s.cfg.bits)).toNat * 256 ^ (if s.cfg.endian = .little then k else n - 1 - k)).sum

/-- The low `n` bytes of a value in the byte order of data, the byte of the lowest address first (R72). -/
def State.bytesOf (s : State) (n v : Nat) : List Byte :=
  (List.range n).map fun k => BitVec.ofNat 8 (v / 256 ^ (if s.cfg.endian = .little then k else n - 1 - k))

/-- In `t` the `n` bytes at an address hold the low bytes of a value, in the byte order of data (R72); a byte that lies in
a device is as it was (R82). -/
def State.HoldsAt (s t : State) (ea n v : Nat) : Prop :=
  ∀ k, k < n → t.byte ((ea + k) % 2 ^ s.cfg.bits) =
    if s.cfg.isIo ((ea + k) % 2 ^ s.cfg.bits) then s.byte ((ea + k) % 2 ^ s.cfg.bits)
    else BitVec.ofNat 8 (v / 256 ^ (if s.cfg.endian = .little then k else n - 1 - k))

/-- The value an explicit read sees in the `n` bytes at an address: those of memory, and in a device's bytes what the device
answers, a free value (20_memory.md R72, R82). -/
def State.seenAt (s : State) (ea n : Nat) : Nat :=
  ((List.range n).map fun k =>
    (if s.cfg.isIo ((ea + k) % 2 ^ s.cfg.bits) then Config.ioByte s.draws ((ea + k) % 2 ^ s.cfg.bits)
      else s.byte ((ea + k) % 2 ^ s.cfg.bits)).toNat * 256 ^ (if s.cfg.endian = .little then k else n - 1 - k)).sum

/-- What an access of `n` bytes adds to the trace of device accesses: the event, where one of its bytes lies in a device
(R82). -/
def State.ioEvents (s : State) (ea n : Nat) (event : IoEvent) : List IoEvent :=
  if (span s.cfg.bits ea n).any s.cfg.isIo then [event] else []

/-- An access of `n` bytes raises nothing for its alignment: it is aligned, or misaligned accesses are invisible, or one
misaligned atomicity granule holds it and relaxes it, or the environment completes it (20_memory.md R78, R79). -/
def State.AlignmentOk (s : State) (mag : Bool) (ea n : Nat) (kind : AccessKind) : Prop :=
  ea % n = 0 ∨ s.cfg.misaligned = .invisible ∨ (mag = true ∧ s.cfg.inGranule ea n = true) ∨
    Config.misalignedOk s.draws ea n kind = true

/-- An access of `n` bytes that completes: every byte is accessible at that width, and nothing is raised for its alignment
(20_memory.md R77-R79). `mag`: a misaligned atomicity granule relaxes it. -/
structure State.Accesses (s : State) (mag : Bool) (ea n : Nat) (kind : AccessKind) : Prop where
  accessible : s.cfg.accessible ea n kind = true
  alignment : s.AlignmentOk mag ea n kind

/-- A misaligned atomicity granule relaxes the floating-point accesses of F, D and Q of at most XLEN bits
(43_m_a.md R384). -/
def State.fpGranule (s : State) (n : Nat) : Bool := decide (n ≠ 2 ∧ 8 * n ≤ s.cfg.bits)

/-- A load of `n` bytes completes: x[rd] takes the extension of the bytes at `ea`, a device access is recorded, and nothing
else is written. -/
def LoadsX (i : Instr) (s : State) (len n : Nat) (signed : Bool) (rd : Reg) (ea : Nat) : Prop :=
  s.Accesses true ea n .load → ∃ t, exec i s = .next t ∧
    t.readX s.cfg.bits rd = (if rd = 0 then 0 else
      if signed then (BitVec.ofNat (8 * n) (s.seenAt ea n)).signExtend s.cfg.bits
      else (BitVec.ofNat (8 * n) (s.seenAt ea n)).setWidth s.cfg.bits) ∧
    s.RetiredTo t (s.after len) ∧ s.Keeps t [rd] [] [] ∧ t.fflags = s.fflags ∧ t.reservation = s.reservation ∧
    t.stale = s.stale ∧ t.ioTrace = s.ioTrace ++ s.ioEvents ea n (.read ea n)

/-- From canonical memory, a store of `n` bytes completes: the bytes at `ea` take the low bytes of `v`, a device access is
recorded, and nothing else is written. -/
def StoresX (i : Instr) (s : State) (len : Nat) (mag : Bool) (n ea v : Nat) : Prop :=
  s.memOk → s.Accesses mag ea n .store → ∃ t, exec i s = .next t ∧ s.HoldsAt t ea n v ∧ s.RetiredTo t (s.after len) ∧
    s.Keeps t [] [] (span s.cfg.bits ea n) ∧ s.StaleWithin t (span s.cfg.bits ea n) ∧ t.fflags = s.fflags ∧
    t.reservation = s.reservation ∧
    t.ioTrace = s.ioTrace ++ s.ioEvents ea n (.write ea (s.bytesOf n v))

/-! ## Floating point as the statements see it -/

/-- The hart has the format: its f registers hold it, or, with Zfinx, an x register or an even pair of them does. -/
def State.HasFmt (s : State) (f : Fmt) (rd : Reg) : Prop :=
  if s.cfg.ext.zfinx then f.width ≤ s.cfg.bits ∨ (f.width ≤ 2 * s.cfg.bits ∧ rd.toNat % 2 = 0) else f.width ≤ s.cfg.flen

/-- The destination holds a floating-point result: f[rd] its box (10_state.md R43); with Zfinx x[rd] its bits with copies
of its sign above them, or, where it is wider than XLEN, x[rd] its low half and x[rd + 1] its high half, and nothing
where rd is x0 (10_state.md R64; 48_zfinx_zfa_cmo_zawrs.md R642). -/
def State.HoldsFp (s t : State) (f : Fmt) (rd : Reg) (v : BitVec f.width) : Prop :=
  if s.cfg.ext.zfinx then
    rd ≠ 0 →
      if f.width ≤ s.cfg.bits then t.readX s.cfg.bits rd = v.signExtend s.cfg.bits
      else t.readX s.cfg.bits rd = v.extractLsb' 0 s.cfg.bits ∧
        t.readX s.cfg.bits (rd + 1) = v.extractLsb' s.cfg.bits s.cfg.bits
  else t.readF rd = box s.cfg.flen v

/-- The instruction completes, writes a floating-point result to register rd, accrues its flags, and does nothing else. -/
def WritesFp (i : Instr) (s : State) (f : Fmt) (rd : Reg) (r : BitVec f.width × FpFlags) : Prop :=
  s.HasFmt f rd → ∃ t, exec i s = .next t ∧ s.HoldsFp t f rd r.1 ∧ t.fflags = s.fflags ||| r.2 ∧
    s.RetiredTo t (s.after 4) ∧
    s.Keeps t (if s.cfg.ext.zfinx then s.cfg.finxRegs f.width rd else []) (if s.cfg.ext.zfinx then [] else [rd]) [] ∧
    t.reservation = s.reservation ∧ t.ioTrace = s.ioTrace ∧ t.stale = s.stale

/-- The instruction completes, writes x[rd] <- v, accrues flags, and does nothing else. -/
def WritesXFlags (i : Instr) (s : State) (rd : Reg) (v : BitVec s.cfg.bits) (flags : FpFlags) : Prop :=
  ∃ t, exec i s = .next t ∧ t.readX s.cfg.bits rd = (if rd = 0 then 0 else v) ∧ t.fflags = s.fflags ||| flags ∧
    s.RetiredTo t (s.after 4) ∧ s.Keeps t [rd] [] [] ∧ t.reservation = s.reservation ∧ t.ioTrace = s.ioTrace ∧
    t.stale = s.stale

/-- The instruction completes, writes f[rd] <- a cell, and does nothing else. -/
def WritesF (i : Instr) (s : State) (len : Nat) (rd : Reg) (v : Cell) : Prop :=
  ∃ t, exec i s = .next t ∧ t.readF rd = v ∧ s.RetiredTo t (s.after len) ∧ s.KeepsRest t [] [rd] []

/-- The exact value of a finite datum, a rational number; none for an infinity or a NaN. -/
def Fp.value : Fp → Option ℚ
  | .fin neg m e => some ((if neg then -1 else 1) * (m : ℚ) * (2 : ℚ) ^ e)
  | _ => none

/-- A rational number rounded to an integer by a mode (45_f.md R435; 00_scope.md R15). -/
def RoundingMode.integral (rm : RoundingMode) (x : ℚ) : Int :=
  let below : Int := ⌊x⌋
  let part : ℚ := x - below
  match rm with
  | .rne => if part < 1 / 2 then below else if 1 / 2 < part then below + 1 else if below % 2 = 0 then below else below + 1
  | .rtz => if x < 0 then ⌈x⌉ else below
  | .rdn => below
  | .rup => ⌈x⌉
  | .rmm => if part < 1 / 2 then below else if 1 / 2 < part then below + 1 else if x < 0 then below else below + 1

/-- A magnitude, rounded by a mode to a multiple of `step`, is at least `bound`, a multiple whose predecessor
`bound - step` is odd (45_f.md R435): to nearest from half a step below it on, away from zero from any value above the
predecessor on. -/
def RoundingMode.reaches (rm : RoundingMode) (neg : Bool) (bound step mag : ℚ) : Prop :=
  match rm with
  | .rne => bound - step / 2 ≤ mag
  | .rmm => bound - step / 2 ≤ mag
  | .rtz => bound ≤ mag
  | .rdn => if neg then bound - step < mag else bound ≤ mag
  | .rup => if neg then bound ≤ mag else bound - step < mag

/-- Overflow (45_f.md R432): the magnitude, rounded to the precision of the format with no bound on the exponent, exceeds
that of every finite datum, so that it is 2^(bias + 1) or more. -/
def Fmt.Overflows (f : Fmt) (rm : RoundingMode) (neg : Bool) (mag : ℚ) : Prop :=
  rm.reaches neg (2 ^ ((f.bias : Int) + 1)) (2 ^ ((f.bias : Int) - f.manBits)) mag

/-- Tininess after rounding (45_f.md R439): the magnitude, rounded to the precision of the format with no bound on the
exponent, is below that of the least normal datum, 2^(1 - bias). -/
def Fmt.Tiny (f : Fmt) (rm : RoundingMode) (neg : Bool) (mag : ℚ) : Prop :=
  ¬rm.reaches neg (2 ^ (1 - (f.bias : Int))) (2 ^ (-(f.bias : Int) - f.manBits)) mag

/-- A result with its flags is the rounding of a real number that is not 0: of the number itself, where it is an exact
datum (-1)^neg · m · 2^e; or that of every such datum in an open interval around it, so that no boundary between
results lies in the interval. -/
def Fmt.RoundsReal (f : Fmt) (rm : RoundingMode) (x : ℝ) (r : BitVec f.width × FpFlags) : Prop :=
  (∃ neg m e, m ≠ 0 ∧ ∃ q : ℚ, (Fp.fin neg m e).value = some q ∧ (q : ℝ) = x ∧ r = f.round rm neg m e false) ∨
    ∃ lo hi : ℝ, lo < x ∧ x < hi ∧
      ∀ neg m e, m ≠ 0 → ∀ q : ℚ, (Fp.fin neg m e).value = some q → lo < q → q < hi → r = f.round rm neg m e false

/-- A floating-point load of `n` bytes completes: f[rd] takes the bytes at `ea`, boxed, a device access is recorded, and
nothing else is written. -/
def LoadsF (i : Instr) (s : State) (len n : Nat) (rd : Reg) (ea : Nat) : Prop :=
  s.Accesses (s.fpGranule n) ea n .load → ∃ t, exec i s = .next t ∧
    t.readF rd = box s.cfg.flen (BitVec.ofNat (8 * n) (s.seenAt ea n)) ∧ s.RetiredTo t (s.after len) ∧
    s.Keeps t [] [rd] [] ∧ t.fflags = s.fflags ∧ t.reservation = s.reservation ∧ t.stale = s.stale ∧
    t.ioTrace = s.ioTrace ++ s.ioEvents ea n (.read ea n)

/-- From canonical memory, an AMO of `n` bytes completes: x[rd] takes the old value, sign-extended, the bytes at x[rs1]
take the operation of the old value and x[rs2], device accesses are recorded, and nothing else is written. -/
def AmoUpdates (i : Instr) (s : State) (n : Nat) (cls : AmoClass) (rd rs1 rs2 : Reg)
    (op : BitVec (8 * n) → BitVec (8 * n) → BitVec (8 * n)) : Prop :=
  let ea := (s.readX s.cfg.bits rs1).toNat
  let old := BitVec.ofNat (8 * n) (s.seenAt ea n)
  let new := (op old (s.readX (8 * n) rs2)).toNat
  s.memOk → (ea % n = 0 ∨ s.cfg.inGranule ea n = true) → s.cfg.amoAt ea n cls = true →
    ∃ t, exec i s = .next t ∧ t.readX s.cfg.bits rd = (if rd = 0 then 0 else old.signExtend s.cfg.bits) ∧
      s.HoldsAt t ea n new ∧ s.RetiredTo t (s.after 4) ∧ s.Keeps t [rd] [] (span s.cfg.bits ea n) ∧
      s.StaleWithin t (span s.cfg.bits ea n) ∧ t.fflags = s.fflags ∧ t.reservation = s.reservation ∧
      t.ioTrace = s.ioTrace ++ s.ioEvents ea n (.read ea n) ++ s.ioEvents ea n (.write ea (s.bytesOf n new))

/-- A CSR instruction completes: x[rd] takes the old value, the CSR the writable bits of the new one where it writes,
and nothing else is written. -/
def CsrReplaces (i : Instr) (s : State) (a : BitVec 12) (rd : Reg) (old : BitVec s.cfg.bits)
    (new : Option (BitVec s.cfg.bits)) : Prop :=
  let w := match new with
    | none => s
    | some v => s.csrWrite a v
  ∃ t, exec i s = .next t ∧ t.readX s.cfg.bits rd = (if rd = 0 then 0 else old) ∧ t.fflags = w.fflags ∧ t.frm = w.frm ∧
    t.jvt = w.jvt ∧ s.RetiredTo t (s.after 4) ∧ w.Keeps t [rd] [] [] ∧ s.KeepsData t [rd] ∧
    t.reservation = s.reservation ∧ t.ioTrace = s.ioTrace ∧ t.stale = s.stale ∧ t.cfg = s.cfg

/-- The address of slot k of a push or pop below `top` (49_zc.md R722). -/
def State.slot (s : State) (top : BitVec s.cfg.bits) (k : Nat) : Nat :=
  (top - BitVec.ofNat s.cfg.bits ((k + 1) * s.cfg.bytes)).toNat

/-- The bytes of the first `n` slots below `top`. -/
def State.slotBytes (s : State) (top : BitVec s.cfg.bits) (n : Nat) : List Nat :=
  (List.range n).flatMap fun k => span s.cfg.bits (s.slot top k) s.cfg.bytes

/-- The first `n` slots below `top` may be accessed, in regions that perform the accesses of PUSH and POP. -/
def State.SlotsAllow (s : State) (top : BitVec s.cfg.bits) (n : Nat) (kind : AccessKind) : Prop :=
  ∀ k, k < n → s.Accesses true (s.slot top k) s.cfg.bytes kind ∧ s.cfg.slotOk (s.slot top k) = true

/-- The exception of the access of a slot that may not be made: that of an ordinary access of XLEN/8 bytes, misaligned
before inaccessible (20_memory.md R78; 60_exceptions.md R760), where a region that does not perform PUSH and POP
accesses counts as inaccessible (49_zc.md R725). -/
def State.SlotRaises (s : State) (a : Nat) (kind : AccessKind) (e : Exc) : Prop :=
  (s.AlignmentOk true a s.cfg.bytes kind ∧ (s.cfg.accessible a s.cfg.bytes kind = false ∨ s.cfg.slotOk a = false) ∧
    e = accessFaultExc kind a) ∨
  (¬s.AlignmentOk true a s.cfg.bytes kind ∧ e = if Config.misalignedAsAccessFault s.draws a s.cfg.bytes kind then
    accessFaultExc kind a else misalignedExc kind a)

/-- What storing registers to the slots below `top` adds to the trace of device accesses. -/
def State.pushEvents (s : State) (top : BitVec s.cfg.bits) (rs : List Reg) : List IoEvent :=
  rs.zipIdx.flatMap fun p => s.ioEvents (s.slot top p.2) s.cfg.bytes
    (.write (s.slot top p.2) (s.bytesOf s.cfg.bytes (s.readX s.cfg.bits p.1).toNat))

/-- What loading the first `n` slots below `top` adds to the trace of device accesses. -/
def State.popEvents (s : State) (top : BitVec s.cfg.bits) (n : Nat) : List IoEvent :=
  (List.range n).flatMap fun k => s.ioEvents (s.slot top k) s.cfg.bytes (.read (s.slot top k) s.cfg.bytes)

end Sys2Proof.Machine

namespace Sys2Proof

open Machine

/-! ## Kinds of instruction -/

/-- The loads: the length of the instruction, the width of the access in bytes, and the effective address, the sum of the
base register and the offset modulo 2^XLEN (20_memory.md R71). -/
def Instr.loadForm : Instr → State → Option (Nat × Nat × Nat)
  | .lb _ rs1 imm, s => some (4, 1, (s.readX s.cfg.bits rs1 + imm.signExtend s.cfg.bits).toNat)
  | .lh _ rs1 imm, s => some (4, 2, (s.readX s.cfg.bits rs1 + imm.signExtend s.cfg.bits).toNat)
  | .lw _ rs1 imm, s => some (4, 4, (s.readX s.cfg.bits rs1 + imm.signExtend s.cfg.bits).toNat)
  | .lbu _ rs1 imm, s => some (4, 1, (s.readX s.cfg.bits rs1 + imm.signExtend s.cfg.bits).toNat)
  | .lhu _ rs1 imm, s => some (4, 2, (s.readX s.cfg.bits rs1 + imm.signExtend s.cfg.bits).toNat)
  | .ld _ rs1 imm, s => some (4, 8, (s.readX s.cfg.bits rs1 + imm.signExtend s.cfg.bits).toNat)
  | .lwu _ rs1 imm, s => some (4, 4, (s.readX s.cfg.bits rs1 + imm.signExtend s.cfg.bits).toNat)
  | .flw _ rs1 imm, s => some (4, 4, (s.readX s.cfg.bits rs1 + imm.signExtend s.cfg.bits).toNat)
  | .fld _ rs1 imm, s => some (4, 8, (s.readX s.cfg.bits rs1 + imm.signExtend s.cfg.bits).toNat)
  | .flq _ rs1 imm, s => some (4, 16, (s.readX s.cfg.bits rs1 + imm.signExtend s.cfg.bits).toNat)
  | .flh _ rs1 imm, s => some (4, 2, (s.readX s.cfg.bits rs1 + imm.signExtend s.cfg.bits).toNat)
  | .cFld _ rs1p uimm, s => some (2, 8, (s.readX s.cfg.bits (wideReg rs1p) + BitVec.ofNat s.cfg.bits (uimm.toNat * 8)).toNat)
  | .cLq _ rs1p uimm, s => some (2, 16, (s.readX s.cfg.bits (wideReg rs1p) + BitVec.ofNat s.cfg.bits (uimm.toNat * 16)).toNat)
  | .cLw _ rs1p uimm, s => some (2, 4, (s.readX s.cfg.bits (wideReg rs1p) + BitVec.ofNat s.cfg.bits (uimm.toNat * 4)).toNat)
  | .cFlw _ rs1p uimm, s => some (2, 4, (s.readX s.cfg.bits (wideReg rs1p) + BitVec.ofNat s.cfg.bits (uimm.toNat * 4)).toNat)
  | .cLd _ rs1p uimm, s => some (2, 8, (s.readX s.cfg.bits (wideReg rs1p) + BitVec.ofNat s.cfg.bits (uimm.toNat * 8)).toNat)
  | .cFldsp _ uimm, s => some (2, 8, (s.readX s.cfg.bits 2 + BitVec.ofNat s.cfg.bits (uimm.toNat * 8)).toNat)
  | .cLqsp _ uimm, s => some (2, 16, (s.readX s.cfg.bits 2 + BitVec.ofNat s.cfg.bits (uimm.toNat * 16)).toNat)
  | .cLwsp _ uimm, s => some (2, 4, (s.readX s.cfg.bits 2 + BitVec.ofNat s.cfg.bits (uimm.toNat * 4)).toNat)
  | .cFlwsp _ uimm, s => some (2, 4, (s.readX s.cfg.bits 2 + BitVec.ofNat s.cfg.bits (uimm.toNat * 4)).toNat)
  | .cLdsp _ uimm, s => some (2, 8, (s.readX s.cfg.bits 2 + BitVec.ofNat s.cfg.bits (uimm.toNat * 8)).toNat)
  | .cLbu _ rs1p uimm, s => some (2, 1, (s.readX s.cfg.bits (wideReg rs1p) + BitVec.ofNat s.cfg.bits (uimm.toNat * 1)).toNat)
  | .cLhu _ rs1p uimm, s => some (2, 2, (s.readX s.cfg.bits (wideReg rs1p) + BitVec.ofNat s.cfg.bits (uimm.toNat * 2)).toNat)
  | .cLh _ rs1p uimm, s => some (2, 2, (s.readX s.cfg.bits (wideReg rs1p) + BitVec.ofNat s.cfg.bits (uimm.toNat * 2)).toNat)
  | _, _ => none

/-- The loads and stores of f registers. -/
def Instr.isFloatAccess : Instr → Bool
  | .flw _ _ _ => true
  | .fld _ _ _ => true
  | .flq _ _ _ => true
  | .flh _ _ _ => true
  | .cFld _ _ _ => true
  | .cFlw _ _ _ => true
  | .cFldsp _ _ => true
  | .cFlwsp _ _ => true
  | .fsw _ _ _ => true
  | .fsd _ _ _ => true
  | .fsq _ _ _ => true
  | .fsh _ _ _ => true
  | .cFsd _ _ _ => true
  | .cFsw _ _ _ => true
  | .cFsdsp _ _ => true
  | .cFswsp _ _ => true
  | _ => false

/-- A misaligned atomicity granule relaxes the load or store of `n` bytes (43_m_a.md R384). -/
def Instr.granule (i : Instr) (s : State) (n : Nat) : Bool := !i.isFloatAccess || s.fpGranule n

/-- The stores, in the same form. -/
def Instr.storeForm : Instr → State → Option (Nat × Nat × Nat)
  | .sb rs1 _ imm, s => some (4, 1, (s.readX s.cfg.bits rs1 + imm.signExtend s.cfg.bits).toNat)
  | .sh rs1 _ imm, s => some (4, 2, (s.readX s.cfg.bits rs1 + imm.signExtend s.cfg.bits).toNat)
  | .sw rs1 _ imm, s => some (4, 4, (s.readX s.cfg.bits rs1 + imm.signExtend s.cfg.bits).toNat)
  | .sd rs1 _ imm, s => some (4, 8, (s.readX s.cfg.bits rs1 + imm.signExtend s.cfg.bits).toNat)
  | .fsw rs1 _ imm, s => some (4, 4, (s.readX s.cfg.bits rs1 + imm.signExtend s.cfg.bits).toNat)
  | .fsd rs1 _ imm, s => some (4, 8, (s.readX s.cfg.bits rs1 + imm.signExtend s.cfg.bits).toNat)
  | .fsq rs1 _ imm, s => some (4, 16, (s.readX s.cfg.bits rs1 + imm.signExtend s.cfg.bits).toNat)
  | .fsh rs1 _ imm, s => some (4, 2, (s.readX s.cfg.bits rs1 + imm.signExtend s.cfg.bits).toNat)
  | .cFsd rs1p _ uimm, s => some (2, 8, (s.readX s.cfg.bits (wideReg rs1p) + BitVec.ofNat s.cfg.bits (uimm.toNat * 8)).toNat)
  | .cSq rs1p _ uimm, s => some (2, 16, (s.readX s.cfg.bits (wideReg rs1p) + BitVec.ofNat s.cfg.bits (uimm.toNat * 16)).toNat)
  | .cSw rs1p _ uimm, s => some (2, 4, (s.readX s.cfg.bits (wideReg rs1p) + BitVec.ofNat s.cfg.bits (uimm.toNat * 4)).toNat)
  | .cFsw rs1p _ uimm, s => some (2, 4, (s.readX s.cfg.bits (wideReg rs1p) + BitVec.ofNat s.cfg.bits (uimm.toNat * 4)).toNat)
  | .cSd rs1p _ uimm, s => some (2, 8, (s.readX s.cfg.bits (wideReg rs1p) + BitVec.ofNat s.cfg.bits (uimm.toNat * 8)).toNat)
  | .cFsdsp _ uimm, s => some (2, 8, (s.readX s.cfg.bits 2 + BitVec.ofNat s.cfg.bits (uimm.toNat * 8)).toNat)
  | .cSqsp _ uimm, s => some (2, 16, (s.readX s.cfg.bits 2 + BitVec.ofNat s.cfg.bits (uimm.toNat * 16)).toNat)
  | .cSwsp _ uimm, s => some (2, 4, (s.readX s.cfg.bits 2 + BitVec.ofNat s.cfg.bits (uimm.toNat * 4)).toNat)
  | .cFswsp _ uimm, s => some (2, 4, (s.readX s.cfg.bits 2 + BitVec.ofNat s.cfg.bits (uimm.toNat * 4)).toNat)
  | .cSdsp _ uimm, s => some (2, 8, (s.readX s.cfg.bits 2 + BitVec.ofNat s.cfg.bits (uimm.toNat * 8)).toNat)
  | .cSb rs1p _ uimm, s => some (2, 1, (s.readX s.cfg.bits (wideReg rs1p) + BitVec.ofNat s.cfg.bits (uimm.toNat * 1)).toNat)
  | .cSh rs1p _ uimm, s => some (2, 2, (s.readX s.cfg.bits (wideReg rs1p) + BitVec.ofNat s.cfg.bits (uimm.toNat * 2)).toNat)
  | _, _ => none

/-- The rm field of the instructions that have one (45_f.md R436). -/
def Instr.rmField : Instr → Option (BitVec 3)
  | .fmaddS _ _ _ _ rm => some rm
  | .fmsubS _ _ _ _ rm => some rm
  | .fnmsubS _ _ _ _ rm => some rm
  | .fnmaddS _ _ _ _ rm => some rm
  | .faddS _ _ _ rm => some rm
  | .fsubS _ _ _ rm => some rm
  | .fmulS _ _ _ rm => some rm
  | .fdivS _ _ _ rm => some rm
  | .fsqrtS _ _ rm => some rm
  | .fcvtWS _ _ rm => some rm
  | .fcvtSW _ _ rm => some rm
  | .fcvtWuS _ _ rm => some rm
  | .fcvtSWu _ _ rm => some rm
  | .fcvtLS _ _ rm => some rm
  | .fcvtSL _ _ rm => some rm
  | .fcvtLuS _ _ rm => some rm
  | .fcvtSLu _ _ rm => some rm
  | .fmaddD _ _ _ _ rm => some rm
  | .fmsubD _ _ _ _ rm => some rm
  | .fnmsubD _ _ _ _ rm => some rm
  | .fnmaddD _ _ _ _ rm => some rm
  | .faddD _ _ _ rm => some rm
  | .fsubD _ _ _ rm => some rm
  | .fmulD _ _ _ rm => some rm
  | .fdivD _ _ _ rm => some rm
  | .fsqrtD _ _ rm => some rm
  | .fcvtWD _ _ rm => some rm
  | .fcvtDW _ _ rm => some rm
  | .fcvtWuD _ _ rm => some rm
  | .fcvtDWu _ _ rm => some rm
  | .fcvtLD _ _ rm => some rm
  | .fcvtDL _ _ rm => some rm
  | .fcvtLuD _ _ rm => some rm
  | .fcvtDLu _ _ rm => some rm
  | .fmaddQ _ _ _ _ rm => some rm
  | .fmsubQ _ _ _ _ rm => some rm
  | .fnmsubQ _ _ _ _ rm => some rm
  | .fnmaddQ _ _ _ _ rm => some rm
  | .faddQ _ _ _ rm => some rm
  | .fsubQ _ _ _ rm => some rm
  | .fmulQ _ _ _ rm => some rm
  | .fdivQ _ _ _ rm => some rm
  | .fsqrtQ _ _ rm => some rm
  | .fcvtWQ _ _ rm => some rm
  | .fcvtQW _ _ rm => some rm
  | .fcvtWuQ _ _ rm => some rm
  | .fcvtQWu _ _ rm => some rm
  | .fcvtLQ _ _ rm => some rm
  | .fcvtQL _ _ rm => some rm
  | .fcvtLuQ _ _ rm => some rm
  | .fcvtQLu _ _ rm => some rm
  | .fmaddH _ _ _ _ rm => some rm
  | .fmsubH _ _ _ _ rm => some rm
  | .fnmsubH _ _ _ _ rm => some rm
  | .fnmaddH _ _ _ _ rm => some rm
  | .faddH _ _ _ rm => some rm
  | .fsubH _ _ _ rm => some rm
  | .fmulH _ _ _ rm => some rm
  | .fdivH _ _ _ rm => some rm
  | .fsqrtH _ _ rm => some rm
  | .fcvtWH _ _ rm => some rm
  | .fcvtHW _ _ rm => some rm
  | .fcvtWuH _ _ rm => some rm
  | .fcvtHWu _ _ rm => some rm
  | .fcvtLH _ _ rm => some rm
  | .fcvtHL _ _ rm => some rm
  | .fcvtLuH _ _ rm => some rm
  | .fcvtHLu _ _ rm => some rm
  | .fcvtSD _ _ rm => some rm
  | .fcvtDS _ _ rm => some rm
  | .fcvtSQ _ _ rm => some rm
  | .fcvtQS _ _ rm => some rm
  | .fcvtDQ _ _ rm => some rm
  | .fcvtQD _ _ rm => some rm
  | .fcvtSH _ _ rm => some rm
  | .fcvtHS _ _ rm => some rm
  | .fcvtDH _ _ rm => some rm
  | .fcvtHD _ _ rm => some rm
  | .fcvtQH _ _ rm => some rm
  | .fcvtHQ _ _ rm => some rm
  | .froundS _ _ rm => some rm
  | .froundnxS _ _ rm => some rm
  | .froundD _ _ rm => some rm
  | .froundnxD _ _ rm => some rm
  | .froundH _ _ rm => some rm
  | .froundnxH _ _ rm => some rm
  | .froundQ _ _ rm => some rm
  | .froundnxQ _ _ rm => some rm
  | _ => none

/-- The CSR instructions. -/
def Instr.isCsr : Instr → Bool
  | .csrrw _ _ _ => true
  | .csrrs _ _ _ => true
  | .csrrc _ _ _ => true
  | .csrrwi _ _ _ => true
  | .csrrsi _ _ _ => true
  | .csrrci _ _ _ => true
  | _ => false

/-- The instructions that register or invalidate a reservation (43_m_a.md R369, R371). -/
def Instr.isLrSc : Instr → Bool
  | .lrW _ _ _ _ => true
  | .scW _ _ _ _ _ => true
  | .lrD _ _ _ _ => true
  | .scD _ _ _ _ _ => true
  | _ => false

/-- The instructions that may write memory. -/
def Instr.mayStore : Instr → Bool
  | .sb _ _ _ => true
  | .sh _ _ _ => true
  | .sw _ _ _ => true
  | .sd _ _ _ => true
  | .scW _ _ _ _ _ => true
  | .scD _ _ _ _ _ => true
  | .amoswapW _ _ _ _ _ => true
  | .amoswapD _ _ _ _ _ => true
  | .amoaddW _ _ _ _ _ => true
  | .amoaddD _ _ _ _ _ => true
  | .amoxorW _ _ _ _ _ => true
  | .amoxorD _ _ _ _ _ => true
  | .amoandW _ _ _ _ _ => true
  | .amoandD _ _ _ _ _ => true
  | .amoorW _ _ _ _ _ => true
  | .amoorD _ _ _ _ _ => true
  | .amominW _ _ _ _ _ => true
  | .amominD _ _ _ _ _ => true
  | .amomaxW _ _ _ _ _ => true
  | .amomaxD _ _ _ _ _ => true
  | .amominuW _ _ _ _ _ => true
  | .amominuD _ _ _ _ _ => true
  | .amomaxuW _ _ _ _ _ => true
  | .amomaxuD _ _ _ _ _ => true
  | .fsw _ _ _ => true
  | .fsd _ _ _ => true
  | .fsq _ _ _ => true
  | .fsh _ _ _ => true
  | .cboZero _ => true
  | .cFsd _ _ _ => true
  | .cSq _ _ _ => true
  | .cSw _ _ _ => true
  | .cFsw _ _ _ => true
  | .cSd _ _ _ => true
  | .cFsdsp _ _ => true
  | .cSqsp _ _ => true
  | .cSwsp _ _ => true
  | .cFswsp _ _ => true
  | .cSdsp _ _ => true
  | .cSb _ _ _ => true
  | .cSh _ _ _ => true
  | .cmPush _ _ => true
  | _ => false

end Sys2Proof
end

