-- ==== Sys2Proof/Certificates/Slice0/Obligations.lean ====
section
/-! DEFINITION. The statements about the model. -/

open Sys2Proof Sys2Proof.Machine

/-- The spec fixes no reset value but x0 = 0 and the alignment of pc; these are the model's own choices, named in
assumption logs 1 (configuration), 2 (registers) and 3 (memory): every x and f register, fcsr, the counters and jvt
are 0, pc is 0x1000, no reservation is held, memory lists nothing and reads as 0, and the hart is neither stalled nor
terminated. (10_state.md, 70_reset_and_hazards.md) -/
def Obligations.ResetValuesAreTheLogs : Prop :=
  State.reset.cfg = configReset ∧ State.reset.pc = 0x1000 ∧ (∀ r n, State.reset.readX n r = 0) ∧
    (∀ r, State.reset.readF r = 0) ∧ State.reset.frm = 0 ∧ State.reset.fflags = 0 ∧ State.reset.cycle = 0 ∧
    State.reset.time = 0 ∧ State.reset.instret = 0 ∧ State.reset.hpm = [] ∧ State.reset.jvt = 0 ∧
    State.reset.reservation = none ∧ State.reset.mem = [] ∧ (∀ a, State.reset.byte a = 0) ∧
    State.reset.halted = none ∧ State.reset.stalled = false ∧ State.reset.stale = []

/-- State.reset has a legal configuration, canonical memory, an aligned pc of XLEN bits, jvt.MODE = 0 and a legal jvt,
and registers of their widths. (10_state.md, 00_scope.md) -/
def Obligations.ResetMeetsTheInvariant : Prop :=
  State.reset.Inv

/-- From every state with a legal configuration, canonical memory, pc aligned to IALIGN and XLEN bits wide, jvt.MODE =
0, jvt reading as a value that BASE can hold, and registers of their widths, a step that answers a next state answers
one with the same. (10_state.md, 00_scope.md, 49_zc.md) -/
def Obligations.StepKeepsTheInvariant : Prop :=
  ∀ s t, s.Inv → step s = .next t → t.Inv

/-- From every state whose memory lists strictly rising addresses and no byte equal to what an unlisted address reads as,
a step answers a state whose memory does, whatever the instruction, the exception or the environment's service.
(10_state.md, 20_memory.md) -/
def Obligations.StepKeepsMemoryCanonical : Prop :=
  ∀ s t, s.memOk → step s = .next t → t.memOk

/-- Whatever a step does, the configuration of the next state is that of the state before. From every state, a step that
answers a next state leaves instret or adds one to it; where the next state has been terminated, it leaves it.
(00_scope.md, 44_zicsr_counters.md, 60_exceptions.md) -/
def Obligations.StepKeepsConfigurationAndCountsRetired : Prop :=
  (∀ s t, step s = .next t → t.cfg = s.cfg) ∧
  (∀ s t, step s = .next t → (t.instret = s.instret ∨ t.instret = s.instret + 1) ∧ (t.halted ≠ none → t.instret = s.instret))

/-- In every legal configuration, for every instruction well formed in it, at every value of every operand, decode of
encode is the instruction. (30_encoding.md) -/
def Obligations.DecodeOfEncodeGivesTheInstruction : Prop :=
  ∀ c i, c.legal = true → i.wf c = true → decode c (encode i) = .ok i

/-- Where decode gives an instruction, the instruction is well formed in the configuration, its length is 2 bytes exactly
when the two lowest bits are not both 1, and its encoding is the bits decoded (the low 16 of them for a 16-bit
instruction). (30_encoding.md) -/
def Obligations.DecodedInstructionsReencode : Prop :=
  ∀ c w i, decode c w = .ok i → i.wf c = true ∧
    (if isShort (w.setWidth 16) then i.len = 2 ∧ encode i = w &&& 0xFFFF else i.len = 4 ∧ encode i = w)

/-- A few instruction words of the spec's rules (ADD, LW, SB, JAL, MUL, SC.W, CSRRW, FSGNJ.S, C.LWSP, C.ZEXT.B) decode
to their instructions in the configuration of reset. The bits of C.ZEXT.B and the funct3 values of loads and stores
that no listing prints are the spec's [from general knowledge, not in source] (log 18, PRESUMED). (30_encoding.md,
95_test_vectors.md) -/
def Obligations.SampleWordsDecode : Prop :=
  decode configReset 0x006283B3#32 = .ok (.add 7 5 6) ∧
    decode configReset 0xFFC2A303#32 = .ok (.lw 6 5 0xFFC) ∧
    decode configReset 0x006281A3#32 = .ok (.sb 5 6 3) ∧
    decode configReset 0x008000EF#32 = .ok (.jal 1 4) ∧
    decode configReset 0x026283B3#32 = .ok (.mul 7 5 6) ∧
    decode configReset 0x186523AF#32 = .ok (.scW 7 10 6 0 0) ∧
    decode configReset 0x003293F3#32 = .ok (.csrrw 7 5 3) ∧
    decode configReset 0x20C58553#32 = .ok (.fsgnjS 10 11 12) ∧
    decode configReset 0x40B2#32 = .ok (.cLwsp 1 3) ∧
    decode configReset 0x9D61#32 = .ok (.cZextB 2)

/-- On a hart that is not terminated, not stalled and takes no interrupt, where the fetch gives the bits of a 16-bit or a
32-bit instruction and they decode to i, the step is exec of i at that state; the model adds nothing around exec.
(40_rv32i.md, 20_memory.md) -/
def Obligations.StepRunsTheDecodedInstruction : Prop :=
  ∀ s w i, s.Ready → (s.fetch = .bits16 w ∨ s.fetch = .bits32 w) → decode s.cfg w = .ok i → step s = exec i s

/-- For an instruction well formed in a legal configuration: where the bytes at pc, in little-endian order whatever
ENDIAN is, are those of its encoding, no store since the last FENCE.I has changed one of them (any other byte may have
been), and they may be fetched, the step is exec of the instruction. What is fetched of bytes that were changed is a
free choice among the values they have held (assumption log 8). (20_memory.md, 30_encoding.md,
70_reset_and_hazards.md) -/
def Obligations.BytesAtPcAreTheInstructionRun : Prop :=
  ∀ s i, s.Ready → s.cfg.legal = true → i.wf s.cfg = true →
    s.FetchesCurrent s.pc.toNat i.len →
    s.cfg.fetchable s.pc.toNat i.len = true →
    (∀ k, k < i.len → s.byte ((s.pc.toNat + k) % 2 ^ s.cfg.bits) = (encode i).extractLsb' (8 * k) 8) →
    step s = exec i s

/-- A terminated hart takes no further step. An awake hart with a pending and enabled interrupt takes it with the pc
of the next instruction: under a fatal action the state is as it was but for the report, which holds the interrupt and
pc; under any other the interrupt is no longer pending and only time passes, so that pc, instret, every register,
memory, every flag and the reservation stay. On a ready hart, bits that the configuration does not define raise
IllegalInstruction with those bits, and a fetch that is not permitted, of either parcel, raises InstructionAccessFault
at pc. The clauses rest on choices: how an interrupt is taken, and that an environment which does not end the hart
handles it transparently, is 60_exceptions.md R773 under 92_eei_decisions.md D7 (assumption log 7), that undefined
bits raise is D10 (log 17), and that a failed fetch reports pc whichever parcel is at fault is R758 under D16 (log
14). (60_exceptions.md, 30_encoding.md, 20_memory.md, 92_eei_decisions.md) -/
def Obligations.StepsThatRunNoInstruction : Prop :=
  ∀ s, (∀ r, s.halted = some r → step s = .fault (.hartTerminated r)) ∧
    (s.halted = none → s.stalled = false → s.interruptPending = true → s.interruptEnabled = true →
      step s = .next s.takeInterrupt ∧ s.takeInterrupt.pc = s.pc ∧ s.takeInterrupt.instret = s.instret) ∧
    (s.trapAction (.interrupt s.interruptCause) = .fatal →
      s.takeInterrupt = { s with halted := some { cause := .interrupt s.interruptCause, pc := s.pc } }) ∧
    (s.trapAction (.interrupt s.interruptCause) ≠ .fatal →
      ({ s with interruptPending := false } : State).OnlyTimePasses s.takeInterrupt) ∧
    (s.Ready →
      (∀ w e, s.fetch = .bits16 w → decode s.cfg w = .error e → step s = .next (s.raise (.illegalInstruction w) 2)) ∧
      (∀ w e, s.fetch = .bits32 w → decode s.cfg w = .error e → step s = .next (s.raise (.illegalInstruction w) 4)) ∧
      (s.fetch = .fault → step s = .next (s.raise (.instructionAccessFault s.pc) 4)))

/-- Where the environment's action for the exception is fatal, the state after raise is the state before it but for
the report, which holds the exception and pc, and the hart takes no further step. That a fatal trap is precise and
leaves everything but the report is the choice of 60_exceptions.md R752 and R764 under 92_eei_decisions.md D7
(assumption log 6), and that the reservation stays is D9's (log 16): the source lets a fatal trap be imprecise.
(60_exceptions.md, 92_eei_decisions.md) -/
def Obligations.FatalTrapChangesNothingButTheReport : Prop :=
  ∀ (s : State) e len, s.trapAction e = .fatal →
    s.raise e len = { s with halted := some { cause := e, pc := s.pc } } ∧ ∀ t, step (s.raise e len) ≠ .next t

/-- Where the environment's action is requested, raise is its resumption, and where it is invisible its emulation,
each with the environment's service (the function f of 60_exceptions.md R751, a free value of the state and the
exception, assumption log 6). A request may end the hart. Whatever the service, a requested trap leaves instret as it
was, an invisible one adds one to it unless it has the instruction tried again, and both leave the configuration. With
a service that writes nothing, a requested trap goes on after the raising instruction, or at the address the service
names, and instret is not incremented; an invisible one does so and the instruction has retired, or, where the service
asks for it, the hart stays at the instruction; every register, byte and control register is as before. A service that
writes frm, fflags or the reservation leaves them as it says. That a named address is cleared to IALIGN alignment is
the model's choice (log 23, DEDUCED: R756 puts a misaligned resume outside the source), as is the form of a service
(log 6). (60_exceptions.md, 10_state.md) -/
def Obligations.ServicedTrapResumesOrCompletes : Prop :=
  ∀ (s : State) e len,
    (s.trapAction e = .requested → s.raise e len = s.resume e len (Config.service s e)) ∧
    (s.trapAction e = .invisible → s.raise e len = s.emulate len (Config.service s e)) ∧
    (∀ v : Service, (s.resume e len v).instret = s.instret ∧ (s.resume e len v).cfg = s.cfg ∧
      (s.emulate len v).instret = (if v.retry then s.instret else s.instret + 1) ∧ (s.emulate len v).cfg = s.cfg) ∧
    (∀ v : Service, (v.terminate = true → s.resume e len v = s.terminate e) ∧
      (v.frm = none ∨ v.frm = some (s.serve v).frm) ∧ (v.fflags = none ∨ v.fflags = some (s.serve v).fflags) ∧
      (v.reservation = none ∨ v.reservation = some (s.serve v).reservation)) ∧
    ∀ target : Option Cell,
      let quiet : Service :=
        { terminate := false, retry := false, resume := target, xWrites := [], fWrites := [], stores := [], frm := none,
          fflags := none, jvt := none, reservation := none, io := [], syncFetch := false }
      let t := s.resume e len quiet
      let u := s.emulate len quiet
      let w := s.emulate len { quiet with retry := true }
      (target = none → t.pc = s.after len ∧ u.pc = s.after len) ∧
      (∀ a, target = some a → t.pc.toNat = a.toNat % 2 ^ s.cfg.bits / s.cfg.ialignBytes * s.cfg.ialignBytes ∧ u.pc = t.pc) ∧
      t.instret = s.instret ∧ u.instret = s.instret + 1 ∧ w.instret = s.instret ∧ w.pc = s.pc ∧
      s.KeepsRest t [] [] [] ∧ s.KeepsRest u [] [] [] ∧ s.KeepsRest w [] [] []

/-- ECALL raises EnvironmentCall, EBREAK and C.EBREAK raise Breakpoint(pc), C.ILLEGAL raises IllegalInstruction(0):
exec answers the state in which the environment has taken the exception, for every state. Whatever the environment
does, ECALL, EBREAK and C.EBREAK leave instret as it was. Under the default fatal policy the state after any of the
four is the state before it but for the report, which holds the exception and pc: that such a trap is precise is the
choice of 60_exceptions.md R752 and R764 under 92_eei_decisions.md D7 (assumption log 6, DESIGN CHOICE), and that the
reservation stays is D9's (log 16). (40_rv32i.md, 44_zicsr_counters.md, 47_c_zimop_zcmop.md, 60_exceptions.md,
92_eei_decisions.md) -/
def Obligations.CallsBreakpointsAndZerosRaise : Prop :=
  ∀ s : State, Raises .ecall s .environmentCall 4 ∧ Raises .ebreak s (.breakpoint s.pc) 4 ∧
    Raises .cEbreak s (.breakpoint s.pc) 2 ∧ Raises .cIllegal s (.illegalInstruction 0) 2 ∧
    (∀ i ∈ ([.ecall, .ebreak, .cEbreak] : List Instr), ∀ t, exec i s = .next t → t.instret = s.instret) ∧
    (s.allFatal → ∀ p ∈ ([(.ecall, .environmentCall), (.ebreak, .breakpoint s.pc), (.cEbreak, .breakpoint s.pc),
        (.cIllegal, .illegalInstruction 0)] : List (Instr × Exc)),
      exec p.1 s = .next { s with halted := some { cause := p.2, pc := s.pc } })

/-- ADD, SUB, SLT, SLTU, AND, OR, XOR, SLL, SRL, SRA: each has its R-type encoding, and for every state and every operands
it completes, writes its result of XLEN bits to rd (nothing where rd is x0), retires 4 bytes on, and changes nothing
else. The shift amount is x[rs2] modulo XLEN, its low log2(XLEN) bits. (ADD's rule R240 is not cited: its remark on
NTL hints is another statement.) (R241, R242, R243, R244, R245, R246, R247, R248, R249) -/
def Obligations.RegisterArithmeticWritesItsResult : Prop :=
  ∀ (s : State) (rd rs1 rs2 : Reg),
    let a := s.readX s.cfg.bits rs1
    let b := s.readX s.cfg.bits rs2
    let sh := b.toNat % s.cfg.bits
    WritesX (.add rd rs1 rs2) s 4 rd (a + b) ∧
    WritesX (.sub rd rs1 rs2) s 4 rd (a - b) ∧
    WritesX (.slt rd rs1 rs2) s 4 rd (if a.toInt < b.toInt then 1 else 0) ∧
    WritesX (.sltu rd rs1 rs2) s 4 rd (if a.toNat < b.toNat then 1 else 0) ∧
    WritesX (.and rd rs1 rs2) s 4 rd (a &&& b) ∧
    WritesX (.or rd rs1 rs2) s 4 rd (a ||| b) ∧
    WritesX (.xor rd rs1 rs2) s 4 rd (a ^^^ b) ∧
    WritesX (.sll rd rs1 rs2) s 4 rd (a <<< sh) ∧
    WritesX (.srl rd rs1 rs2) s 4 rd (a >>> sh) ∧
    WritesX (.sra rd rs1 rs2) s 4 rd (BitVec.ofInt s.cfg.bits (a.toInt / 2 ^ sh)) ∧
    encode (.add rd rs1 rs2) = 0b0000000#7 ++ rs2 ++ rs1 ++ 0b000#3 ++ rd ++ 0b0110011#7 ∧
    encode (.sub rd rs1 rs2) = 0b0100000#7 ++ rs2 ++ rs1 ++ 0b000#3 ++ rd ++ 0b0110011#7 ∧
    encode (.slt rd rs1 rs2) = 0b0000000#7 ++ rs2 ++ rs1 ++ 0b010#3 ++ rd ++ 0b0110011#7 ∧
    encode (.sltu rd rs1 rs2) = 0b0000000#7 ++ rs2 ++ rs1 ++ 0b011#3 ++ rd ++ 0b0110011#7 ∧
    encode (.and rd rs1 rs2) = 0b0000000#7 ++ rs2 ++ rs1 ++ 0b111#3 ++ rd ++ 0b0110011#7 ∧
    encode (.or rd rs1 rs2) = 0b0000000#7 ++ rs2 ++ rs1 ++ 0b110#3 ++ rd ++ 0b0110011#7 ∧
    encode (.xor rd rs1 rs2) = 0b0000000#7 ++ rs2 ++ rs1 ++ 0b100#3 ++ rd ++ 0b0110011#7 ∧
    encode (.sll rd rs1 rs2) = 0b0000000#7 ++ rs2 ++ rs1 ++ 0b001#3 ++ rd ++ 0b0110011#7 ∧
    encode (.srl rd rs1 rs2) = 0b0000000#7 ++ rs2 ++ rs1 ++ 0b101#3 ++ rd ++ 0b0110011#7 ∧
    encode (.sra rd rs1 rs2) = 0b0100000#7 ++ rs2 ++ rs1 ++ 0b101#3 ++ rd ++ 0b0110011#7

/-- ADDI, SLTI, SLTIU, XORI, ORI, ANDI with the sign-extended 12-bit immediate; LUI and AUIPC with the 20 bits above 12
zeros, sign-extended, AUIPC adding pc: each completes for every state and operands, writes its result to rd, and
changes nothing else. The three shifts by an immediate of 5, 6 or 7 bits complete for every state and operands, write
the shifted register to rd (SRAI the floor of the signed quotient by the power of two), and change nothing else.
(40_rv32i.md, 42_rv64i_rv128i.md) -/
def Obligations.ImmediateInstructionsWriteTheirResult : Prop :=
  (∀ (s : State) (rd rs1 : Reg) (imm : BitVec 12) (imm20 : BitVec 20),
    let a := s.readX s.cfg.bits rs1
    let b := imm.signExtend s.cfg.bits
    WritesX (.addi rd rs1 imm) s 4 rd (a + b) ∧
    WritesX (.slti rd rs1 imm) s 4 rd (if a.toInt < b.toInt then 1 else 0) ∧
    WritesX (.sltiu rd rs1 imm) s 4 rd (if a.toNat < b.toNat then 1 else 0) ∧
    WritesX (.xori rd rs1 imm) s 4 rd (a ^^^ b) ∧
    WritesX (.ori rd rs1 imm) s 4 rd (a ||| b) ∧
    WritesX (.andi rd rs1 imm) s 4 rd (a &&& b) ∧
    WritesX (.lui rd imm20) s 4 rd (BitVec.ofInt s.cfg.bits (imm20.toInt * 2 ^ 12)) ∧
    WritesX (.auipc rd imm20) s 4 rd (s.readPc s.cfg.bits + BitVec.ofInt s.cfg.bits (imm20.toInt * 2 ^ 12))) ∧
  (∀ (s : State) (rd rs1 : Reg) (s32 : BitVec 5) (s64 : BitVec 6) (s128 : BitVec 7),
    let a := s.readX s.cfg.bits rs1
    WritesX (.slliRv32 rd rs1 s32) s 4 rd (a <<< s32.toNat) ∧
    WritesX (.srliRv32 rd rs1 s32) s 4 rd (a >>> s32.toNat) ∧
    WritesX (.sraiRv32 rd rs1 s32) s 4 rd (BitVec.ofInt s.cfg.bits (a.toInt / 2 ^ s32.toNat)) ∧
    WritesX (.slliRv64 rd rs1 s64) s 4 rd (a <<< s64.toNat) ∧
    WritesX (.srliRv64 rd rs1 s64) s 4 rd (a >>> s64.toNat) ∧
    WritesX (.sraiRv64 rd rs1 s64) s 4 rd (BitVec.ofInt s.cfg.bits (a.toInt / 2 ^ s64.toNat)) ∧
    WritesX (.slliRv128 rd rs1 s128) s 4 rd (a <<< s128.toNat) ∧
    WritesX (.srliRv128 rd rs1 s128) s 4 rd (a >>> s128.toNat) ∧
    WritesX (.sraiRv128 rd rs1 s128) s 4 rd (BitVec.ofInt s.cfg.bits (a.toInt / 2 ^ s128.toNat)))

/-- ADDIW, SLLIW, SRLIW, SRAIW, ADDW, SUBW, SLLW, SRLW, SRAW: each completes for every state and operands, its result
depends on the low 32 bits of its register operands alone, and what it writes is a 32-bit value sign-extended to XLEN;
nothing else changes; and none of them is well formed where XLEN is 32. (R311) -/
def Obligations.WordArithmeticSignExtends32Bits : Prop :=
  ∀ (s : State) (rd rs1 rs2 : Reg) (imm : BitVec 12) (shamt : BitVec 5),
    let a := s.readX 32 rs1
    let b := s.readX 32 rs2
    WritesX (.addiw rd rs1 imm) s 4 rd ((a + imm.signExtend 32).signExtend s.cfg.bits) ∧
    WritesX (.slliw rd rs1 shamt) s 4 rd ((a <<< shamt.toNat).signExtend s.cfg.bits) ∧
    WritesX (.srliw rd rs1 shamt) s 4 rd ((a >>> shamt.toNat).signExtend s.cfg.bits) ∧
    WritesX (.sraiw rd rs1 shamt) s 4 rd ((BitVec.ofInt 32 (a.toInt / 2 ^ shamt.toNat)).signExtend s.cfg.bits) ∧
    WritesX (.addw rd rs1 rs2) s 4 rd ((a + b).signExtend s.cfg.bits) ∧
    WritesX (.subw rd rs1 rs2) s 4 rd ((a - b).signExtend s.cfg.bits) ∧
    WritesX (.sllw rd rs1 rs2) s 4 rd ((a <<< (b.toNat % 32)).signExtend s.cfg.bits) ∧
    WritesX (.srlw rd rs1 rs2) s 4 rd ((a >>> (b.toNat % 32)).signExtend s.cfg.bits) ∧
    WritesX (.sraw rd rs1 rs2) s 4 rd ((BitVec.ofInt 32 (a.toInt / 2 ^ (b.toNat % 32))).signExtend s.cfg.bits) ∧
    (∀ c : Config, c.xlen = .rv32 → ∀ i ∈ ([.addiw rd rs1 imm, .slliw rd rs1 shamt, .srliw rd rs1 shamt, .sraiw rd rs1 shamt,
      .addw rd rs1 rs2, .subw rd rs1 rs2, .sllw rd rs1 rs2, .srlw rd rs1 rs2, .sraw rd rs1 rs2] : List Instr), i.wf c = false)

/-- The products are those of the exact integers, low half or high half; the quotient rounds toward zero and the remainder
has the sign of the dividend; a zero divisor gives all ones and the dividend. Each completes for every state and
operands, writes rd, and changes nothing else. Each completes for every state and operands, computes on the low 32
bits of its operands as the instruction without W does on XLEN bits, writes the 32-bit result sign-extended to rd, and
changes nothing else. (43_m_a.md, 42_rv64i_rv128i.md) -/
def Obligations.MultiplyAndDivideWriteTheirResult : Prop :=
  (∀ (s : State) (rd rs1 rs2 : Reg),
    let n := s.cfg.bits
    let a := s.readX s.cfg.bits rs1
    let b := s.readX s.cfg.bits rs2
    WritesX (.mul rd rs1 rs2) s 4 rd (BitVec.ofInt n (a.toInt * b.toInt)) ∧
    WritesX (.mulh rd rs1 rs2) s 4 rd (BitVec.ofInt n (a.toInt * b.toInt / 2 ^ n)) ∧
    WritesX (.mulhsu rd rs1 rs2) s 4 rd (BitVec.ofInt n (a.toInt * b.toNat / 2 ^ n)) ∧
    WritesX (.mulhu rd rs1 rs2) s 4 rd (BitVec.ofNat n (a.toNat * b.toNat / 2 ^ n)) ∧
    WritesX (.div rd rs1 rs2) s 4 rd (if b = 0 then BitVec.allOnes n else BitVec.ofInt n (a.toInt.tdiv b.toInt)) ∧
    WritesX (.divu rd rs1 rs2) s 4 rd (if b = 0 then BitVec.allOnes n else BitVec.ofNat n (a.toNat / b.toNat)) ∧
    WritesX (.rem rd rs1 rs2) s 4 rd (if b = 0 then a else BitVec.ofInt n (a.toInt.tmod b.toInt)) ∧
    WritesX (.remu rd rs1 rs2) s 4 rd (if b = 0 then a else BitVec.ofNat n (a.toNat % b.toNat))) ∧
  (∀ (s : State) (rd rs1 rs2 : Reg),
    let a := s.readX 32 rs1
    let b := s.readX 32 rs2
    WritesX (.mulw rd rs1 rs2) s 4 rd ((BitVec.ofInt 32 (a.toInt * b.toInt)).signExtend s.cfg.bits) ∧
    WritesX (.divw rd rs1 rs2) s 4 rd ((if b = 0 then BitVec.allOnes 32 else BitVec.ofInt 32 (a.toInt.tdiv b.toInt) : BitVec 32).signExtend s.cfg.bits) ∧
    WritesX (.divuw rd rs1 rs2) s 4 rd ((if b = 0 then BitVec.allOnes 32 else BitVec.ofNat 32 (a.toNat / b.toNat) : BitVec 32).signExtend s.cfg.bits) ∧
    WritesX (.remw rd rs1 rs2) s 4 rd ((if b = 0 then a else BitVec.ofInt 32 (a.toInt.tmod b.toInt) : BitVec 32).signExtend s.cfg.bits) ∧
    WritesX (.remuw rd rs1 rs2) s 4 rd ((if b = 0 then a else BitVec.ofNat 32 (a.toNat % b.toNat) : BitVec 32).signExtend s.cfg.bits))

/-- With L = XLEN for DIV[U] and REM[U] and L = 32 for the W forms: a divisor whose low L bits are 0 gives a quotient of
all ones and the dividend as remainder; the most negative dividend by -1 gives the dividend as quotient and 0 as
remainder. None raises. (R364) -/
def Obligations.DivisionByZeroAndOverflow : Prop :=
  ∀ (s : State) (rd rs1 rs2 : Reg),
    let a := s.readX s.cfg.bits rs1
    let b := s.readX s.cfg.bits rs2
    let aw := s.readX 32 rs1
    let bw := s.readX 32 rs2
    (b = 0 → WritesX (.div rd rs1 rs2) s 4 rd (-1) ∧ WritesX (.divu rd rs1 rs2) s 4 rd (BitVec.ofNat _ (2 ^ s.cfg.bits - 1)) ∧
      WritesX (.rem rd rs1 rs2) s 4 rd a ∧ WritesX (.remu rd rs1 rs2) s 4 rd a) ∧
    (a = BitVec.intMin s.cfg.bits → b = -1 → WritesX (.div rd rs1 rs2) s 4 rd a ∧ WritesX (.rem rd rs1 rs2) s 4 rd 0) ∧
    (bw = 0 → WritesX (.divw rd rs1 rs2) s 4 rd (-1) ∧
      WritesX (.divuw rd rs1 rs2) s 4 rd ((BitVec.ofNat 32 (2 ^ 32 - 1)).signExtend s.cfg.bits) ∧
      WritesX (.remw rd rs1 rs2) s 4 rd (aw.signExtend s.cfg.bits) ∧
      WritesX (.remuw rd rs1 rs2) s 4 rd (aw.signExtend s.cfg.bits)) ∧
    (aw = BitVec.intMin 32 → bw = -1 → WritesX (.divw rd rs1 rs2) s 4 rd (aw.signExtend s.cfg.bits) ∧
      WritesX (.remw rd rs1 rs2) s 4 rd 0)

/-- C.ADDI4SPN, C.ADDI, C.ADDIW, C.LI, C.LUI, C.ADDI16SP, C.ANDI, C.SUB, C.XOR, C.OR, C.AND, C.SUBW, C.ADDW, C.MV, C.ADD,
and where XLEN is not 128 C.SRLI, C.SRAI, C.SLLI with the amount as encoded, and on RV128 C.SLLI, C.SRLI, C.SRAI with
64 for an amount of 0 (the right shifts otherwise with the amount sign-extended to 7 bits): each completes for every
state and operands, writes its result to its register, goes on 2 bytes later, and changes nothing else. C.ZEXT.B,
C.SEXT.B, C.ZEXT.H, C.SEXT.H, C.ZEXT.W, C.NOT and C.MUL complete for every state and operands, write their result to
x8..x15, go on 2 bytes later, and change nothing else. (47_c_zimop_zcmop.md, 49_zc.md) -/
def Obligations.CompressedArithmeticWritesItsResult : Prop :=
  (∀ (s : State) (rd rs2 : Reg) (rdp rs2p : Reg3) (imm nzimm shamt : BitVec 6) (nzuimm : BitVec 8),
    let n := s.cfg.bits
    let a := s.readX s.cfg.bits (wideReg rdp)
    let right := if s.cfg.xlen = .rv128 then (if shamt = 0 then 64 else (shamt.signExtend 7).toNat) else shamt.toNat
    let left := if s.cfg.xlen = .rv128 ∧ shamt = 0 then 64 else shamt.toNat
    WritesX (.cAddi4spn rdp nzuimm) s 2 (wideReg rdp) (s.readX n 2 + BitVec.ofNat n (nzuimm.toNat * 4)) ∧
    WritesX (.cAddi rd imm) s 2 rd (s.readX n rd + imm.signExtend n) ∧
    WritesX (.cAddiw rd imm) s 2 rd ((s.readX 32 rd + imm.signExtend 32).signExtend n) ∧
    WritesX (.cLi rd imm) s 2 rd (imm.signExtend n) ∧
    WritesX (.cLui rd imm) s 2 rd (BitVec.ofInt n (imm.toInt * 2 ^ 12)) ∧
    WritesX (.cAddi16sp nzimm) s 2 2 (s.readX n 2 + BitVec.ofInt n (nzimm.toInt * 16)) ∧
    WritesX (.cAndi rdp imm) s 2 (wideReg rdp) (s.readX n (wideReg rdp) &&& imm.signExtend n) ∧
    WritesX (.cSub rdp rs2p) s 2 (wideReg rdp) (s.readX n (wideReg rdp) - s.readX n (wideReg rs2p)) ∧
    WritesX (.cXor rdp rs2p) s 2 (wideReg rdp) (s.readX n (wideReg rdp) ^^^ s.readX n (wideReg rs2p)) ∧
    WritesX (.cOr rdp rs2p) s 2 (wideReg rdp) (s.readX n (wideReg rdp) ||| s.readX n (wideReg rs2p)) ∧
    WritesX (.cAnd rdp rs2p) s 2 (wideReg rdp) (s.readX n (wideReg rdp) &&& s.readX n (wideReg rs2p)) ∧
    WritesX (.cSubw rdp rs2p) s 2 (wideReg rdp) ((s.readX 32 (wideReg rdp) - s.readX 32 (wideReg rs2p)).signExtend n) ∧
    WritesX (.cAddw rdp rs2p) s 2 (wideReg rdp) ((s.readX 32 (wideReg rdp) + s.readX 32 (wideReg rs2p)).signExtend n) ∧
    WritesX (.cMv rd rs2) s 2 rd (s.readX n rs2) ∧
    WritesX (.cAdd rd rs2) s 2 rd (s.readX n rd + s.readX n rs2) ∧
    WritesX (.cSrli rdp shamt) s 2 (wideReg rdp) (a >>> right) ∧
    WritesX (.cSrai rdp shamt) s 2 (wideReg rdp) (BitVec.ofInt n (a.toInt / 2 ^ right)) ∧
    WritesX (.cSlli rd shamt) s 2 rd (s.readX n rd <<< left)) ∧
  (∀ (s : State) (rdp rs2p : Reg3),
    let n := s.cfg.bits
    let r := wideReg rdp
    WritesX (.cZextB rdp) s 2 r ((s.readX 8 r).setWidth n) ∧
    WritesX (.cSextB rdp) s 2 r ((s.readX 8 r).signExtend n) ∧
    WritesX (.cZextH rdp) s 2 r ((s.readX 16 r).setWidth n) ∧
    WritesX (.cSextH rdp) s 2 r ((s.readX 16 r).signExtend n) ∧
    WritesX (.cZextW rdp) s 2 r ((s.readX 32 r).setWidth n) ∧
    WritesX (.cNot rdp) s 2 r (~~~(s.readX n r)) ∧
    WritesX (.cMul rdp rs2p) s 2 r (BitVec.ofNat n ((s.readX n r).toNat * (s.readX n (wideReg rs2p)).toNat)))

/-- Every MOP.R.n and MOP.RR.n completes for every state and operands, writes 0 to x[rd], retires 4 bytes on, and changes
nothing else. PAUSE, the four NTL hints, FENCE, FENCE.TSO and the three prefetches (4 bytes), C.NOP, the four C.NTL
hints and the eight C.MOP (2 bytes) complete for every state and every field, retire, and change nothing else.
(47_c_zimop_zcmop.md, 41_zifencei_hints_rv32e.md, 40_rv32i.md, 48_zfinx_zfa_cmo_zawrs.md) -/
def Obligations.MayBeOperationsHintsAndFences : Prop :=
  (∀ (s : State) (rd rs1 rs2 : Reg), ∀ i ∈ ([
      .mopR0 rd rs1, .mopR1 rd rs1, .mopR2 rd rs1, .mopR3 rd rs1, .mopR4 rd rs1, .mopR5 rd rs1, .mopR6 rd rs1, .mopR7
      rd rs1, .mopR8 rd rs1, .mopR9 rd rs1, .mopR10 rd rs1, .mopR11 rd rs1, .mopR12 rd rs1, .mopR13 rd rs1, .mopR14 rd
      rs1, .mopR15 rd rs1, .mopR16 rd rs1, .mopR17 rd rs1, .mopR18 rd rs1, .mopR19 rd rs1, .mopR20 rd rs1, .mopR21 rd
      rs1, .mopR22 rd rs1, .mopR23 rd rs1, .mopR24 rd rs1, .mopR25 rd rs1, .mopR26 rd rs1, .mopR27 rd rs1, .mopR28 rd
      rs1, .mopR29 rd rs1, .mopR30 rd rs1, .mopR31 rd rs1, .mopRr0 rd rs1 rs2, .mopRr1 rd rs1 rs2, .mopRr2 rd rs1 rs2,
      .mopRr3 rd rs1 rs2, .mopRr4 rd rs1 rs2, .mopRr5 rd rs1 rs2, .mopRr6 rd rs1 rs2, .mopRr7 rd rs1 rs2] : List Instr), WritesX i s 4 rd 0) ∧
  (∀ (s : State) (rs1 rd : Reg) (fm pred succ : BitVec 4) (off : BitVec 7) (imm : BitVec 6),
    (∀ i ∈ ([
      .pause, .ntlP1, .ntlPall, .ntlS1, .ntlAll, .fence fm pred succ rs1 rd, .fenceTso rs1 rd, .prefetchI rs1 off,
      .prefetchR rs1 off, .prefetchW rs1 off] : List Instr), NoEffect i s 4) ∧
    (∀ i ∈ ([
      .cNop imm, .cNtlP1, .cNtlPall, .cNtlS1, .cNtlAll, .cMop1, .cMop3, .cMop5, .cMop7, .cMop9, .cMop11, .cMop13,
      .cMop15] : List Instr), NoEffect i s 2))

/-- FENCE.I completes for every state and every field, retires, changes no register and no memory, and in the state
after it a fetch of any parcel returns the two bytes of memory at its addresses, whatever was stored before. In main
memory these are the bytes that loads see; in a device a load sees the device's free answer and a fetch the byte of
memory (assumption log 9, DESIGN CHOICE). (41_zifencei_hints_rv32e.md, 20_memory.md, 70_reset_and_hazards.md) -/
def Obligations.FenceISynchronisesTheFetch : Prop :=
  ∀ (s : State) (imm : BitVec 12) (rs1 rd : Reg), ∃ t, exec (.fenceI imm rs1 rd) s = .next t ∧
    s.RetiredTo t (s.after 4) ∧ s.Keeps t [] [] [] ∧ t.fflags = s.fflags ∧ t.reservation = s.reservation ∧
    t.ioTrace = s.ioTrace ∧ t.stale = [] ∧
    ∀ a, t.parcelBytes a = [t.byte (a % 2 ^ t.cfg.bits), t.byte ((a + 1) % 2 ^ t.cfg.bits)] ∧
      ((∀ b ∈ span t.cfg.bits a 2, t.cfg.isIo b = false) → t.parcelBytes a = t.loadBytes a 2)

/-- Where IALIGN is 16 or the target is a multiple of 4: JAL goes to pc plus the offset, JALR to x[rs1] plus the immediate
with bit 0 cleared (computed from the old x[rs1]), the compressed ones likewise; the address after the instruction (pc
+ 4, or pc + 2) goes to the link register; nothing else changes. (40_rv32i.md, 47_c_zimop_zcmop.md) -/
def Obligations.JumpsGoToTheirTarget : Prop :=
  ∀ (s : State) (rd rs1 : Reg) (off : BitVec 20) (imm : BitVec 12) (coff : BitVec 11),
    let jal := s.readPc s.cfg.bits + BitVec.ofInt s.cfg.bits (off.toInt * 2)
    let jalr := (s.readX s.cfg.bits rs1 + imm.signExtend s.cfg.bits) &&& ~~~1
    let cj := s.readPc s.cfg.bits + BitVec.ofInt s.cfg.bits (coff.toInt * 2)
    let cjr := s.readX s.cfg.bits rs1 &&& ~~~1
    let ok := fun t : BitVec s.cfg.bits => s.cfg.ialign16 = true ∨ t.toNat % 4 = 0
    (ok jal → JumpsTo (.jal rd off) s 4 rd jal) ∧ (ok jalr → JumpsTo (.jalr rd rs1 imm) s 4 rd jalr) ∧
    (ok cj → JumpsTo (.cJ coff) s 2 0 cj) ∧ (ok cj → JumpsTo (.cJal coff) s 2 1 cj) ∧
    (ok cjr → JumpsTo (.cJr rs1) s 2 0 cjr) ∧ (ok cjr → JumpsTo (.cJalr rs1) s 2 1 cjr)

/-- BEQ, BNE, BLT, BGE, BLTU, BGEU, C.BEQZ, C.BNEZ complete unless taken to a target that is not IALIGN-aligned: where the
condition on the registers holds they go to pc plus the offset, else they fall through (even where the target would be
misaligned); no register and no memory changes. (40_rv32i.md, 47_c_zimop_zcmop.md) -/
def Obligations.BranchesTakenAndNotTaken : Prop :=
  ∀ (s : State) (rs1 rs2 : Reg) (rs1p : Reg3) (off : BitVec 12) (coff : BitVec 8),
    let a := s.readX s.cfg.bits rs1
    let b := s.readX s.cfg.bits rs2
    let z := s.readX s.cfg.bits (wideReg rs1p)
    let t := s.readPc s.cfg.bits + BitVec.ofInt s.cfg.bits (off.toInt * 2)
    let ct := s.readPc s.cfg.bits + BitVec.ofInt s.cfg.bits (coff.toInt * 2)
    let ok := fun (taken : Prop) (u : BitVec s.cfg.bits) => taken → s.cfg.ialign16 = true ∨ u.toNat % 4 = 0
    (ok (a = b) t → BranchesTo (.beq rs1 rs2 off) s 4 (a = b) t) ∧
    (ok (a ≠ b) t → BranchesTo (.bne rs1 rs2 off) s 4 (a ≠ b) t) ∧
    (ok (a.toInt < b.toInt) t → BranchesTo (.blt rs1 rs2 off) s 4 (a.toInt < b.toInt) t) ∧
    (ok (b.toInt ≤ a.toInt) t → BranchesTo (.bge rs1 rs2 off) s 4 (b.toInt ≤ a.toInt) t) ∧
    (ok (a.toNat < b.toNat) t → BranchesTo (.bltu rs1 rs2 off) s 4 (a.toNat < b.toNat) t) ∧
    (ok (b.toNat ≤ a.toNat) t → BranchesTo (.bgeu rs1 rs2 off) s 4 (b.toNat ≤ a.toNat) t) ∧
    (ok (z = 0) ct → BranchesTo (.cBeqz rs1p coff) s 2 (z = 0) ct) ∧
    (ok (z ≠ 0) ct → BranchesTo (.cBnez rs1p coff) s 2 (z ≠ 0) ct)

/-- Where IALIGN is 32 and the target is not a multiple of 4, JAL, JALR and a taken branch raise
InstructionAddressMisaligned with the target, in the state before the instruction: no link register is written. That
none is written is an inference of the spec, marked [derived] in 40_rv32i.md R260: 'this spec also does not write the
link register (the source does not say so explicitly; it follows from the exception being raised "on" the instruction,
00_scope.md rule R14)'. (40_rv32i.md, 60_exceptions.md) -/
def Obligations.MisalignedTargetsRaiseOnTheTransfer : Prop :=
  ∀ (s : State) (rd rs1 rs2 : Reg) (off : BitVec 20) (imm boff : BitVec 12), s.cfg.ialign16 = false →
    let a := s.readX s.cfg.bits rs1
    let b := s.readX s.cfg.bits rs2
    let jal := s.readPc s.cfg.bits + BitVec.ofInt s.cfg.bits (off.toInt * 2)
    let jalr := (s.readX s.cfg.bits rs1 + imm.signExtend s.cfg.bits) &&& ~~~1
    let t := s.readPc s.cfg.bits + BitVec.ofInt s.cfg.bits (boff.toInt * 2)
    (jal.toNat % 4 ≠ 0 → Raises (.jal rd off) s (.instructionAddressMisaligned (jal.setWidth 128)) 4) ∧
    (jalr.toNat % 4 ≠ 0 → Raises (.jalr rd rs1 imm) s (.instructionAddressMisaligned (jalr.setWidth 128)) 4) ∧
    (t.toNat % 4 ≠ 0 →
      ((a = b) → Raises (.beq rs1 rs2 boff) s (.instructionAddressMisaligned (t.setWidth 128)) 4) ∧
      ((a ≠ b) → Raises (.bne rs1 rs2 boff) s (.instructionAddressMisaligned (t.setWidth 128)) 4) ∧
      ((a.toInt < b.toInt) → Raises (.blt rs1 rs2 boff) s (.instructionAddressMisaligned (t.setWidth 128)) 4) ∧
      ((b.toInt ≤ a.toInt) → Raises (.bge rs1 rs2 boff) s (.instructionAddressMisaligned (t.setWidth 128)) 4) ∧
      ((a.toNat < b.toNat) → Raises (.bltu rs1 rs2 boff) s (.instructionAddressMisaligned (t.setWidth 128)) 4) ∧
      ((b.toNat ≤ a.toNat) → Raises (.bgeu rs1 rs2 boff) s (.instructionAddressMisaligned (t.setWidth 128)) 4))

/-- LB, LH, LW, LBU, LHU, LD, LWU, C.LW, C.LD, C.LQ, C.LWSP, C.LDSP, C.LQSP, C.LBU, C.LHU, C.LH: where the bytes at
the effective address (modulo 2^XLEN) may be loaded at that width, and nothing is raised for the alignment (the access
is aligned, misaligned accesses are invisible, one granule holds it, or the environment completes it), the load
completes, x[rd] takes the value of the bytes in the byte order of data, sign- or zero-extended, and nothing else
changes. A byte that lies in a device is the device's free answer, and the access is then appended to the trace of
device accesses, whose form is the model's (assumption log 9). (40_rv32i.md, 42_rv64i_rv128i.md, 47_c_zimop_zcmop.md,
49_zc.md, 20_memory.md) -/
def Obligations.IntegerLoadsExtendTheBytes : Prop :=
  ∀ (s : State) (rd rs1 : Reg) (imm : BitVec 12) (rdp rs1p : Reg3),
    (∀ (uimm : BitVec 5),
    LoadsX (.cLq rdp rs1p uimm) s 2 16 true (wideReg rdp)
      (s.readX s.cfg.bits (wideReg rs1p) + BitVec.ofNat s.cfg.bits (uimm.toNat * 16)).toNat ∧
    LoadsX (.cLw rdp rs1p uimm) s 2 4 true (wideReg rdp)
      (s.readX s.cfg.bits (wideReg rs1p) + BitVec.ofNat s.cfg.bits (uimm.toNat * 4)).toNat ∧
    LoadsX (.cLd rdp rs1p uimm) s 2 8 true (wideReg rdp)
      (s.readX s.cfg.bits (wideReg rs1p) + BitVec.ofNat s.cfg.bits (uimm.toNat * 8)).toNat) ∧
    (∀ (uimm : BitVec 6),
    LoadsX (.cLqsp rd uimm) s 2 16 true rd
      (s.readX s.cfg.bits 2 + BitVec.ofNat s.cfg.bits (uimm.toNat * 16)).toNat ∧
    LoadsX (.cLwsp rd uimm) s 2 4 true rd
      (s.readX s.cfg.bits 2 + BitVec.ofNat s.cfg.bits (uimm.toNat * 4)).toNat ∧
    LoadsX (.cLdsp rd uimm) s 2 8 true rd
      (s.readX s.cfg.bits 2 + BitVec.ofNat s.cfg.bits (uimm.toNat * 8)).toNat) ∧
    (∀ (uimm : BitVec 2),
    LoadsX (.cLbu rdp rs1p uimm) s 2 1 false (wideReg rdp)
      (s.readX s.cfg.bits (wideReg rs1p) + BitVec.ofNat s.cfg.bits (uimm.toNat * 1)).toNat) ∧
    (∀ (uimm : BitVec 1),
    LoadsX (.cLhu rdp rs1p uimm) s 2 2 false (wideReg rdp)
      (s.readX s.cfg.bits (wideReg rs1p) + BitVec.ofNat s.cfg.bits (uimm.toNat * 2)).toNat ∧
    LoadsX (.cLh rdp rs1p uimm) s 2 2 true (wideReg rdp)
      (s.readX s.cfg.bits (wideReg rs1p) + BitVec.ofNat s.cfg.bits (uimm.toNat * 2)).toNat) ∧
    LoadsX (.lb rd rs1 imm) s 4 1 true rd
      (s.readX s.cfg.bits rs1 + imm.signExtend s.cfg.bits).toNat ∧
    LoadsX (.lh rd rs1 imm) s 4 2 true rd
      (s.readX s.cfg.bits rs1 + imm.signExtend s.cfg.bits).toNat ∧
    LoadsX (.lw rd rs1 imm) s 4 4 true rd
      (s.readX s.cfg.bits rs1 + imm.signExtend s.cfg.bits).toNat ∧
    LoadsX (.lbu rd rs1 imm) s 4 1 false rd
      (s.readX s.cfg.bits rs1 + imm.signExtend s.cfg.bits).toNat ∧
    LoadsX (.lhu rd rs1 imm) s 4 2 false rd
      (s.readX s.cfg.bits rs1 + imm.signExtend s.cfg.bits).toNat ∧
    LoadsX (.ld rd rs1 imm) s 4 8 true rd
      (s.readX s.cfg.bits rs1 + imm.signExtend s.cfg.bits).toNat ∧
    LoadsX (.lwu rd rs1 imm) s 4 4 false rd
      (s.readX s.cfg.bits rs1 + imm.signExtend s.cfg.bits).toNat

/-- SB, SH, SW, SD, C.SW, C.SD, C.SQ, C.SWSP, C.SDSP, C.SQSP, C.SB, C.SH: from canonical memory, where the bytes at
the effective address may be stored to at that width, and nothing is raised for the alignment, the store completes,
the bytes take the low bytes of x[rs2] in the byte order of data, and every other byte, every register and the
reservation are unchanged. A byte that lies in a device changes no memory, and the access is then appended with its
bytes to the trace of device accesses, whose form is the model's (assumption log 9). (40_rv32i.md, 42_rv64i_rv128i.md,
47_c_zimop_zcmop.md, 49_zc.md, 20_memory.md) -/
def Obligations.IntegerStoresWriteTheirBytes : Prop :=
  ∀ (s : State) (rs1 rs2 : Reg) (imm : BitVec 12) (rs1p rs2p : Reg3),
    (∀ (uimm : BitVec 5),
    StoresX (.cSq rs1p rs2p uimm) s 2 true 16
      (s.readX s.cfg.bits (wideReg rs1p) + BitVec.ofNat s.cfg.bits (uimm.toNat * 16)).toNat (s.readX s.cfg.bits (wideReg rs2p)).toNat ∧
    StoresX (.cSw rs1p rs2p uimm) s 2 true 4
      (s.readX s.cfg.bits (wideReg rs1p) + BitVec.ofNat s.cfg.bits (uimm.toNat * 4)).toNat (s.readX s.cfg.bits (wideReg rs2p)).toNat ∧
    StoresX (.cSd rs1p rs2p uimm) s 2 true 8
      (s.readX s.cfg.bits (wideReg rs1p) + BitVec.ofNat s.cfg.bits (uimm.toNat * 8)).toNat (s.readX s.cfg.bits (wideReg rs2p)).toNat) ∧
    (∀ (uimm : BitVec 6),
    StoresX (.cSqsp rs2 uimm) s 2 true 16
      (s.readX s.cfg.bits 2 + BitVec.ofNat s.cfg.bits (uimm.toNat * 16)).toNat (s.readX s.cfg.bits rs2).toNat ∧
    StoresX (.cSwsp rs2 uimm) s 2 true 4
      (s.readX s.cfg.bits 2 + BitVec.ofNat s.cfg.bits (uimm.toNat * 4)).toNat (s.readX s.cfg.bits rs2).toNat ∧
    StoresX (.cSdsp rs2 uimm) s 2 true 8
      (s.readX s.cfg.bits 2 + BitVec.ofNat s.cfg.bits (uimm.toNat * 8)).toNat (s.readX s.cfg.bits rs2).toNat) ∧
    (∀ (uimm : BitVec 2),
    StoresX (.cSb rs1p rs2p uimm) s 2 true 1
      (s.readX s.cfg.bits (wideReg rs1p) + BitVec.ofNat s.cfg.bits (uimm.toNat * 1)).toNat (s.readX s.cfg.bits (wideReg rs2p)).toNat) ∧
    (∀ (uimm : BitVec 1),
    StoresX (.cSh rs1p rs2p uimm) s 2 true 2
      (s.readX s.cfg.bits (wideReg rs1p) + BitVec.ofNat s.cfg.bits (uimm.toNat * 2)).toNat (s.readX s.cfg.bits (wideReg rs2p)).toNat) ∧
    StoresX (.sb rs1 rs2 imm) s 4 true 1
      (s.readX s.cfg.bits rs1 + imm.signExtend s.cfg.bits).toNat (s.readX s.cfg.bits rs2).toNat ∧
    StoresX (.sh rs1 rs2 imm) s 4 true 2
      (s.readX s.cfg.bits rs1 + imm.signExtend s.cfg.bits).toNat (s.readX s.cfg.bits rs2).toNat ∧
    StoresX (.sw rs1 rs2 imm) s 4 true 4
      (s.readX s.cfg.bits rs1 + imm.signExtend s.cfg.bits).toNat (s.readX s.cfg.bits rs2).toNat ∧
    StoresX (.sd rs1 rs2 imm) s 4 true 8
      (s.readX s.cfg.bits rs1 + imm.signExtend s.cfg.bits).toNat (s.readX s.cfg.bits rs2).toNat

/-- FLH, FLW, FLD, FLQ, C.FLW, C.FLD, C.FLWSP, C.FLDSP: where the bytes may be loaded at that width and nothing is
raised for the alignment (a granule relaxes the formats S, D and Q of at most XLEN bits), the load completes, f[rd]
takes the bytes as they stand with ones above them up to FLEN, and nothing else changes (no flag either). FSH, FSW,
FSD, FSQ, C.FSW, C.FSD, C.FSWSP, C.FSDSP: from canonical memory, where the bytes may be stored to and nothing is
raised for the alignment, the store completes, the bytes at the effective address take the low bytes of f[rs2], and
every other byte and every register are unchanged. Bytes that lie in a device are the device's, and the access is then
recorded (assumption log 9). (45_f.md, 46_d_q_zfh.md, 47_c_zimop_zcmop.md, 10_state.md) -/
def Obligations.FloatLoadsAndStoresMoveBytes : Prop :=
  (∀ (s : State) (rd rs1 : Reg) (imm : BitVec 12) (rdp rs1p : Reg3),
    (∀ (uimm : BitVec 5),
    LoadsF (.cFld rdp rs1p uimm) s 2 8 (wideReg rdp)
      (s.readX s.cfg.bits (wideReg rs1p) + BitVec.ofNat s.cfg.bits (uimm.toNat * 8)).toNat ∧
    LoadsF (.cFlw rdp rs1p uimm) s 2 4 (wideReg rdp)
      (s.readX s.cfg.bits (wideReg rs1p) + BitVec.ofNat s.cfg.bits (uimm.toNat * 4)).toNat) ∧
    (∀ (uimm : BitVec 6),
    LoadsF (.cFldsp rd uimm) s 2 8 rd
      (s.readX s.cfg.bits 2 + BitVec.ofNat s.cfg.bits (uimm.toNat * 8)).toNat ∧
    LoadsF (.cFlwsp rd uimm) s 2 4 rd
      (s.readX s.cfg.bits 2 + BitVec.ofNat s.cfg.bits (uimm.toNat * 4)).toNat) ∧
    LoadsF (.flw rd rs1 imm) s 4 4 rd
      (s.readX s.cfg.bits rs1 + imm.signExtend s.cfg.bits).toNat ∧
    LoadsF (.fld rd rs1 imm) s 4 8 rd
      (s.readX s.cfg.bits rs1 + imm.signExtend s.cfg.bits).toNat ∧
    LoadsF (.flq rd rs1 imm) s 4 16 rd
      (s.readX s.cfg.bits rs1 + imm.signExtend s.cfg.bits).toNat ∧
    LoadsF (.flh rd rs1 imm) s 4 2 rd
      (s.readX s.cfg.bits rs1 + imm.signExtend s.cfg.bits).toNat) ∧
  (∀ (s : State) (rs1 rs2 : Reg) (imm : BitVec 12) (rs1p rs2p : Reg3),
    (∀ (uimm : BitVec 5),
    StoresX (.cFsd rs1p rs2p uimm) s 2 (s.fpGranule 8) 8
      (s.readX s.cfg.bits (wideReg rs1p) + BitVec.ofNat s.cfg.bits (uimm.toNat * 8)).toNat (s.readF (wideReg rs2p)).toNat ∧
    StoresX (.cFsw rs1p rs2p uimm) s 2 (s.fpGranule 4) 4
      (s.readX s.cfg.bits (wideReg rs1p) + BitVec.ofNat s.cfg.bits (uimm.toNat * 4)).toNat (s.readF (wideReg rs2p)).toNat) ∧
    (∀ (uimm : BitVec 6),
    StoresX (.cFsdsp rs2 uimm) s 2 (s.fpGranule 8) 8
      (s.readX s.cfg.bits 2 + BitVec.ofNat s.cfg.bits (uimm.toNat * 8)).toNat (s.readF rs2).toNat ∧
    StoresX (.cFswsp rs2 uimm) s 2 (s.fpGranule 4) 4
      (s.readX s.cfg.bits 2 + BitVec.ofNat s.cfg.bits (uimm.toNat * 4)).toNat (s.readF rs2).toNat) ∧
    StoresX (.fsw rs1 rs2 imm) s 4 (s.fpGranule 4) 4
      (s.readX s.cfg.bits rs1 + imm.signExtend s.cfg.bits).toNat (s.readF rs2).toNat ∧
    StoresX (.fsd rs1 rs2 imm) s 4 (s.fpGranule 8) 8
      (s.readX s.cfg.bits rs1 + imm.signExtend s.cfg.bits).toNat (s.readF rs2).toNat ∧
    StoresX (.fsq rs1 rs2 imm) s 4 (s.fpGranule 16) 16
      (s.readX s.cfg.bits rs1 + imm.signExtend s.cfg.bits).toNat (s.readF rs2).toNat ∧
    StoresX (.fsh rs1 rs2 imm) s 4 (s.fpGranule 2) 2
      (s.readX s.cfg.bits rs1 + imm.signExtend s.cfg.bits).toNat (s.readF rs2).toNat)

/-- For every load and store (integer, floating-point, compressed): where nothing is raised for its alignment (it is
aligned, misaligned accesses are invisible, one granule holds it and relaxes it, or the environment completes it), it
completes and retires if its bytes may be accessed at its width, in main memory or in a device, and else raises
LoadAccessFault or StoreAccessFault; misaligned under may_trap, outside one granule, the environment completes it
(which is the first case), or it raises the misaligned exception or, as the environment chooses, the access fault,
whether or not the bytes are accessible. The exception carries the effective address. That an access fault reports the
effective address, and that misalignment comes first, are the choices of 60_exceptions.md R759 and R760 under
92_eei_decisions.md D16 and D3 (assumption logs 14 and 15). (20_memory.md, 60_exceptions.md, 92_eei_decisions.md) -/
def Obligations.LoadsAndStoresCompleteOrRaise : Prop :=
  ∀ (s : State) (i : Instr) (len n ea : Nat),
    let aligned := s.AlignmentOk (i.granule s n) ea n
    (i.loadForm s = some (len, n, ea) →
      (aligned .load → s.cfg.accessible ea n .load = true →
        ∃ t, exec i s = .next t ∧ s.RetiredTo t (s.after len) ∧ t.halted = s.halted ∧ ∀ a, t.byte a = s.byte a) ∧
      (aligned .load → s.cfg.accessible ea n .load = false → Raises i s (.loadAccessFault (BitVec.ofNat 128 ea)) len) ∧
      (ea % n ≠ 0 → s.cfg.misaligned = .mayTrap → (i.granule s n && s.cfg.inGranule ea n) = false →
        Config.misalignedOk s.draws ea n .load = true ∨
        Raises i s (if Config.misalignedAsAccessFault s.draws ea n .load then .loadAccessFault (BitVec.ofNat 128 ea)
          else .loadAddressMisaligned (BitVec.ofNat 128 ea)) len)) ∧
    (i.storeForm s = some (len, n, ea) →
      (aligned .store → s.cfg.accessible ea n .store = true →
        ∃ t, exec i s = .next t ∧ s.RetiredTo t (s.after len) ∧ t.halted = s.halted ∧
          ∀ a, a ∉ span s.cfg.bits ea n → t.byte a = s.byte a) ∧
      (aligned .store → s.cfg.accessible ea n .store = false → Raises i s (.storeAccessFault (BitVec.ofNat 128 ea)) len) ∧
      (ea % n ≠ 0 → s.cfg.misaligned = .mayTrap → (i.granule s n && s.cfg.inGranule ea n) = false →
        Config.misalignedOk s.draws ea n .store = true ∨
        Raises i s (if Config.misalignedAsAccessFault s.draws ea n .store then .storeAccessFault (BitVec.ofNat 128 ea)
          else .storeAddressMisaligned (BitVec.ofNat 128 ea)) len))

/-- After MemWrite, from canonical memory, of n bytes of main memory at an address, the n bytes there have the value
written modulo 2^(8n), and a byte outside them is as before; n is at most the size of the address space.
(20_memory.md) -/
def Obligations.ReadAfterWriteGivesTheValue : Prop :=
  ∀ (s : State) (ea n v : Nat), s.memOk → n ≤ 2 ^ s.cfg.bits → (∀ a ∈ span s.cfg.bits ea n, s.cfg.isIo a = false) →
    (s.writeMem ea n v).valueAt ea n = v % 2 ^ (8 * n) ∧ ((s.writeMem ea n v).readMem ea n).1 = v % 2 ^ (8 * n) ∧
    ∀ a, a ∉ span s.cfg.bits ea n → (s.writeMem ea n v).byte a = s.byte a

/-- With an aligned address whose bytes may be loaded in regions that support LR and SC: the instruction completes,
x[rd] takes the sign-extended bytes (a device's bytes are its free answer, and the access is recorded, assumption log
9), a reservation of that address and size is held, whose set contains every addressed byte whatever RESERVATION_SET
is (and nothing else where it is exact; where it is a granule of 2^k bytes, of that size or more, that of the
address), and nothing else changes; aq and rl change nothing. That a region either supports LR and SC or does not,
whichever LR/SC class it has, is log 31 (DESIGN CHOICE). (43_m_a.md, 10_state.md) -/
def Obligations.LoadReservedRegistersTheBytes : Prop :=
  ∀ (s : State) (rd rs1 : Reg) (aq rl : BitVec 1), ∀ p ∈ ([(.lrW rd rs1 aq rl, 4), (.lrD rd rs1 aq rl, 8)] : List (Instr × Nat)),
    let ea := (s.readX s.cfg.bits rs1).toNat
    ea % p.2 = 0 → s.cfg.accessible ea p.2 .load = true → s.cfg.lrscAt ea p.2 = true →
    ∃ t r, exec p.1 s = .next t ∧ t.reservation = some r ∧ r.addr = ea ∧ r.size = p.2 ∧
      (∀ a ∈ span s.cfg.bits ea p.2, r.contains a = true) ∧
      (s.cfg.reservation = .exact → ∀ a, r.contains a = true → ea ≤ a ∧ a < ea + p.2) ∧
      (∀ k, s.cfg.reservation = .granule k → p.2 ≤ 2 ^ k → ∀ a, r.contains a = true ↔ a / 2 ^ k = ea / 2 ^ k) ∧
      t.readX s.cfg.bits rd = (if rd = 0 then 0 else (BitVec.ofNat (8 * p.2) (s.seenAt ea p.2)).signExtend s.cfg.bits) ∧
      s.RetiredTo t (s.after 4) ∧ s.Keeps t [rd] [] [] ∧ t.fflags = s.fflags ∧ t.stale = s.stale ∧
      t.ioTrace = s.ioTrace ++ s.ioEvents ea p.2 (.read ea p.2)

/-- From canonical memory, with an aligned address whose bytes may be stored to in regions that support LR and SC: the
instruction completes and invalidates the reservation. Without a reservation whose set contains the bytes it fails:
x[rd] is 1, no byte changes and no device is accessed. With one, where SC_FAIL is never, it succeeds: the bytes take
the low bytes of x[rs2], a device access is recorded (assumption log 9), and x[rd] is 0; where SC_FAIL is
nondeterministic it does one or the other. That a region either supports LR and SC or does not, whichever LR/SC class
it has, is log 31 (DESIGN CHOICE). (43_m_a.md, 10_state.md) -/
def Obligations.StoreConditionalSucceedsOrFails : Prop :=
  ∀ (s : State) (rd rs1 rs2 : Reg) (aq rl : BitVec 1),
    ∀ p ∈ ([(.scW rd rs1 rs2 aq rl, 4), (.scD rd rs1 rs2 aq rl, 8)] : List (Instr × Nat)),
    let ea := (s.readX s.cfg.bits rs1).toNat
    s.memOk → ea % p.2 = 0 → s.cfg.accessible ea p.2 .store = true → s.cfg.lrscAt ea p.2 = true →
    ∃ t, exec p.1 s = .next t ∧ t.reservation = none ∧ s.RetiredTo t (s.after 4) ∧ t.fflags = s.fflags ∧
      ((t.readX s.cfg.bits rd = 0 ∧ s.HoldsAt t ea p.2 (s.readX s.cfg.bits rs2).toNat ∧
          s.Keeps t [rd] [] (span s.cfg.bits ea p.2) ∧ s.reserved ea p.2 = true ∧
          s.StaleWithin t (span s.cfg.bits ea p.2) ∧
          t.ioTrace = s.ioTrace ++ s.ioEvents ea p.2 (.write ea (s.bytesOf p.2 (s.readX s.cfg.bits rs2).toNat))) ∨
        (t.readX s.cfg.bits rd = (if rd = 0 then 0 else 1) ∧ s.Keeps t [rd] [] [] ∧ t.ioTrace = s.ioTrace ∧ t.stale = s.stale ∧
          (s.reserved ea p.2 = false ∨ s.cfg.scFail = .nondeterministic)))

/-- From canonical memory, with an address that is aligned or whose bytes one misaligned atomicity granule holds,
where the bytes may be read and written and their regions support the class of the AMO (which AMO is of which class is
the model's choice, assumption log 26): the instruction completes, x[rd] takes the sign-extended old value, the bytes
take the result of the operation on the old value and the old x[rs2] (its low bits), and every other byte, every other
register and the reservation are unchanged (that an AMO leaves the hart's own reservation is log 16). A device's bytes
are read as its free answer and written to it alone, and both accesses are recorded (log 9). (43_m_a.md) -/
def Obligations.AtomicOperationsReadModifyWrite : Prop :=
  ∀ (s : State) (rd rs1 rs2 : Reg) (aq rl : BitVec 1),
    AmoUpdates (.amoswapW rd rs1 rs2 aq rl) s 4 .swap rd rs1 rs2 (fun _ b => b) ∧
    AmoUpdates (.amoswapD rd rs1 rs2 aq rl) s 8 .swap rd rs1 rs2 (fun _ b => b) ∧
    AmoUpdates (.amoaddW rd rs1 rs2 aq rl) s 4 .arithmetic rd rs1 rs2 (fun a b => a + b) ∧
    AmoUpdates (.amoaddD rd rs1 rs2 aq rl) s 8 .arithmetic rd rs1 rs2 (fun a b => a + b) ∧
    AmoUpdates (.amoxorW rd rs1 rs2 aq rl) s 4 .logical rd rs1 rs2 (fun a b => a ^^^ b) ∧
    AmoUpdates (.amoxorD rd rs1 rs2 aq rl) s 8 .logical rd rs1 rs2 (fun a b => a ^^^ b) ∧
    AmoUpdates (.amoandW rd rs1 rs2 aq rl) s 4 .logical rd rs1 rs2 (fun a b => a &&& b) ∧
    AmoUpdates (.amoandD rd rs1 rs2 aq rl) s 8 .logical rd rs1 rs2 (fun a b => a &&& b) ∧
    AmoUpdates (.amoorW rd rs1 rs2 aq rl) s 4 .logical rd rs1 rs2 (fun a b => a ||| b) ∧
    AmoUpdates (.amoorD rd rs1 rs2 aq rl) s 8 .logical rd rs1 rs2 (fun a b => a ||| b) ∧
    AmoUpdates (.amominW rd rs1 rs2 aq rl) s 4 .arithmetic rd rs1 rs2 (fun a b => if a.toInt < b.toInt then a else b) ∧
    AmoUpdates (.amominD rd rs1 rs2 aq rl) s 8 .arithmetic rd rs1 rs2 (fun a b => if a.toInt < b.toInt then a else b) ∧
    AmoUpdates (.amomaxW rd rs1 rs2 aq rl) s 4 .arithmetic rd rs1 rs2 (fun a b => if b.toInt < a.toInt then a else b) ∧
    AmoUpdates (.amomaxD rd rs1 rs2 aq rl) s 8 .arithmetic rd rs1 rs2 (fun a b => if b.toInt < a.toInt then a else b) ∧
    AmoUpdates (.amominuW rd rs1 rs2 aq rl) s 4 .arithmetic rd rs1 rs2 (fun a b => if a.toNat < b.toNat then a else b) ∧
    AmoUpdates (.amominuD rd rs1 rs2 aq rl) s 8 .arithmetic rd rs1 rs2 (fun a b => if a.toNat < b.toNat then a else b) ∧
    AmoUpdates (.amomaxuW rd rs1 rs2 aq rl) s 4 .arithmetic rd rs1 rs2 (fun a b => if b.toNat < a.toNat then a else b) ∧
    AmoUpdates (.amomaxuD rd rs1 rs2 aq rl) s 8 .arithmetic rd rs1 rs2 (fun a b => if b.toNat < a.toNat then a else b)

/-- Where the address is not a multiple of the access width, LR raises LoadAddressMisaligned, SC raises
StoreAddressMisaligned, and an AMO raises StoreAddressMisaligned unless one misaligned atomicity granule holds its
bytes; LR and SC do so whatever the granule. Otherwise, where a byte may not be loaded (LR) or stored to (SC) at the
width, or its region does not support LR and SC, LR raises LoadAccessFault and SC StoreAccessFault, and where a byte
may not be both read and written at the width, or the region is of a class below the AMO's, an AMO raises
StoreAccessFault. That the misaligned and not the access-fault exception is raised is the choice of
92_eei_decisions.md D3 (assumption log 15), that it comes first and that the address reported is x[rs1] those of D16
(log 14), and which exception a region without support raises, and which AMO is of which class, the model's (log 26).
That the access fault of an AMO is that of a store even for its read half is 43_m_a.md R379's [from general knowledge,
not in source] (log 18, PRESUMED). (43_m_a.md, 20_memory.md, 92_eei_decisions.md) -/
def Obligations.AtomicsRaiseAtTheirAddress : Prop :=
  ∀ (s : State) (rd rs1 rs2 : Reg) (aq rl : BitVec 1),
    let ea := (s.readX s.cfg.bits rs1).toNat
    (ea % 4 ≠ 0 → Raises (.lrW rd rs1 aq rl) s (.loadAddressMisaligned (BitVec.ofNat 128 ea)) 4 ∧
      Raises (.scW rd rs1 rs2 aq rl) s (.storeAddressMisaligned (BitVec.ofNat 128 ea)) 4) ∧
    (ea % 8 ≠ 0 → Raises (.lrD rd rs1 aq rl) s (.loadAddressMisaligned (BitVec.ofNat 128 ea)) 4 ∧
      Raises (.scD rd rs1 rs2 aq rl) s (.storeAddressMisaligned (BitVec.ofNat 128 ea)) 4) ∧
    (ea % 4 ≠ 0 → s.cfg.inGranule ea 4 = false → ∀ i ∈ ([
      .amoswapW rd rs1 rs2 aq rl, .amoaddW rd rs1 rs2 aq rl, .amoxorW rd rs1 rs2 aq rl, .amoandW rd rs1 rs2 aq rl,
      .amoorW rd rs1 rs2 aq rl, .amominW rd rs1 rs2 aq rl, .amomaxW rd rs1 rs2 aq rl, .amominuW rd rs1 rs2 aq rl,
      .amomaxuW rd rs1 rs2 aq rl] : List Instr), Raises i s (.storeAddressMisaligned (BitVec.ofNat 128 ea)) 4) ∧
    (ea % 8 ≠ 0 → s.cfg.inGranule ea 8 = false → ∀ i ∈ ([
      .amoswapD rd rs1 rs2 aq rl, .amoaddD rd rs1 rs2 aq rl, .amoxorD rd rs1 rs2 aq rl, .amoandD rd rs1 rs2 aq rl,
      .amoorD rd rs1 rs2 aq rl, .amominD rd rs1 rs2 aq rl, .amomaxD rd rs1 rs2 aq rl, .amominuD rd rs1 rs2 aq rl,
      .amomaxuD rd rs1 rs2 aq rl] : List Instr), Raises i s (.storeAddressMisaligned (BitVec.ofNat 128 ea)) 4) ∧
    (∀ p ∈ ([(.lrW rd rs1 aq rl, .scW rd rs1 rs2 aq rl, 4), (.lrD rd rs1 aq rl, .scD rd rs1 rs2 aq rl, 8)] :
        List (Instr × Instr × Nat)), ea % p.2.2 = 0 →
      let unsupported := ∃ a ∈ span s.cfg.bits ea p.2.2, ∃ r, s.cfg.regionAt a = some r ∧ r.lrsc = false
      (s.cfg.accessible ea p.2.2 .load = false ∨ unsupported → Raises p.1 s (.loadAccessFault (BitVec.ofNat 128 ea)) 4) ∧
      (s.cfg.accessible ea p.2.2 .store = false ∨ unsupported →
        Raises p.2.1 s (.storeAccessFault (BitVec.ofNat 128 ea)) 4)) ∧
    (∀ p ∈ ([
      (.amoswapW rd rs1 rs2 aq rl, 4, .swap), (.amoswapD rd rs1 rs2 aq rl, 8, .swap), (.amoandW rd rs1 rs2 aq rl, 4, .logical),
      (.amoandD rd rs1 rs2 aq rl, 8, .logical), (.amoorW rd rs1 rs2 aq rl, 4, .logical),
      (.amoorD rd rs1 rs2 aq rl, 8, .logical), (.amoxorW rd rs1 rs2 aq rl, 4, .logical),
      (.amoxorD rd rs1 rs2 aq rl, 8, .logical), (.amoaddW rd rs1 rs2 aq rl, 4, .arithmetic),
      (.amoaddD rd rs1 rs2 aq rl, 8, .arithmetic), (.amominW rd rs1 rs2 aq rl, 4, .arithmetic),
      (.amominD rd rs1 rs2 aq rl, 8, .arithmetic), (.amomaxW rd rs1 rs2 aq rl, 4, .arithmetic),
      (.amomaxD rd rs1 rs2 aq rl, 8, .arithmetic), (.amominuW rd rs1 rs2 aq rl, 4, .arithmetic),
      (.amominuD rd rs1 rs2 aq rl, 8, .arithmetic), (.amomaxuW rd rs1 rs2 aq rl, 4, .arithmetic),
      (.amomaxuD rd rs1 rs2 aq rl, 8, .arithmetic)] : List (Instr × Nat × AmoClass)),
      (ea % p.2.1 = 0 ∨ s.cfg.inGranule ea p.2.1 = true) →
      (s.cfg.accessible ea p.2.1 .load = false ∨ s.cfg.accessible ea p.2.1 .store = false ∨
        ∃ a ∈ span s.cfg.bits ea p.2.1, ∃ r, s.cfg.regionAt a = some r ∧ r.amo.rank < p.2.2.rank) →
      Raises p.1 s (.storeAccessFault (BitVec.ofNat 128 ea)) 4)

/-- Where WRS does not stall (the configuration says so, no reservation is held, or an interrupt is pending) both
complete at once and change nothing but pc and the counters. Where it may stall, its first step completes so, or it
begins to stall: the hart is stalled and nothing else has changed but the time. A stalled hart's step completes: it
leaves the hart stalled, with nothing changed but the time, and only where the configuration stalls, a reservation is
held and no interrupt is pending; or it ends the stall and retires the WRS (always where one of these fails): pc is 4
bytes on, instret one more, the hart no longer stalled, and nothing else has changed but the time. So in every case
every register, every flag, memory, the fetch image and the reservation are as they were (time: the counters it
drives, and the draws of free values). That a free value may end the stall at any step, and that it stalls only so, is
assumption log 12 (DEDUCED). (48_zfinx_zfa_cmo_zawrs.md, 60_exceptions.md) -/
def Obligations.WaitOnReservationAdvancesOrStalls : Prop :=
  ∀ s : State, (s.cfg.wrsStalls = false ∨ s.reservation = none ∨ s.interruptPending = true →
      NoEffect .wrsNto s 4 ∧ NoEffect .wrsSto s 4) ∧
    (∀ i ∈ ([.wrsNto, .wrsSto] : List Instr), NoEffect i s 4 ∨
      ∃ t, exec i s = .next t ∧ ({ s with stalled := true } : State).OnlyTimePasses t ∧
        s.cfg.wrsStalls = true ∧ s.reservation ≠ none ∧ s.interruptPending = false) ∧
    (s.stalled = true → s.halted = none → ∃ t, step s = .next t ∧
      ((s.OnlyTimePasses t ∧ s.cfg.wrsStalls = true ∧ s.reservation ≠ none ∧ s.interruptPending = false) ∨
        ({ s with stalled := false, pc := s.after 4, instret := s.instret + 1 } : State).OnlyTimePasses t))

/-- For a CSR that the configuration has, and that is not read-only where the instruction writes: CSRRW writes x[rs1],
CSRRS and CSRRC set or clear the bits of x[rs1] unless rs1 is x0, and the immediate forms do so with the zero-extended
uimm (CSRRSI and CSRRCI write nothing where it is 0); x[rd] takes the old value, the CSR the writable bits of the new
one, and nothing else changes. What a write to each CSR changes in the state is said whole by FflagsIsAViewOfFcsr and
ControlRegisterAndCounterViews. (44_zicsr_counters.md) -/
def Obligations.CsrInstructionsReadAndWrite : Prop :=
  ∀ (s : State) (a : BitVec 12) (old : BitVec s.cfg.bits) (rd rs1 uimm : BitVec 5), s.csrRead a = some old →
    let v := s.readX s.cfg.bits rs1
    let u := uimm.setWidth s.cfg.bits
    (csrReadOnly a = false →
      CsrReplaces (.csrrw rd rs1 a) s a rd old (some v) ∧ CsrReplaces (.csrrwi rd uimm a) s a rd old (some u) ∧
      (rs1 ≠ 0 → CsrReplaces (.csrrs rd rs1 a) s a rd old (some (old ||| v)) ∧
        CsrReplaces (.csrrc rd rs1 a) s a rd old (some (old &&& ~~~v))) ∧
      (uimm ≠ 0 → CsrReplaces (.csrrsi rd uimm a) s a rd old (some (old ||| u)) ∧
        CsrReplaces (.csrrci rd uimm a) s a rd old (some (old &&& ~~~u)))) ∧
    CsrReplaces (.csrrs rd 0 a) s a rd old none ∧ CsrReplaces (.csrrc rd 0 a) s a rd old none ∧
    CsrReplaces (.csrrsi rd 0 a) s a rd old none ∧ CsrReplaces (.csrrci rd 0 a) s a rd old none

/-- Where the configuration has no CSR of the address, each of the six instructions raises IllegalInstruction with its
own bits; where csr[11:10] is 11, CSRRW and CSRRWI do, and the others with rs1 or uimm not 0. Both clauses are the
choice of 92_eei_decisions.md D13 and not the source's rule: that an access to an absent CSR raises is assumption log
17 (DESIGN CHOICE), and that csr[11:10] = 11 marks a CSR as read-only and a write to it raises is logs 17 and 18
(PRESUMED for the encoding of the address). (44_zicsr_counters.md, 92_eei_decisions.md) -/
def Obligations.CsrViolationsRaiseIllegal : Prop :=
  ∀ (s : State) (a : BitVec 12) (rd rs1 uimm : BitVec 5),
    (s.csrRead a = none → ∀ i ∈ ([.csrrw rd rs1 a, .csrrs rd rs1 a, .csrrc rd rs1 a, .csrrwi rd uimm a, .csrrsi rd uimm a,
        .csrrci rd uimm a] : List Instr), Raises i s (.illegalInstruction (encode i)) 4) ∧
    (a.extractLsb' 10 2 = 3 → (∀ i ∈ ([.csrrw rd rs1 a, .csrrwi rd uimm a] : List Instr),
        Raises i s (.illegalInstruction (encode i)) 4) ∧
      (rs1 ≠ 0 → ∀ i ∈ ([.csrrs rd rs1 a, .csrrc rd rs1 a] : List Instr), Raises i s (.illegalInstruction (encode i)) 4) ∧
      (uimm ≠ 0 → ∀ i ∈ ([.csrrsi rd uimm a, .csrrci rd uimm a] : List Instr),
        Raises i s (.illegalInstruction (encode i)) 4))

/-- Where the floating-point CSRs exist, reading 0x001 gives the low five bits of what reading 0x003 gives, zero-extended,
and writing a value to 0x001 leaves fflags at its bits 4:0 and everything else as it was. (R49) -/
def Obligations.FflagsIsAViewOfFcsr : Prop :=
  ∀ s : State, s.cfg.hasFcsr = true →
    (∃ fcsr, s.csrRead 0x003 = some fcsr ∧ s.csrRead 0x001 = some ((fcsr.setWidth 5).setWidth s.cfg.bits)) ∧
    ∀ v : BitVec s.cfg.bits, s.csrWrite 0x001 v = { s with fflags := v.setWidth 5 }

/-- 0x001 to 0x003 are present with F or Zfinx and absent without both. fcsr reads frm above fflags with zeros above
them; frm reads three bits. A write to fcsr sets frm and fflags to bits 7:0 of the value, one to frm sets frm to its
low three bits, one to jvt sets jvt, and nothing else of the state changes; a write to any other address but fflags
changes nothing. jvt is present where Zcmt and JVT_ENABLED are, and reads XLEN bits; after any write its low six bits
(MODE) are 0 and it holds a value that BASE can hold, the written one with those bits cleared where BASE can hold
that; a read-only BASE shows its value whatever was written. With Zicntr, 0xC00, 0xC01, 0xC02 read the low XLEN bits
of cycle, time and instret (zero-extended on RV128), and on RV32 alone 0xC80 to 0xC82 read bits 63:32; without Zicntr
they are absent. With Zihpm an implemented hpmcounter reads its value modulo its width in the same two halves, and a
constant one keeps it when an instruction retires; without Zihpm, or where it is not implemented, it is absent. Every
address outside these is absent. The model's choices here: an unimplemented hpmcounter is absent (92_eei_decisions.md
D11, assumption logs 5 and 17), MODE reads 0 after any write (an inference of the spec, marked [derived] in
10_state.md R56) and JVT_ENABLED hides jvt (D8, log 24). (10_state.md, 49_zc.md, 44_zicsr_counters.md,
92_eei_decisions.md) -/
def Obligations.ControlRegisterAndCounterViews : Prop :=
  (∀ s : State, (s.cfg.hasFcsr = true →
      s.csrRead 0x003 = some ((s.frm ++ s.fflags).setWidth s.cfg.bits) ∧ s.csrRead 0x002 = some (s.frm.setWidth s.cfg.bits)) ∧
    s.cfg.hasFcsr = (s.cfg.ext.f || s.cfg.ext.zfinx) ∧
    (s.cfg.hasFcsr = false → s.csrRead 0x001 = none ∧ s.csrRead 0x002 = none ∧ s.csrRead 0x003 = none) ∧
    (∀ a : BitVec 12, a ∉ [0x001#12, 0x002#12, 0x003#12, 0x017#12] → ¬(0xC00 ≤ a.toNat ∧ a.toNat ≤ 0xC1F) →
      ¬(0xC80 ≤ a.toNat ∧ a.toNat ≤ 0xC9F) → s.csrRead a = none) ∧
    (∀ v : BitVec s.cfg.bits, s.csrWrite 0x003 v = { s with frm := v.extractLsb' 5 3, fflags := v.setWidth 5 } ∧
      s.csrWrite 0x002 v = { s with frm := v.setWidth 3 } ∧
      s.csrWrite 0x017 v = { s with jvt := (s.csrWrite 0x017 v).jvt } ∧
      (∀ a : BitVec 12, a ∉ [0x001#12, 0x002#12, 0x003#12, 0x017#12] → s.csrWrite a v = s) ∧
      (s.csrWrite 0x017 v).jvt.toNat % 64 = 0 ∧
      (s.csrWrite 0x017 v).cfg.jvtHolds (s.csrWrite 0x017 v).readJvt = true ∧
      (s.cfg.jvtHolds (v &&& ~~~63) = true → (s.csrWrite 0x017 v).readJvt.toNat = v.toNat / 64 * 64) ∧
      (s.cfg.jvtBase = .any → s.cfg.jvtHolds (v &&& ~~~63) = true)) ∧
    (∀ b, s.cfg.jvtBase = .readOnly b → s.readJvt.toNat = b.toNat % 2 ^ s.cfg.bits / 64 * 64) ∧
    s.csrRead 0x017 = (if s.cfg.ext.zcmt = true ∧ s.cfg.jvtEnabled = true then some s.readJvt else none)) ∧
  (∀ s : State,
    (s.cfg.ext.zicntr = true → s.csrRead 0xC00 = some (s.cycle.setWidth s.cfg.bits) ∧
      s.csrRead 0xC01 = some (s.time.setWidth s.cfg.bits) ∧ s.csrRead 0xC02 = some (s.instret.setWidth s.cfg.bits) ∧
      (s.cfg.xlen = .rv32 → s.csrRead 0xC80 = some (BitVec.ofNat s.cfg.bits (s.cycle.toNat / 2 ^ 32)) ∧
        s.csrRead 0xC81 = some (BitVec.ofNat s.cfg.bits (s.time.toNat / 2 ^ 32)) ∧
        s.csrRead 0xC82 = some (BitVec.ofNat s.cfg.bits (s.instret.toNat / 2 ^ 32)))) ∧
    (s.cfg.ext.zicntr = false → s.csrRead 0xC00 = none ∧ s.csrRead 0xC01 = none ∧ s.csrRead 0xC02 = none ∧
      s.csrRead 0xC80 = none ∧ s.csrRead 0xC81 = none ∧ s.csrRead 0xC82 = none) ∧
    (s.cfg.xlen ≠ .rv32 → s.csrRead 0xC80 = none ∧ s.csrRead 0xC81 = none ∧ s.csrRead 0xC82 = none) ∧
    ∀ k : Nat, 3 ≤ k → k ≤ 31 →
      (∀ h, s.cfg.ext.zihpm = true → s.hpm.find? (fun c => c.number == k) = some h →
        s.csrRead (BitVec.ofNat 12 (0xC00 + k)) = some (BitVec.ofNat s.cfg.bits (h.value.toNat % 2 ^ h.width)) ∧
        (s.cfg.xlen = .rv32 → s.csrRead (BitVec.ofNat 12 (0xC80 + k)) =
          some (BitVec.ofNat s.cfg.bits (h.value.toNat % 2 ^ h.width / 2 ^ 32))) ∧
        (s.cfg.xlen ≠ .rv32 → s.csrRead (BitVec.ofNat 12 (0xC80 + k)) = none) ∧
        (h.source = .constant → ∀ len, h ∈ (s.retire len).hpm)) ∧
      ((s.cfg.ext.zihpm = false ∨ ∀ h ∈ s.hpm, h.number ≠ k) → s.csrRead (BitVec.ofNat 12 (0xC00 + k)) = none ∧
        s.csrRead (BitVec.ofNat 12 (0xC80 + k)) = none))

/-- With a rounding mode that is not reserved: each fused multiply-add completes, writes it to rd as the spec stores a
result of its format (boxed in f[rd]; with Zfinx sign-extended in x[rd], or in an even pair) once rounded from its
product and addend (negated as its name says), accrues its flags, and changes nothing else. With a rounding mode that
is not reserved: each of the others completes, writes its rounded result so, accrues its flags, and changes nothing
else. What the operations compute is another statement (ArithmeticRoundsTheExactResult). (45_f.md, 46_d_q_zfh.md) -/
def Obligations.FloatArithmeticWritesItsResult : Prop :=
  (∀ (s : State) (rd rs1 rs2 rs3 : Reg) (rm : BitVec 3) (mode : RoundingMode), s.effectiveMode rm = some mode →
    WritesFp (.fmaddS rd rs1 rs2 rs3 rm) s .s rd (Fmt.fma .s mode (s.fpVal .s rs1) (s.fpVal .s rs2) (s.fpVal .s rs3)) ∧
    WritesFp (.fmsubS rd rs1 rs2 rs3 rm) s .s rd (Fmt.fma .s mode (s.fpVal .s rs1) (s.fpVal .s rs2) ((s.fpVal .s rs3).negate)) ∧
    WritesFp (.fnmsubS rd rs1 rs2 rs3 rm) s .s rd (Fmt.fma .s mode ((s.fpVal .s rs1).negate) (s.fpVal .s rs2) (s.fpVal .s rs3)) ∧
    WritesFp (.fnmaddS rd rs1 rs2 rs3 rm) s .s rd (Fmt.fma .s mode ((s.fpVal .s rs1).negate) (s.fpVal .s rs2) ((s.fpVal .s rs3).negate)) ∧
    WritesFp (.fmaddD rd rs1 rs2 rs3 rm) s .d rd (Fmt.fma .d mode (s.fpVal .d rs1) (s.fpVal .d rs2) (s.fpVal .d rs3)) ∧
    WritesFp (.fmsubD rd rs1 rs2 rs3 rm) s .d rd (Fmt.fma .d mode (s.fpVal .d rs1) (s.fpVal .d rs2) ((s.fpVal .d rs3).negate)) ∧
    WritesFp (.fnmsubD rd rs1 rs2 rs3 rm) s .d rd (Fmt.fma .d mode ((s.fpVal .d rs1).negate) (s.fpVal .d rs2) (s.fpVal .d rs3)) ∧
    WritesFp (.fnmaddD rd rs1 rs2 rs3 rm) s .d rd (Fmt.fma .d mode ((s.fpVal .d rs1).negate) (s.fpVal .d rs2) ((s.fpVal .d rs3).negate)) ∧
    WritesFp (.fmaddQ rd rs1 rs2 rs3 rm) s .q rd (Fmt.fma .q mode (s.fpVal .q rs1) (s.fpVal .q rs2) (s.fpVal .q rs3)) ∧
    WritesFp (.fmsubQ rd rs1 rs2 rs3 rm) s .q rd (Fmt.fma .q mode (s.fpVal .q rs1) (s.fpVal .q rs2) ((s.fpVal .q rs3).negate)) ∧
    WritesFp (.fnmsubQ rd rs1 rs2 rs3 rm) s .q rd (Fmt.fma .q mode ((s.fpVal .q rs1).negate) (s.fpVal .q rs2) (s.fpVal .q rs3)) ∧
    WritesFp (.fnmaddQ rd rs1 rs2 rs3 rm) s .q rd (Fmt.fma .q mode ((s.fpVal .q rs1).negate) (s.fpVal .q rs2) ((s.fpVal .q rs3).negate)) ∧
    WritesFp (.fmaddH rd rs1 rs2 rs3 rm) s .h rd (Fmt.fma .h mode (s.fpVal .h rs1) (s.fpVal .h rs2) (s.fpVal .h rs3)) ∧
    WritesFp (.fmsubH rd rs1 rs2 rs3 rm) s .h rd (Fmt.fma .h mode (s.fpVal .h rs1) (s.fpVal .h rs2) ((s.fpVal .h rs3).negate)) ∧
    WritesFp (.fnmsubH rd rs1 rs2 rs3 rm) s .h rd (Fmt.fma .h mode ((s.fpVal .h rs1).negate) (s.fpVal .h rs2) (s.fpVal .h rs3)) ∧
    WritesFp (.fnmaddH rd rs1 rs2 rs3 rm) s .h rd (Fmt.fma .h mode ((s.fpVal .h rs1).negate) (s.fpVal .h rs2) ((s.fpVal .h rs3).negate))) ∧
  (∀ (s : State) (rd rs1 rs2 : Reg) (rm : BitVec 3) (mode : RoundingMode), s.effectiveMode rm = some mode →
    WritesFp (.faddS rd rs1 rs2 rm) s .s rd (Fmt.add .s mode (s.fpVal .s rs1) (s.fpVal .s rs2)) ∧
    WritesFp (.fsubS rd rs1 rs2 rm) s .s rd (Fmt.sub .s mode (s.fpVal .s rs1) (s.fpVal .s rs2)) ∧
    WritesFp (.fmulS rd rs1 rs2 rm) s .s rd (Fmt.mul .s mode (s.fpVal .s rs1) (s.fpVal .s rs2)) ∧
    WritesFp (.fdivS rd rs1 rs2 rm) s .s rd (Fmt.div .s mode (s.fpVal .s rs1) (s.fpVal .s rs2)) ∧
    WritesFp (.faddD rd rs1 rs2 rm) s .d rd (Fmt.add .d mode (s.fpVal .d rs1) (s.fpVal .d rs2)) ∧
    WritesFp (.fsubD rd rs1 rs2 rm) s .d rd (Fmt.sub .d mode (s.fpVal .d rs1) (s.fpVal .d rs2)) ∧
    WritesFp (.fmulD rd rs1 rs2 rm) s .d rd (Fmt.mul .d mode (s.fpVal .d rs1) (s.fpVal .d rs2)) ∧
    WritesFp (.fdivD rd rs1 rs2 rm) s .d rd (Fmt.div .d mode (s.fpVal .d rs1) (s.fpVal .d rs2)) ∧
    WritesFp (.faddQ rd rs1 rs2 rm) s .q rd (Fmt.add .q mode (s.fpVal .q rs1) (s.fpVal .q rs2)) ∧
    WritesFp (.fsubQ rd rs1 rs2 rm) s .q rd (Fmt.sub .q mode (s.fpVal .q rs1) (s.fpVal .q rs2)) ∧
    WritesFp (.fmulQ rd rs1 rs2 rm) s .q rd (Fmt.mul .q mode (s.fpVal .q rs1) (s.fpVal .q rs2)) ∧
    WritesFp (.fdivQ rd rs1 rs2 rm) s .q rd (Fmt.div .q mode (s.fpVal .q rs1) (s.fpVal .q rs2)) ∧
    WritesFp (.faddH rd rs1 rs2 rm) s .h rd (Fmt.add .h mode (s.fpVal .h rs1) (s.fpVal .h rs2)) ∧
    WritesFp (.fsubH rd rs1 rs2 rm) s .h rd (Fmt.sub .h mode (s.fpVal .h rs1) (s.fpVal .h rs2)) ∧
    WritesFp (.fmulH rd rs1 rs2 rm) s .h rd (Fmt.mul .h mode (s.fpVal .h rs1) (s.fpVal .h rs2)) ∧
    WritesFp (.fdivH rd rs1 rs2 rm) s .h rd (Fmt.div .h mode (s.fpVal .h rs1) (s.fpVal .h rs2)) ∧
    WritesFp (.fsqrtS rd rs1 rm) s .s rd (Fmt.sqrt .s mode (s.fpVal .s rs1)) ∧
    WritesFp (.fsqrtD rd rs1 rm) s .d rd (Fmt.sqrt .d mode (s.fpVal .d rs1)) ∧
    WritesFp (.fsqrtQ rd rs1 rm) s .q rd (Fmt.sqrt .q mode (s.fpVal .q rs1)) ∧
    WritesFp (.fsqrtH rd rs1 rm) s .h rd (Fmt.sqrt .h mode (s.fpVal .h rs1)))

/-- With a rounding mode that is not reserved: each conversion to an integer completes, writes the integer in its
range (out of range and NaN saturating with NV) as 32 or 64 bits sign-extended to XLEN, accrues its flags, and changes
nothing else. With a rounding mode that is not reserved (exact conversions included): each conversion to a format
completes, writes the rounded datum to rd, boxed, or with Zfinx sign-extended, accrues its flags, and changes nothing
else. With a rounding mode that is not reserved: FROUND and FROUNDNX complete, write the operand rounded to an integer
in the same format, accrue their flags (NX in FROUNDNX alone), and change nothing else. What the conversions compute
is another statement (ArithmeticRoundsTheExactResult). (45_f.md, 46_d_q_zfh.md, 48_zfinx_zfa_cmo_zawrs.md) -/
def Obligations.FloatConversionsWriteTheirResult : Prop :=
  (∀ (s : State) (rd rs1 : Reg) (rm : BitVec 3) (mode : RoundingMode), s.effectiveMode rm = some mode →
    WritesXFlags (.fcvtWS rd rs1 rm) s rd ((BitVec.ofInt 32 (Fp.toInt mode (-2 ^ 31) (2 ^ 31 - 1) (s.fpVal .s rs1)).1).signExtend s.cfg.bits)
      (Fp.toInt mode (-2 ^ 31) (2 ^ 31 - 1) (s.fpVal .s rs1)).2 ∧
    WritesXFlags (.fcvtWuS rd rs1 rm) s rd ((BitVec.ofInt 32 (Fp.toInt mode 0 (2 ^ 32 - 1) (s.fpVal .s rs1)).1).signExtend s.cfg.bits)
      (Fp.toInt mode 0 (2 ^ 32 - 1) (s.fpVal .s rs1)).2 ∧
    WritesXFlags (.fcvtLS rd rs1 rm) s rd ((BitVec.ofInt 64 (Fp.toInt mode (-2 ^ 63) (2 ^ 63 - 1) (s.fpVal .s rs1)).1).signExtend s.cfg.bits)
      (Fp.toInt mode (-2 ^ 63) (2 ^ 63 - 1) (s.fpVal .s rs1)).2 ∧
    WritesXFlags (.fcvtLuS rd rs1 rm) s rd ((BitVec.ofInt 64 (Fp.toInt mode 0 (2 ^ 64 - 1) (s.fpVal .s rs1)).1).signExtend s.cfg.bits)
      (Fp.toInt mode 0 (2 ^ 64 - 1) (s.fpVal .s rs1)).2 ∧
    WritesXFlags (.fcvtWD rd rs1 rm) s rd ((BitVec.ofInt 32 (Fp.toInt mode (-2 ^ 31) (2 ^ 31 - 1) (s.fpVal .d rs1)).1).signExtend s.cfg.bits)
      (Fp.toInt mode (-2 ^ 31) (2 ^ 31 - 1) (s.fpVal .d rs1)).2 ∧
    WritesXFlags (.fcvtWuD rd rs1 rm) s rd ((BitVec.ofInt 32 (Fp.toInt mode 0 (2 ^ 32 - 1) (s.fpVal .d rs1)).1).signExtend s.cfg.bits)
      (Fp.toInt mode 0 (2 ^ 32 - 1) (s.fpVal .d rs1)).2 ∧
    WritesXFlags (.fcvtLD rd rs1 rm) s rd ((BitVec.ofInt 64 (Fp.toInt mode (-2 ^ 63) (2 ^ 63 - 1) (s.fpVal .d rs1)).1).signExtend s.cfg.bits)
      (Fp.toInt mode (-2 ^ 63) (2 ^ 63 - 1) (s.fpVal .d rs1)).2 ∧
    WritesXFlags (.fcvtLuD rd rs1 rm) s rd ((BitVec.ofInt 64 (Fp.toInt mode 0 (2 ^ 64 - 1) (s.fpVal .d rs1)).1).signExtend s.cfg.bits)
      (Fp.toInt mode 0 (2 ^ 64 - 1) (s.fpVal .d rs1)).2 ∧
    WritesXFlags (.fcvtWQ rd rs1 rm) s rd ((BitVec.ofInt 32 (Fp.toInt mode (-2 ^ 31) (2 ^ 31 - 1) (s.fpVal .q rs1)).1).signExtend s.cfg.bits)
      (Fp.toInt mode (-2 ^ 31) (2 ^ 31 - 1) (s.fpVal .q rs1)).2 ∧
    WritesXFlags (.fcvtWuQ rd rs1 rm) s rd ((BitVec.ofInt 32 (Fp.toInt mode 0 (2 ^ 32 - 1) (s.fpVal .q rs1)).1).signExtend s.cfg.bits)
      (Fp.toInt mode 0 (2 ^ 32 - 1) (s.fpVal .q rs1)).2 ∧
    WritesXFlags (.fcvtLQ rd rs1 rm) s rd ((BitVec.ofInt 64 (Fp.toInt mode (-2 ^ 63) (2 ^ 63 - 1) (s.fpVal .q rs1)).1).signExtend s.cfg.bits)
      (Fp.toInt mode (-2 ^ 63) (2 ^ 63 - 1) (s.fpVal .q rs1)).2 ∧
    WritesXFlags (.fcvtLuQ rd rs1 rm) s rd ((BitVec.ofInt 64 (Fp.toInt mode 0 (2 ^ 64 - 1) (s.fpVal .q rs1)).1).signExtend s.cfg.bits)
      (Fp.toInt mode 0 (2 ^ 64 - 1) (s.fpVal .q rs1)).2 ∧
    WritesXFlags (.fcvtWH rd rs1 rm) s rd ((BitVec.ofInt 32 (Fp.toInt mode (-2 ^ 31) (2 ^ 31 - 1) (s.fpVal .h rs1)).1).signExtend s.cfg.bits)
      (Fp.toInt mode (-2 ^ 31) (2 ^ 31 - 1) (s.fpVal .h rs1)).2 ∧
    WritesXFlags (.fcvtWuH rd rs1 rm) s rd ((BitVec.ofInt 32 (Fp.toInt mode 0 (2 ^ 32 - 1) (s.fpVal .h rs1)).1).signExtend s.cfg.bits)
      (Fp.toInt mode 0 (2 ^ 32 - 1) (s.fpVal .h rs1)).2 ∧
    WritesXFlags (.fcvtLH rd rs1 rm) s rd ((BitVec.ofInt 64 (Fp.toInt mode (-2 ^ 63) (2 ^ 63 - 1) (s.fpVal .h rs1)).1).signExtend s.cfg.bits)
      (Fp.toInt mode (-2 ^ 63) (2 ^ 63 - 1) (s.fpVal .h rs1)).2 ∧
    WritesXFlags (.fcvtLuH rd rs1 rm) s rd ((BitVec.ofInt 64 (Fp.toInt mode 0 (2 ^ 64 - 1) (s.fpVal .h rs1)).1).signExtend s.cfg.bits)
      (Fp.toInt mode 0 (2 ^ 64 - 1) (s.fpVal .h rs1)).2) ∧
  (∀ (s : State) (rd rs1 : Reg) (rm : BitVec 3) (mode : RoundingMode), s.effectiveMode rm = some mode →
    WritesFp (.fcvtSW rd rs1 rm) s .s rd (Fmt.ofInt .s mode (s.readX 32 rs1).toInt) ∧
    WritesFp (.fcvtSWu rd rs1 rm) s .s rd (Fmt.ofInt .s mode ((s.readX 32 rs1).toNat : Int)) ∧
    WritesFp (.fcvtSL rd rs1 rm) s .s rd (Fmt.ofInt .s mode (s.readX 64 rs1).toInt) ∧
    WritesFp (.fcvtSLu rd rs1 rm) s .s rd (Fmt.ofInt .s mode ((s.readX 64 rs1).toNat : Int)) ∧
    WritesFp (.fcvtDW rd rs1 rm) s .d rd (Fmt.ofInt .d mode (s.readX 32 rs1).toInt) ∧
    WritesFp (.fcvtDWu rd rs1 rm) s .d rd (Fmt.ofInt .d mode ((s.readX 32 rs1).toNat : Int)) ∧
    WritesFp (.fcvtDL rd rs1 rm) s .d rd (Fmt.ofInt .d mode (s.readX 64 rs1).toInt) ∧
    WritesFp (.fcvtDLu rd rs1 rm) s .d rd (Fmt.ofInt .d mode ((s.readX 64 rs1).toNat : Int)) ∧
    WritesFp (.fcvtQW rd rs1 rm) s .q rd (Fmt.ofInt .q mode (s.readX 32 rs1).toInt) ∧
    WritesFp (.fcvtQWu rd rs1 rm) s .q rd (Fmt.ofInt .q mode ((s.readX 32 rs1).toNat : Int)) ∧
    WritesFp (.fcvtQL rd rs1 rm) s .q rd (Fmt.ofInt .q mode (s.readX 64 rs1).toInt) ∧
    WritesFp (.fcvtQLu rd rs1 rm) s .q rd (Fmt.ofInt .q mode ((s.readX 64 rs1).toNat : Int)) ∧
    WritesFp (.fcvtHW rd rs1 rm) s .h rd (Fmt.ofInt .h mode (s.readX 32 rs1).toInt) ∧
    WritesFp (.fcvtHWu rd rs1 rm) s .h rd (Fmt.ofInt .h mode ((s.readX 32 rs1).toNat : Int)) ∧
    WritesFp (.fcvtHL rd rs1 rm) s .h rd (Fmt.ofInt .h mode (s.readX 64 rs1).toInt) ∧
    WritesFp (.fcvtHLu rd rs1 rm) s .h rd (Fmt.ofInt .h mode ((s.readX 64 rs1).toNat : Int)) ∧
    WritesFp (.fcvtSD rd rs1 rm) s .s rd (Fmt.ofFp .s mode (s.fpVal .d rs1)) ∧
    WritesFp (.fcvtDS rd rs1 rm) s .d rd (Fmt.ofFp .d mode (s.fpVal .s rs1)) ∧
    WritesFp (.fcvtSQ rd rs1 rm) s .s rd (Fmt.ofFp .s mode (s.fpVal .q rs1)) ∧
    WritesFp (.fcvtQS rd rs1 rm) s .q rd (Fmt.ofFp .q mode (s.fpVal .s rs1)) ∧
    WritesFp (.fcvtDQ rd rs1 rm) s .d rd (Fmt.ofFp .d mode (s.fpVal .q rs1)) ∧
    WritesFp (.fcvtQD rd rs1 rm) s .q rd (Fmt.ofFp .q mode (s.fpVal .d rs1)) ∧
    WritesFp (.fcvtSH rd rs1 rm) s .s rd (Fmt.ofFp .s mode (s.fpVal .h rs1)) ∧
    WritesFp (.fcvtHS rd rs1 rm) s .h rd (Fmt.ofFp .h mode (s.fpVal .s rs1)) ∧
    WritesFp (.fcvtDH rd rs1 rm) s .d rd (Fmt.ofFp .d mode (s.fpVal .h rs1)) ∧
    WritesFp (.fcvtHD rd rs1 rm) s .h rd (Fmt.ofFp .h mode (s.fpVal .d rs1)) ∧
    WritesFp (.fcvtQH rd rs1 rm) s .q rd (Fmt.ofFp .q mode (s.fpVal .h rs1)) ∧
    WritesFp (.fcvtHQ rd rs1 rm) s .h rd (Fmt.ofFp .h mode (s.fpVal .q rs1))) ∧
  (∀ (s : State) (rd rs1 : Reg) (rm : BitVec 3) (mode : RoundingMode), s.effectiveMode rm = some mode →
    WritesFp (.froundS rd rs1 rm) s .s rd (Fmt.roundToIntegral .s false mode (s.fpArg .s rs1)) ∧
    WritesFp (.froundnxS rd rs1 rm) s .s rd (Fmt.roundToIntegral .s true mode (s.fpArg .s rs1)) ∧
    WritesFp (.froundD rd rs1 rm) s .d rd (Fmt.roundToIntegral .d false mode (s.fpArg .d rs1)) ∧
    WritesFp (.froundnxD rd rs1 rm) s .d rd (Fmt.roundToIntegral .d true mode (s.fpArg .d rs1)) ∧
    WritesFp (.froundH rd rs1 rm) s .h rd (Fmt.roundToIntegral .h false mode (s.fpArg .h rs1)) ∧
    WritesFp (.froundnxH rd rs1 rm) s .h rd (Fmt.roundToIntegral .h true mode (s.fpArg .h rs1)) ∧
    WritesFp (.froundQ rd rs1 rm) s .q rd (Fmt.roundToIntegral .q false mode (s.fpArg .q rs1)) ∧
    WritesFp (.froundnxQ rd rs1 rm) s .q rd (Fmt.roundToIntegral .q true mode (s.fpArg .q rs1)))

/-- Each completes for every state and operands, whatever frm holds, writes its result to rd as a datum of its format,
boxed, or with Zfinx sign-extended, accrues its flags (none for the sign injections and FLI), and changes nothing
else. The result of FSGNJ has every bit but the sign from rs1 and the sign of rs2, FSGNJN its complement, FSGNJX the
XOR of both signs, NaNs included; FLI gives the constant of its index in the tables of R651 to R654, whose half,
double and quad values are the spec's own inference, marked [derived] there. FMIN, FMAX, FMINM and FMAXM are said by
ComparisonsSelectionsAndClassesAreExact. (45_f.md, 46_d_q_zfh.md, 48_zfinx_zfa_cmo_zawrs.md) -/
def Obligations.SignInjectionAndSelectionWriteTheirResult : Prop :=
  (∀ (s : State) (rd rs1 rs2 : Reg) (idx : BitVec 5),
    WritesFp (.fsgnjS rd rs1 rs2) s .s rd (Fmt.sgnj .s (s.fpArg .s rs1) (s.fpArg .s rs2)) ∧
    WritesFp (.fsgnjnS rd rs1 rs2) s .s rd (Fmt.sgnjn .s (s.fpArg .s rs1) (s.fpArg .s rs2)) ∧
    WritesFp (.fsgnjxS rd rs1 rs2) s .s rd (Fmt.sgnjx .s (s.fpArg .s rs1) (s.fpArg .s rs2)) ∧
    WritesFp (.fsgnjD rd rs1 rs2) s .d rd (Fmt.sgnj .d (s.fpArg .d rs1) (s.fpArg .d rs2)) ∧
    WritesFp (.fsgnjnD rd rs1 rs2) s .d rd (Fmt.sgnjn .d (s.fpArg .d rs1) (s.fpArg .d rs2)) ∧
    WritesFp (.fsgnjxD rd rs1 rs2) s .d rd (Fmt.sgnjx .d (s.fpArg .d rs1) (s.fpArg .d rs2)) ∧
    WritesFp (.fsgnjQ rd rs1 rs2) s .q rd (Fmt.sgnj .q (s.fpArg .q rs1) (s.fpArg .q rs2)) ∧
    WritesFp (.fsgnjnQ rd rs1 rs2) s .q rd (Fmt.sgnjn .q (s.fpArg .q rs1) (s.fpArg .q rs2)) ∧
    WritesFp (.fsgnjxQ rd rs1 rs2) s .q rd (Fmt.sgnjx .q (s.fpArg .q rs1) (s.fpArg .q rs2)) ∧
    WritesFp (.fsgnjH rd rs1 rs2) s .h rd (Fmt.sgnj .h (s.fpArg .h rs1) (s.fpArg .h rs2)) ∧
    WritesFp (.fsgnjnH rd rs1 rs2) s .h rd (Fmt.sgnjn .h (s.fpArg .h rs1) (s.fpArg .h rs2)) ∧
    WritesFp (.fsgnjxH rd rs1 rs2) s .h rd (Fmt.sgnjx .h (s.fpArg .h rs1) (s.fpArg .h rs2)) ∧
    WritesFp (.fminS rd rs1 rs2) s .s rd (Fmt.minNum .s false (s.fpArg .s rs1) (s.fpArg .s rs2)) ∧
    WritesFp (.fmaxS rd rs1 rs2) s .s rd (Fmt.minNum .s true (s.fpArg .s rs1) (s.fpArg .s rs2)) ∧
    WritesFp (.fminD rd rs1 rs2) s .d rd (Fmt.minNum .d false (s.fpArg .d rs1) (s.fpArg .d rs2)) ∧
    WritesFp (.fmaxD rd rs1 rs2) s .d rd (Fmt.minNum .d true (s.fpArg .d rs1) (s.fpArg .d rs2)) ∧
    WritesFp (.fminQ rd rs1 rs2) s .q rd (Fmt.minNum .q false (s.fpArg .q rs1) (s.fpArg .q rs2)) ∧
    WritesFp (.fmaxQ rd rs1 rs2) s .q rd (Fmt.minNum .q true (s.fpArg .q rs1) (s.fpArg .q rs2)) ∧
    WritesFp (.fminH rd rs1 rs2) s .h rd (Fmt.minNum .h false (s.fpArg .h rs1) (s.fpArg .h rs2)) ∧
    WritesFp (.fmaxH rd rs1 rs2) s .h rd (Fmt.minNum .h true (s.fpArg .h rs1) (s.fpArg .h rs2)) ∧
    WritesFp (.fminmS rd rs1 rs2) s .s rd (Fmt.minimum .s false (s.fpArg .s rs1) (s.fpArg .s rs2)) ∧
    WritesFp (.fmaxmS rd rs1 rs2) s .s rd (Fmt.minimum .s true (s.fpArg .s rs1) (s.fpArg .s rs2)) ∧
    WritesFp (.fminmD rd rs1 rs2) s .d rd (Fmt.minimum .d false (s.fpArg .d rs1) (s.fpArg .d rs2)) ∧
    WritesFp (.fmaxmD rd rs1 rs2) s .d rd (Fmt.minimum .d true (s.fpArg .d rs1) (s.fpArg .d rs2)) ∧
    WritesFp (.fminmH rd rs1 rs2) s .h rd (Fmt.minimum .h false (s.fpArg .h rs1) (s.fpArg .h rs2)) ∧
    WritesFp (.fmaxmH rd rs1 rs2) s .h rd (Fmt.minimum .h true (s.fpArg .h rs1) (s.fpArg .h rs2)) ∧
    WritesFp (.fminmQ rd rs1 rs2) s .q rd (Fmt.minimum .q false (s.fpArg .q rs1) (s.fpArg .q rs2)) ∧
    WritesFp (.fmaxmQ rd rs1 rs2) s .q rd (Fmt.minimum .q true (s.fpArg .q rs1) (s.fpArg .q rs2)) ∧
    WritesFp (.fliS rd idx) s .s rd (Fmt.fli .s idx, 0) ∧
    WritesFp (.fliD rd idx) s .d rd (Fmt.fli .d idx, 0) ∧
    WritesFp (.fliH rd idx) s .h rd (Fmt.fli .h idx, 0) ∧
    WritesFp (.fliQ rd idx) s .q rd (Fmt.fli .q idx, 0)) ∧
  (∀ (f : Fmt) (u v : BitVec f.width) (k : Nat),
    (f.sgnj u v).2 = 0 ∧ (f.sgnjn u v).2 = 0 ∧ (f.sgnjx u v).2 = 0 ∧
    (k < f.width - 1 → (f.sgnj u v).1.getLsbD k = u.getLsbD k ∧ (f.sgnjn u v).1.getLsbD k = u.getLsbD k ∧
      (f.sgnjx u v).1.getLsbD k = u.getLsbD k) ∧
    (k = f.width - 1 → (f.sgnj u v).1.getLsbD k = v.getLsbD k ∧ (f.sgnjn u v).1.getLsbD k = !v.getLsbD k ∧
      (f.sgnjx u v).1.getLsbD k = (u.getLsbD k ^^ v.getLsbD k))) ∧
  (let half : List (BitVec 16) := [
      0xBC00, 0x0400, 0x0100, 0x0200, 0x1C00, 0x2000, 0x2C00, 0x3000, 0x3400, 0x3500, 0x3600, 0x3700, 0x3800, 0x3900, 0x3A00, 0x3B00,
      0x3C00, 0x3D00, 0x3E00, 0x3F00, 0x4000, 0x4100, 0x4200, 0x4400, 0x4800, 0x4C00, 0x5800, 0x5C00, 0x7800, 0x7C00, 0x7C00, 0x7E00]
    let single : List (BitVec 32) := [
      0xBF800000, 0x00800000, 0x37800000, 0x38000000, 0x3B800000, 0x3C000000, 0x3D800000, 0x3E000000,
      0x3E800000, 0x3EA00000, 0x3EC00000, 0x3EE00000, 0x3F000000, 0x3F200000, 0x3F400000, 0x3F600000,
      0x3F800000, 0x3FA00000, 0x3FC00000, 0x3FE00000, 0x40000000, 0x40200000, 0x40400000, 0x40800000,
      0x41000000, 0x41800000, 0x43000000, 0x43800000, 0x47000000, 0x47800000, 0x7F800000, 0x7FC00000]
    let double : List (BitVec 64) := [
      0xBFF0000000000000, 0x0010000000000000, 0x3EF0000000000000, 0x3F00000000000000,
      0x3F70000000000000, 0x3F80000000000000, 0x3FB0000000000000, 0x3FC0000000000000,
      0x3FD0000000000000, 0x3FD4000000000000, 0x3FD8000000000000, 0x3FDC000000000000,
      0x3FE0000000000000, 0x3FE4000000000000, 0x3FE8000000000000, 0x3FEC000000000000,
      0x3FF0000000000000, 0x3FF4000000000000, 0x3FF8000000000000, 0x3FFC000000000000,
      0x4000000000000000, 0x4004000000000000, 0x4008000000000000, 0x4010000000000000,
      0x4020000000000000, 0x4030000000000000, 0x4060000000000000, 0x4070000000000000,
      0x40E0000000000000, 0x40F0000000000000, 0x7FF0000000000000, 0x7FF8000000000000]
    -- the upper 32 bits
    let quad : List (BitVec 32) := [
      0xBFFF0000, 0x00010000, 0x3FEF0000, 0x3FF00000, 0x3FF70000, 0x3FF80000, 0x3FFB0000, 0x3FFC0000,
      0x3FFD0000, 0x3FFD4000, 0x3FFD8000, 0x3FFDC000, 0x3FFE0000, 0x3FFE4000, 0x3FFE8000, 0x3FFEC000,
      0x3FFF0000, 0x3FFF4000, 0x3FFF8000, 0x3FFFC000, 0x40000000, 0x40004000, 0x40008000, 0x40010000,
      0x40020000, 0x40030000, 0x40060000, 0x40070000, 0x400E0000, 0x400F0000, 0x7FFF0000, 0x7FFF8000]
    ∀ idx : BitVec 5, half[idx.toNat]? = some (Fmt.fli .h idx) ∧ single[idx.toNat]? = some (Fmt.fli .s idx) ∧
      double[idx.toNat]? = some (Fmt.fli .d idx) ∧ quad[idx.toNat]?.map (fun q => q ++ 0#96) = some (Fmt.fli .q idx))

/-- Each completes for every state and operands, writes 1 or 0 (FCLASS the ten-bit mask) to x[rd], accrues its flags (a
signaling NaN raises NV; FLT and FLE raise it for every NaN; FCLASS raises none), and changes nothing else. FMV.X.fmt
writes the low bits of f[rs1] sign-extended, FMV.fmt.X the low bits of x[rs1] boxed, FMVH the high half, FMVP the
pair, without a check of the box and without a flag; FCVTMOD.W.D writes the truncated integer modulo 2^32 sign-
extended and accrues the flags of FCVT.W.D; each completes for every state and operands and changes nothing else.
(45_f.md, 46_d_q_zfh.md, 48_zfinx_zfa_cmo_zawrs.md) -/
def Obligations.ComparisonsClassesAndMovesWriteTheirResult : Prop :=
  (∀ (s : State) (rd rs1 rs2 : Reg),
    WritesXFlags (.feqS rd rs1 rs2) s rd (if Fp.eq (s.fpVal .s rs1) (s.fpVal .s rs2) then 1 else 0)
      (quietFlags (s.fpVal .s rs1) (s.fpVal .s rs2)) ∧
    WritesXFlags (.fltS rd rs1 rs2) s rd (if Fp.lt (s.fpVal .s rs1) (s.fpVal .s rs2) then 1 else 0)
      (signalingFlags (s.fpVal .s rs1) (s.fpVal .s rs2)) ∧
    WritesXFlags (.fleS rd rs1 rs2) s rd (if Fp.le (s.fpVal .s rs1) (s.fpVal .s rs2) then 1 else 0)
      (signalingFlags (s.fpVal .s rs1) (s.fpVal .s rs2)) ∧
    WritesXFlags (.feqD rd rs1 rs2) s rd (if Fp.eq (s.fpVal .d rs1) (s.fpVal .d rs2) then 1 else 0)
      (quietFlags (s.fpVal .d rs1) (s.fpVal .d rs2)) ∧
    WritesXFlags (.fltD rd rs1 rs2) s rd (if Fp.lt (s.fpVal .d rs1) (s.fpVal .d rs2) then 1 else 0)
      (signalingFlags (s.fpVal .d rs1) (s.fpVal .d rs2)) ∧
    WritesXFlags (.fleD rd rs1 rs2) s rd (if Fp.le (s.fpVal .d rs1) (s.fpVal .d rs2) then 1 else 0)
      (signalingFlags (s.fpVal .d rs1) (s.fpVal .d rs2)) ∧
    WritesXFlags (.feqQ rd rs1 rs2) s rd (if Fp.eq (s.fpVal .q rs1) (s.fpVal .q rs2) then 1 else 0)
      (quietFlags (s.fpVal .q rs1) (s.fpVal .q rs2)) ∧
    WritesXFlags (.fltQ rd rs1 rs2) s rd (if Fp.lt (s.fpVal .q rs1) (s.fpVal .q rs2) then 1 else 0)
      (signalingFlags (s.fpVal .q rs1) (s.fpVal .q rs2)) ∧
    WritesXFlags (.fleQ rd rs1 rs2) s rd (if Fp.le (s.fpVal .q rs1) (s.fpVal .q rs2) then 1 else 0)
      (signalingFlags (s.fpVal .q rs1) (s.fpVal .q rs2)) ∧
    WritesXFlags (.feqH rd rs1 rs2) s rd (if Fp.eq (s.fpVal .h rs1) (s.fpVal .h rs2) then 1 else 0)
      (quietFlags (s.fpVal .h rs1) (s.fpVal .h rs2)) ∧
    WritesXFlags (.fltH rd rs1 rs2) s rd (if Fp.lt (s.fpVal .h rs1) (s.fpVal .h rs2) then 1 else 0)
      (signalingFlags (s.fpVal .h rs1) (s.fpVal .h rs2)) ∧
    WritesXFlags (.fleH rd rs1 rs2) s rd (if Fp.le (s.fpVal .h rs1) (s.fpVal .h rs2) then 1 else 0)
      (signalingFlags (s.fpVal .h rs1) (s.fpVal .h rs2)) ∧
    WritesXFlags (.fleqS rd rs1 rs2) s rd (if Fp.le (s.fpVal .s rs1) (s.fpVal .s rs2) then 1 else 0)
      (quietFlags (s.fpVal .s rs1) (s.fpVal .s rs2)) ∧
    WritesXFlags (.fltqS rd rs1 rs2) s rd (if Fp.lt (s.fpVal .s rs1) (s.fpVal .s rs2) then 1 else 0)
      (quietFlags (s.fpVal .s rs1) (s.fpVal .s rs2)) ∧
    WritesXFlags (.fleqD rd rs1 rs2) s rd (if Fp.le (s.fpVal .d rs1) (s.fpVal .d rs2) then 1 else 0)
      (quietFlags (s.fpVal .d rs1) (s.fpVal .d rs2)) ∧
    WritesXFlags (.fltqD rd rs1 rs2) s rd (if Fp.lt (s.fpVal .d rs1) (s.fpVal .d rs2) then 1 else 0)
      (quietFlags (s.fpVal .d rs1) (s.fpVal .d rs2)) ∧
    WritesXFlags (.fleqH rd rs1 rs2) s rd (if Fp.le (s.fpVal .h rs1) (s.fpVal .h rs2) then 1 else 0)
      (quietFlags (s.fpVal .h rs1) (s.fpVal .h rs2)) ∧
    WritesXFlags (.fltqH rd rs1 rs2) s rd (if Fp.lt (s.fpVal .h rs1) (s.fpVal .h rs2) then 1 else 0)
      (quietFlags (s.fpVal .h rs1) (s.fpVal .h rs2)) ∧
    WritesXFlags (.fleqQ rd rs1 rs2) s rd (if Fp.le (s.fpVal .q rs1) (s.fpVal .q rs2) then 1 else 0)
      (quietFlags (s.fpVal .q rs1) (s.fpVal .q rs2)) ∧
    WritesXFlags (.fltqQ rd rs1 rs2) s rd (if Fp.lt (s.fpVal .q rs1) (s.fpVal .q rs2) then 1 else 0)
      (quietFlags (s.fpVal .q rs1) (s.fpVal .q rs2)) ∧
    WritesX (.fclassS rd rs1) s 4 rd ((Fmt.classify .s (s.fpArg .s rs1)).setWidth s.cfg.bits) ∧
    WritesX (.fclassD rd rs1) s 4 rd ((Fmt.classify .d (s.fpArg .d rs1)).setWidth s.cfg.bits) ∧
    WritesX (.fclassQ rd rs1) s 4 rd ((Fmt.classify .q (s.fpArg .q rs1)).setWidth s.cfg.bits) ∧
    WritesX (.fclassH rd rs1) s 4 rd ((Fmt.classify .h (s.fpArg .h rs1)).setWidth s.cfg.bits)) ∧
  (∀ (s : State) (rd rs1 rs2 : Reg),
    WritesX (.fmvXW rd rs1) s 4 rd (((s.readF rs1).setWidth 32).signExtend s.cfg.bits) ∧
    WritesX (.fmvXD rd rs1) s 4 rd (((s.readF rs1).setWidth 64).signExtend s.cfg.bits) ∧
    WritesX (.fmvXH rd rs1) s 4 rd (((s.readF rs1).setWidth 16).signExtend s.cfg.bits) ∧
    WritesF (.fmvWX rd rs1) s 4 rd (box s.cfg.flen (s.readX 32 rs1)) ∧
    WritesF (.fmvDX rd rs1) s 4 rd (box s.cfg.flen (s.readX 64 rs1)) ∧
    WritesF (.fmvHX rd rs1) s 4 rd (box s.cfg.flen (s.readX 16 rs1)) ∧
    WritesX (.fmvhXD rd rs1) s 4 rd (((s.readF rs1).extractLsb' 32 32).signExtend s.cfg.bits) ∧
    WritesX (.fmvhXQ rd rs1) s 4 rd (((s.readF rs1).extractLsb' 64 64).signExtend s.cfg.bits) ∧
    WritesF (.fmvpDX rd rs1 rs2) s 4 rd (box s.cfg.flen (s.readX 32 rs2 ++ s.readX 32 rs1)) ∧
    WritesF (.fmvpQX rd rs1 rs2) s 4 rd (box s.cfg.flen (s.readX 64 rs2 ++ s.readX 64 rs1)) ∧
    WritesXFlags (.fcvtmodWD rd rs1) s rd ((s.fpVal .d rs1).toInt32Mod.1.signExtend s.cfg.bits)
      (s.fpVal .d rs1).toInt32Mod.2)

/-- rm 000 to 100 select RNE, RTZ, RDN, RUP, RMM; 111 selects what frm selects in the same code; 101 and 110, and 111
with frm 101 to 111, are reserved: then each instruction with an rm field, exact conversions included, raises
IllegalInstruction with its own bits. That a reserved mode raises is the choice of 92_eei_decisions.md D10 that
45_f.md R436 takes (assumption log 17, DESIGN CHOICE). (45_f.md, 92_eei_decisions.md) -/
def Obligations.ReservedRoundingModesRaiseIllegal : Prop :=
  ∀ s : State,
    (∀ rm : BitVec 3, rm ≠ 7 → s.effectiveMode rm =
      (if rm = 0 then some .rne else if rm = 1 then some .rtz else if rm = 2 then some .rdn else if rm = 3 then some .rup
        else if rm = 4 then some .rmm else none)) ∧
    s.effectiveMode 7 =
      (if s.frm = 0 then some .rne else if s.frm = 1 then some .rtz else if s.frm = 2 then some .rdn
        else if s.frm = 3 then some .rup else if s.frm = 4 then some .rmm else none) ∧
    ∀ i rm, i.rmField = some rm → s.effectiveMode rm = none → Raises i s (.illegalInstruction (encode i)) 4

/-- For a format of n bits, n at most FLEN: the box of r has r in its low n bits, ones in the FLEN-n bits above and
nothing beyond FLEN; unbox gives the low n bits of a cell whose bits FLEN-1..n are all 1 (or n = FLEN), and the
canonical NaN of any other cell. These are the functions of 10_state.md R42 and R43; that the instructions write and
read through them is said by the statements about those instructions. (10_state.md) -/
def Obligations.BoxAndUnbox : Prop :=
  ∀ (flen : Nat) (f : Fmt), (flen = 32 ∨ flen = 64 ∨ flen = 128) → f.width ≤ flen →
    (∀ r : BitVec f.width, (box flen r).toNat = 2 ^ flen - 2 ^ f.width + r.toNat ∧ unbox flen f.width f.canonicalNaN (box flen r) = r) ∧
    ∀ v : Cell, unbox flen f.width f.canonicalNaN v =
      (if (∀ k, f.width ≤ k → k < flen → v.getLsbD k = true) then v.setWidth f.width else f.canonicalNaN)

/-- The canonical NaNs are the patterns of 45_f.md R438: that of S is the source's, and those of D, H and Q are the
spec's own inference, marked [derived: from the same sentence applied to each width] there (the layouts of the formats
are assumption log 18, PRESUMED, the arithmetic log 28, DEDUCED); where the result of an addition, subtraction,
multiplication, division, square root, fused multiply-add, conversion between formats, conversion from an integer,
rounding to an integer, minimum or maximum is a NaN, it is the canonical NaN; the sign injections, which keep NaN
bits, and the transfers are stated to the contrary. (45_f.md, 46_d_q_zfh.md, 48_zfinx_zfa_cmo_zawrs.md) -/
def Obligations.NanResultsAreCanonical : Prop :=
  Fmt.canonicalNaN .h = 0x7E00#16 ∧ Fmt.canonicalNaN .s = 0x7FC00000#32 ∧ Fmt.canonicalNaN .d = 0x7FF8000000000000#64 ∧
    Fmt.canonicalNaN .q = 0x7FFF8000000000000000000000000000#128 ∧
    ∀ (f : Fmt) (rm : RoundingMode) (a b c : Fp) (u v : BitVec f.width) (n : Int) (m e : Bool),
      let canonical := fun r : BitVec f.width × FpFlags => (f.decode r.1).isNaN = true → r.1 = f.canonicalNaN
      canonical (f.add rm a b) ∧ canonical (f.sub rm a b) ∧ canonical (f.mul rm a b) ∧ canonical (f.div rm a b) ∧
      canonical (f.sqrt rm a) ∧ canonical (f.fma rm a b c) ∧ canonical (f.ofFp rm a) ∧ canonical (f.ofInt rm n) ∧
      canonical (f.roundToIntegral e rm u) ∧ canonical (f.minNum m u v) ∧ canonical (f.minimum m u v) ∧
      (∃ q : BitVec f.width, (f.decode q).isNaN = true ∧ (f.sgnj q q).1 = q ∧ q ≠ f.canonicalNaN)

/-- For an exact value x, not zero and with no sticky part: the result has the sign of x. Where x overflows (rounded
to the precision of the format with no bound on the exponent, its magnitude exceeds that of every finite datum) the
flags are OF and NX and the result is the infinity of that sign for RNE, RMM, RDN below zero and RUP above, else the
finite datum of greatest magnitude. Everywhere else the result is finite, no flag is raised where its value is x, and
else NX, with UF exactly where x is tiny (rounded so, its magnitude is below the least normal one), and nothing more.
A value within the greatest finite magnitude overflows in no mode. RDN gives the greatest finite datum at most x, RUP
the least one at least x, RTZ one of the greatest magnitude at most that of x, where there is one. These are facts of
IEEE 754-2008 that 45_f.md R432 supplies and marks [from general knowledge, not in source], so not the source's own:
that the exact value is rounded once is its (a), NX its (b), the delivery of an overflow by mode and sign with OF and
NX its (c), UF its (d) (R439 is the source's, that tininess is detected after rounding). They are assumption logs 18
(PRESUMED, entry G11 of 93_implementation_defined.md) and 28 (DEDUCED). (45_f.md, 00_scope.md, 10_state.md,
93_implementation_defined.md) -/
def Obligations.RoundingGivesTheDatumAndFlagsOfTheExactValue : Prop :=
  ∀ (f : Fmt) (rm : RoundingMode) (neg : Bool) (m : Nat) (e : Int) (x : ℚ), m ≠ 0 → (Fp.fin neg m e).value = some x →
    let r := f.round rm neg m e false
    let top : ℚ := (2 ^ (f.manBits + 1) - 1) * 2 ^ ((f.bias : Int) - f.manBits)
    let toInf := rm = .rne ∨ rm = .rmm ∨ (rm = .rdn ∧ neg = true) ∨ (rm = .rup ∧ neg = false)
    f.signField r.1 = neg ∧
    (f.Overflows rm neg |x| → r.2 = flagOF ||| flagNX ∧ (toInf → f.decode r.1 = .inf neg) ∧
      (¬toInf → (f.decode r.1).value = some (if neg then -top else top))) ∧
    (¬f.Overflows rm neg |x| → ∃ q : ℚ, (f.decode r.1).value = some q ∧ (q = x → r.2 = 0) ∧
      (q ≠ x → (f.Tiny rm neg |x| → r.2 = flagUF ||| flagNX) ∧ (¬f.Tiny rm neg |x| → r.2 = flagNX))) ∧
    (|x| ≤ top → ¬f.Overflows rm neg |x|) ∧
    ∀ q : ℚ, (f.decode r.1).value = some q →
      (rm = .rdn → q ≤ x ∧ ∀ v y, (f.decode v).value = some y → y ≤ x → y ≤ q) ∧
      (rm = .rup → x ≤ q ∧ ∀ v y, (f.decode v).value = some y → x ≤ y → q ≤ y) ∧
      (rm = .rtz → |q| ≤ |x| ∧ ∀ v y, (f.decode v).value = some y → |y| ≤ |x| → |y| ≤ |q|)

/-- For an exact value, not zero, rounded to nearest even or to nearest with ties to the greater magnitude, whose
result is finite (RoundingGivesTheDatumAndFlagsOfTheExactValue says when it is): no finite datum of the format is
strictly nearer to the exact value than the result, and where another finite value is equally near, the result of RNE
is the datum whose last significand bit is 0, and that of RMM the one of greater magnitude. That the exact value is
rounded once is R432 (a), [from general knowledge, not in source] (logs 18, PRESUMED, and 28, DEDUCED). (10_state.md,
45_f.md, 00_scope.md) -/
def Obligations.NearestRoundingIsNearestAndBreaksTies : Prop :=
  ∀ (f : Fmt) (rm : RoundingMode) (neg : Bool) (m : Nat) (e : Int), m ≠ 0 → (rm = .rne ∨ rm = .rmm) →
    let r := f.round rm neg m e false
    ∀ q x y : ℚ, (f.decode r.1).value = some q → (Fp.fin neg m e).value = some x →
    ∀ v : BitVec f.width, (f.decode v).value = some y → |q - x| ≤ |y - x| ∧
      (|q - x| = |y - x| → y ≠ q → (rm = .rne → f.manField r.1 % 2 = 0) ∧ (rm = .rmm → |y| < |q|))

/-- For finite operands a < b, a = b and a ≤ b hold exactly where they hold of the rational values (so -0 equals +0);
-∞ is below and +∞ above every finite value, -∞ is below +∞, and equal infinities are equal; with a NaN all three are
false. A quiet comparison raises NV for a signaling NaN, a signaling one for any NaN. FMIN and FMAX of two operands
that are no NaNs give one of them, the other not being less (greater), -0 counting as less than +0; of one NaN and
another operand, that operand; of two NaNs the canonical NaN; FMINM and FMAXM give the canonical NaN where one is a
NaN, else what FMIN and FMAX give; each raises NV exactly where an operand is a signaling NaN. The ten bits of FCLASS
are: negative infinity, negative normal, negative subnormal, -0, +0, positive subnormal, positive normal, positive
infinity, signaling NaN, quiet NaN, as the fields of the datum say. That -0 equals +0 is R469's [from general
knowledge, not in source], the order of the infinities is that of IEEE 754-2008, which 45_f.md R432 takes in, and the
fields of a datum are R431's [from general knowledge, not in source]: assumption logs 18 (PRESUMED) and 28 (DEDUCED).
(45_f.md, 48_zfinx_zfa_cmo_zawrs.md) -/
def Obligations.ComparisonsSelectionsAndClassesAreExact : Prop :=
  (∀ a b : Fp, (∀ x y : ℚ, a.value = some x → b.value = some y →
      (a.lt b = true ↔ x < y) ∧ (a.eq b = true ↔ x = y) ∧ (a.le b = true ↔ x ≤ y)) ∧
    (∀ na, a.value ≠ none → (Fp.inf na).lt a = na ∧ a.lt (.inf na) = !na ∧ (Fp.inf na).eq a = false ∧
      a.eq (.inf na) = false ∧ (Fp.inf na).le a = na ∧ a.le (.inf na) = !na) ∧
    (∀ na nb, (Fp.inf na).lt (.inf nb) = (na && !nb) ∧ (Fp.inf na).eq (.inf nb) = (na == nb) ∧
      (Fp.inf na).le (.inf nb) = (na || !nb)) ∧
    ((a.isNaN || b.isNaN) = true → a.lt b = false ∧ a.eq b = false ∧ a.le b = false) ∧
    quietFlags a b = (if a = .nan true ∨ b = .nan true then 0x10 else 0) ∧
    signalingFlags a b = (if (∃ q, a = .nan q) ∨ ∃ q, b = .nan q then 0x10 else 0)) ∧
  (∀ (f : Fmt) (max : Bool) (u v : BitVec f.width),
    let x := f.decode u
    let y := f.decode v
    let nv : FpFlags := if x = .nan true ∨ y = .nan true then 0x10 else 0
    let r := f.minNum max u v
    r.2 = nv ∧
    (x.isNaN = false → y.isNaN = false → (r.1 = u ∨ r.1 = v) ∧
      (if max then y.le (f.decode r.1) && x.le (f.decode r.1) else (f.decode r.1).le x && (f.decode r.1).le y) = true ∧
      (x.eq y = true → (f.decode r.1).isNeg = if max then x.isNeg && y.isNeg else x.isNeg || y.isNeg)) ∧
    (x.isNaN = true → y.isNaN = false → r.1 = v) ∧ (x.isNaN = false → y.isNaN = true → r.1 = u) ∧
    (x.isNaN = true → y.isNaN = true → r.1 = f.canonicalNaN) ∧
    f.minimum max u v = (if x.isNaN || y.isNaN then (f.canonicalNaN, nv) else r)) ∧
  (∀ (f : Fmt) (v : BitVec f.width),
    let sign := 2 ^ (f.width - 1) ≤ v.toNat
    let e := v.toNat / 2 ^ f.manBits % 2 ^ f.expBits
    let m := v.toNat % 2 ^ f.manBits
    let top := 2 ^ f.expBits - 1
    let c := f.classify v
    (c.getLsbD 0 = true ↔ sign ∧ e = top ∧ m = 0) ∧ (c.getLsbD 1 = true ↔ sign ∧ 0 < e ∧ e < top) ∧
    (c.getLsbD 2 = true ↔ sign ∧ e = 0 ∧ m ≠ 0) ∧ (c.getLsbD 3 = true ↔ sign ∧ e = 0 ∧ m = 0) ∧
    (c.getLsbD 4 = true ↔ ¬sign ∧ e = 0 ∧ m = 0) ∧ (c.getLsbD 5 = true ↔ ¬sign ∧ e = 0 ∧ m ≠ 0) ∧
    (c.getLsbD 6 = true ↔ ¬sign ∧ 0 < e ∧ e < top) ∧ (c.getLsbD 7 = true ↔ ¬sign ∧ e = top ∧ m = 0) ∧
    (c.getLsbD 8 = true ↔ e = top ∧ 0 < m ∧ m < 2 ^ (f.manBits - 1)) ∧
    (c.getLsbD 9 = true ↔ e = top ∧ 2 ^ (f.manBits - 1) ≤ m))

/-- Enabled, with a block that may be loaded from or stored to, they complete and change nothing but pc and the
counters, memory being one coherent array (assumption log 11); disabled, they raise IllegalInstruction with their own
bits; enabled with a block that may not be accessed, StoreAccessFault at x[rs1] (both are decision D12 of
92_eei_decisions.md, log 11). That no list of widths limits the access is log 29, and that a block which may be
written and not read, where R677 leaves a CBO UNSPECIFIED, is no exception is log 30 (both DESIGN CHOICE).
(48_zfinx_zfa_cmo_zawrs.md, 20_memory.md, 10_state.md, 92_eei_decisions.md) -/
def Obligations.CacheBlockManagementKeepsMemory : Prop :=
  ∀ (s : State) (rs1 : Reg), ∀ p ∈ ([(.cboInval rs1, s.cfg.cbie != .illegal), (.cboClean rs1, s.cfg.cbcfe),
      (.cboFlush rs1, s.cfg.cbcfe)] : List (Instr × Bool)),
    let ea := (s.readX s.cfg.bits rs1).toNat
    (p.2 = true → s.cfg.cboAccess ea = true → NoEffect p.1 s 4) ∧
    (p.2 = false → Raises p.1 s (.illegalInstruction (encode p.1)) 4) ∧
    (p.2 = true → s.cfg.cboAccess ea = false → Raises p.1 s (.storeAccessFault (BitVec.ofNat 128 ea)) 4)

/-- From canonical memory, enabled, with a block that may be stored to (in a device, one that supports it): it
completes, every byte of the naturally aligned block of CBLOCK_Z bytes around x[rs1] is 0, and every other byte and
every register are unchanged; bytes in a device change no memory, and the device sees one write of the whole block
(the model's choice, assumption log 9). Disabled it raises IllegalInstruction, and not permitted StoreAccessFault at
x[rs1]: that a disabled one raises so, and that the fault reports x[rs1] where the source allows the base of the block
too, is decision D12 of 92_eei_decisions.md in 48_zfinx_zfa_cmo_zawrs.md R677 (log 11, DEDUCED). That no list of
widths limits the access is log 29, and that a block which may be written and not read, where R677 leaves a CBO
UNSPECIFIED, is no exception is log 30 (both DESIGN CHOICE). (48_zfinx_zfa_cmo_zawrs.md, 92_eei_decisions.md) -/
def Obligations.CacheBlockZeroZeroesTheBlock : Prop :=
  ∀ (s : State) (rs1 : Reg),
    let ea := (s.readX s.cfg.bits rs1).toNat
    let size := 2 ^ s.cfg.cblockZLog2
    let block := span s.cfg.bits (ea / size * size) size
    (s.memOk → s.cfg.cbze = true → s.cfg.cboZeroAccess ea = true →
      ∃ t, exec (.cboZero rs1) s = .next t ∧ (∀ a ∈ block, t.byte a = if s.cfg.isIo a then s.byte a else 0) ∧ s.Keeps t [] [] block ∧
        s.RetiredTo t (s.after 4) ∧ s.StaleWithin t block ∧ t.fflags = s.fflags ∧ t.reservation = s.reservation ∧
        t.ioTrace = s.ioTrace ++ s.ioEvents (ea / size * size) size (.write (ea / size * size) (List.replicate size 0))) ∧
    (s.cfg.cbze = false → Raises (.cboZero rs1) s (.illegalInstruction (encode (.cboZero rs1))) 4) ∧
    (s.cfg.cbze = true → s.cfg.cboZeroAccess ea = false →
      Raises (.cboZero rs1) s (.storeAccessFault (BitVec.ofNat 128 ea)) 4)

/-- From canonical memory, with every slot one that may be stored to and raises nothing for its alignment: it
completes, slot k below the old sp holds the k-th register of the list in falling order, sp is lowered by the number
of registers times XLEN/8 rounded up to 16 plus 16 spimm, and every other byte and register is unchanged. The twelve
lists are those of R720, rlist 4 to 15, each in falling order: from x1 alone to x27..x18, x9, x8, x1. Slots in a
device are recorded as writes, in the order of the list (assumption logs 9 and 13). (49_zc.md) -/
def Obligations.PushStoresTheListBelowTheStackPointer : Prop :=
  (∀ rlist : BitVec 4, 4 ≤ rlist.toNat → ([
      [1], [8, 1], [9, 8, 1], [18, 9, 8, 1], [19, 18, 9, 8, 1],
      [20, 19, 18, 9, 8, 1], [21, 20, 19, 18, 9, 8, 1], [22, 21, 20, 19, 18, 9, 8, 1],
      [23, 22, 21, 20, 19, 18, 9, 8, 1], [24, 23, 22, 21, 20, 19, 18, 9, 8, 1],
      [25, 24, 23, 22, 21, 20, 19, 18, 9, 8, 1], [27, 26, 25, 24, 23, 22, 21, 20, 19, 18, 9, 8, 1]] : List (List Reg))[rlist.toNat - 4]? = some (regList rlist)) ∧
  ∀ (s : State) (rlist : BitVec 4) (spimm : BitVec 2), s.memOk → 4 ≤ rlist.toNat → s.SlotsAllow s.sp (regList rlist).length .store →
    ∃ t, exec (.cmPush rlist spimm) s = .next t ∧
      (∀ k r, (regList rlist)[k]? = some r → s.HoldsAt t (s.slot s.sp k) s.cfg.bytes (s.readX s.cfg.bits r).toNat) ∧
      t.readX s.cfg.bits 2 = s.sp - BitVec.ofNat s.cfg.bits
        (((regList rlist).length * s.cfg.bytes + 15) / 16 * 16 + 16 * spimm.toNat) ∧
      s.RetiredTo t (s.after 2) ∧ s.Keeps t [2] [] (s.slotBytes s.sp (regList rlist).length) ∧
      s.StaleWithin t (s.slotBytes s.sp (regList rlist).length) ∧ t.fflags = s.fflags ∧ t.reservation = s.reservation ∧
      t.ioTrace = s.ioTrace ++ s.pushEvents s.sp (regList rlist)

/-- With every slot one that may be loaded and raises nothing for its alignment: each completes, the k-th register of
the list takes the bytes of slot k below sp plus stack_adj (in a device its free answer), sp takes that sum, POPRETZ
also writes 0 to a0; POP goes on 2 bytes later, the returns go to the ra just loaded with bit 0 cleared; nothing else
changes. Slots in a device are recorded as reads, in the order of the list (assumption logs 9 and 13). Which registers
a list holds, in which order, is said by PushStoresTheListBelowTheStackPointer. (49_zc.md) -/
def Obligations.PopLoadsTheListAndReturns : Prop :=
  ∀ (s : State) (rlist : BitVec 4) (spimm : BitVec 2), 4 ≤ rlist.toNat →
    let top := s.sp + BitVec.ofNat s.cfg.bits (((regList rlist).length * s.cfg.bytes + 15) / 16 * 16 + 16 * spimm.toNat)
    let ra := BitVec.ofNat s.cfg.bits (s.seenAt (s.slot top ((regList rlist).length - 1)) s.cfg.bytes)
    s.SlotsAllow top (regList rlist).length .load →
    ∀ p ∈ ([(.cmPop rlist spimm, [], s.after 2), (.cmPopret rlist spimm, [], (ra &&& ~~~1).setWidth 128),
        (.cmPopretz rlist spimm, [10], (ra &&& ~~~1).setWidth 128)] : List (Instr × List Reg × Cell)),
      ∃ t, exec p.1 s = .next t ∧
        (∀ k r, (regList rlist)[k]? = some r →
          t.readX s.cfg.bits r = BitVec.ofNat s.cfg.bits (s.seenAt (s.slot top k) s.cfg.bytes)) ∧
        t.readX s.cfg.bits 2 = top ∧ (∀ r ∈ p.2.1, t.readX s.cfg.bits r = 0) ∧ s.RetiredTo t p.2.2 ∧
        s.Keeps t ([2] ++ p.2.1 ++ regList rlist) [] [] ∧ t.fflags = s.fflags ∧ t.reservation = s.reservation ∧
        t.stale = s.stale ∧ t.ioTrace = s.ioTrace ++ s.popEvents top (regList rlist).length

/-- Where the first k slots may be accessed and slot k may not: CM.PUSH raises the exception of the store of slot k in
the state in which the registers before it have been stored, and CM.POP, CM.POPRET and CM.POPRETZ that of its load in
the state in which the registers before it have been loaded; nothing else has changed, sp and pc least of all. The
exception is that of an ordinary access of XLEN/8 bytes, misaligned before inaccessible: the misaligned one, or the
access fault in its place, where the slot raises for its alignment, else the access fault, also where the region turns
PUSH and POP away. With k = 0 nothing is written. That the slots are accessed one by one in the order of the list is
the pick of 92_eei_decisions.md D15 in 49_zc.md R725 (assumption log 13, DESIGN CHOICE: R723 allows any order). Which
registers a list holds, in which order, is said by PushStoresTheListBelowTheStackPointer. (49_zc.md, 60_exceptions.md,
92_eei_decisions.md) -/
def Obligations.PushAndPopStopAtTheFirstBadSlot : Prop :=
  ∀ (s : State) (rlist : BitVec 4) (spimm : BitVec 2) (k : Nat) (e : Exc), 4 ≤ rlist.toNat → k < (regList rlist).length →
    let top := s.sp + BitVec.ofNat s.cfg.bits (((regList rlist).length * s.cfg.bytes + 15) / 16 * 16 + 16 * spimm.toNat)
    (s.memOk → s.SlotsAllow s.sp k .store → s.SlotRaises (s.slot s.sp k) .store e →
      ∃ u, exec (.cmPush rlist spimm) s = .next (u.raise e 2) ∧
        (∀ j r, j < k → (regList rlist)[j]? = some r →
          s.HoldsAt u (s.slot s.sp j) s.cfg.bytes (s.readX s.cfg.bits r).toNat) ∧
        s.Keeps u [] [] (s.slotBytes s.sp k) ∧ s.StaleWithin u (s.slotBytes s.sp k) ∧ u.pc = s.pc ∧ u.instret = s.instret ∧ u.fflags = s.fflags ∧
        u.reservation = s.reservation ∧ u.ioTrace = s.ioTrace ++ s.pushEvents s.sp ((regList rlist).take k)) ∧
    (s.SlotsAllow top k .load → s.SlotRaises (s.slot top k) .load e →
      ∀ i ∈ ([.cmPop rlist spimm, .cmPopret rlist spimm, .cmPopretz rlist spimm] : List Instr),
        ∃ u, exec i s = .next (u.raise e 2) ∧
          (∀ j r, j < k → (regList rlist)[j]? = some r →
            u.readX s.cfg.bits r = BitVec.ofNat s.cfg.bits (s.seenAt (s.slot top j) s.cfg.bytes)) ∧
          s.Keeps u ((regList rlist).take k) [] [] ∧ u.pc = s.pc ∧ u.instret = s.instret ∧ u.fflags = s.fflags ∧
          u.reservation = s.reservation ∧ u.stale = s.stale ∧ u.ioTrace = s.ioTrace ++ s.popEvents top k)

/-- CM.MVSA01 with two different s registers writes a0 to the first and a1 to the second; CM.MVA01S writes the first to a0
and the second to a1, also where they are the same; the s registers are x8, x9 and x18 to x23; nothing else changes.
(49_zc.md) -/
def Obligations.DoubleMovesMoveBoth : Prop :=
  ∀ (s : State) (r1 r2 : Reg3),
    let sr := fun r : Reg3 => if r.toNat < 2 then BitVec.ofNat 5 (8 + r.toNat) else BitVec.ofNat 5 (16 + r.toNat)
    (r1 ≠ r2 → ∃ t, exec (.cmMvsa01 r1 r2) s = .next t ∧ t.readX s.cfg.bits (sr r1) = s.readX s.cfg.bits 10 ∧
      t.readX s.cfg.bits (sr r2) = s.readX s.cfg.bits 11 ∧ s.RetiredTo t (s.after 2) ∧ s.KeepsRest t [sr r1, sr r2] [] []) ∧
    (∃ t, exec (.cmMva01s r1 r2) s = .next t ∧ t.readX s.cfg.bits 10 = s.readX s.cfg.bits (sr r1) ∧
      t.readX s.cfg.bits 11 = s.readX s.cfg.bits (sr r2) ∧ s.RetiredTo t (s.after 2) ∧ s.KeepsRest t [10, 11] [] [])

/-- With jvt enabled, its mode 0, the table entry fetchable and none of its bytes changed by a store since the last
FENCE.I (else it is a free choice among the values they have held, assumption log 8): they complete and go to the
entry at jvt.BASE plus index times XLEN/8, in the byte order of data, with bit 0 cleared; CM.JALT writes pc + 2 to x1;
nothing else changes. Disabled, or with another mode, they raise IllegalInstruction; with an entry that may not be
fetched, InstructionAccessFault at the entry. That a disabled jvt makes both raise is decision D8 of
92_eei_decisions.md in 49_zc.md R739, and the case of another mode, which jvt of a run never holds, is the model's
(assumption log 24, DEDUCED); that no list of widths limits the read of the entry is log 29. (49_zc.md,
92_eei_decisions.md) -/
def Obligations.TableJumpsGoToTheEntry : Prop :=
  ∀ (s : State) (i5 : BitVec 5) (i8 : BitVec 8),
    ∀ p ∈ ([(.cmJt i5, i5.toNat, 0), (.cmJalt i8, i8.toNat, 1)] : List (Instr × Nat × Reg)),
    let base := s.readJvt &&& ~~~63
    let ea := (base + BitVec.ofNat s.cfg.bits (p.2.1 * s.cfg.bytes)).toNat
    let on := s.cfg.jvtEnabled = true ∧ s.readJvt.toNat % 64 = 0
    (on → s.cfg.fetchable ea s.cfg.bytes = true → s.FetchesCurrent ea s.cfg.bytes →
      JumpsTo p.1 s 2 p.2.2 (BitVec.ofNat s.cfg.bits (s.valueAt ea s.cfg.bytes) &&& ~~~1)) ∧
    (on → s.cfg.fetchable ea s.cfg.bytes = false → Raises p.1 s (.instructionAccessFault (BitVec.ofNat 128 ea)) 2) ∧
    (¬on → Raises p.1 s (.illegalInstruction (encode p.1)) 2)

/-- Whatever the state: an instruction that is not one of the six CSR instructions leaves frm and jvt as they are, and
leaves fflags with at least the flags it had, up to the point where it completes or raises; where every exception ends
the hart, so it does altogether. (A serviced trap may write all three: 60_exceptions.md R751, assumption log 6.)
(10_state.md, 44_zicsr_counters.md, 45_f.md, 60_exceptions.md) -/
def Obligations.OnlyCsrInstructionsWriteControl : Prop :=
  ∀ i s t, i.isCsr = false → exec i s = .next t →
    (∃ u : State, (u.frm = s.frm ∧ u.jvt = s.jvt ∧ ∃ flags, u.fflags = s.fflags ||| flags) ∧
      ((t.frm = u.frm ∧ t.jvt = u.jvt ∧ t.fflags = u.fflags) ∨ ∃ e, t = u.raise e i.len)) ∧
    (s.allFatal → t.frm = s.frm ∧ t.jvt = s.jvt ∧ ∃ flags, t.fflags = s.fflags ||| flags)

/-- Whatever the state: an instruction other than LR.W, LR.D, SC.W and SC.D leaves the reservation as it was, up to
the point where it completes or raises; where every exception ends the hart, so it does altogether. That the hart's
own stores and AMOs and a trap leave it is the choice of 92_eei_decisions.md D9 (assumption logs 16 and 6, DESIGN
CHOICE): 10_state.md R59 allows a reservation to be lost at any time, and a serviced trap may write it. (43_m_a.md,
10_state.md, 60_exceptions.md, 92_eei_decisions.md) -/
def Obligations.OnlyLrAndScTouchTheReservation : Prop :=
  ∀ i s t, i.isLrSc = false → exec i s = .next t →
    (∃ u : State, u.reservation = s.reservation ∧ (t.reservation = u.reservation ∨ ∃ e, t = u.raise e i.len)) ∧
    (s.allFatal → t.reservation = s.reservation)

/-- Where every exception ends the hart (so that no service of the environment writes memory), an instruction outside the
storing ones changes no byte. (20_memory.md, 40_rv32i.md) -/
def Obligations.OnlyStoresWriteMemory : Prop :=
  ∀ i s t, s.allFatal → i.mayStore = false → exec i s = .next t → ∀ a, t.byte a = s.byte a

/-- For finite operands with exact rational values: sum, difference, product, fused product and sum, and the
conversion of an integer or of another format's datum are the rounding of the exact value where it is not 0, and a
zero of the standard's sign where it is; quotient and square root round the exact quotient and real root; a nonzero
value over zero is an infinity with DZ; 0 / 0 and the root of a negative value are invalid, the canonical NaN with NV.
A conversion to an integer gives the value rounded by the mode, with NX where that changes it, or, out of range, the
nearer bound with NV; a NaN converts as the upper bound and an infinity as the bound of its sign, with NV. FCVTMOD.W.D
gives the truncated value modulo 2^32. Rounding to an integer in the same format gives it with the operand's sign, NX
only where asked for and the value changes. A NaN operand (of all but the conversions to integers) gives the canonical
NaN, with NV where one is signaling, and in fused operations for 0 · ∞ whatever the addend. ∞ - ∞, 0 · ∞, ∞ / ∞ and
the root of -∞ are invalid; an infinite product or addend of a fused operation is that infinity unless both are and
their signs differ, which is invalid; between formats and rounded to an integer an infinity stays one. How a value is
rounded: RoundingGivesTheDatumAndFlagsOfTheExactValue, NearestRoundingIsNearestAndBreaksTies. 'The standard' is IEEE
754-2008 as 45_f.md R432 supplies it, marked [from general knowledge, not in source]: one rounding (a), DZ (e), the
invalid operations (f), signs of zeros (g), quiet NaNs (h); so is the sign of a zero result of rounding to an integer
(48_zfinx_zfa_cmo_zawrs.md R657). These clauses are assumption logs 18 (PRESUMED, G11 and G16) and 28 (DEDUCED).
(45_f.md, 00_scope.md, 46_d_q_zfh.md, 48_zfinx_zfa_cmo_zawrs.md, 93_implementation_defined.md) -/
def Obligations.ArithmeticRoundsTheExactResult : Prop :=
  (∀ (f : Fmt) (rm : RoundingMode) (na nb nc : Bool) (ma mb mc : Nat) (ea eb ec : Int) (x y z : ℚ),
    let a := Fp.fin na ma ea
    let b := Fp.fin nb mb eb
    let c := Fp.fin nc mc ec
    a.value = some x → b.value = some y → c.value = some z →
      (if x + y = 0 then f.add rm a b = (f.zero (if na = nb then na else rm == .rdn), 0)
        else f.RoundsReal rm ((x + y : ℚ) : ℝ) (f.add rm a b)) ∧
      (if x - y = 0 then f.sub rm a b = (f.zero (if na = !nb then na else rm == .rdn), 0)
        else f.RoundsReal rm ((x - y : ℚ) : ℝ) (f.sub rm a b)) ∧
      (if x * y = 0 then f.mul rm a b = (f.zero (na != nb), 0) else f.RoundsReal rm ((x * y : ℚ) : ℝ) (f.mul rm a b)) ∧
      (if x * y + z = 0 then f.fma rm a b c = (f.zero (if (na != nb) = nc then nc else rm == .rdn), 0)
        else f.RoundsReal rm ((x * y + z : ℚ) : ℝ) (f.fma rm a b c)) ∧
      (if y = 0 then f.div rm a b = (if x = 0 then (f.canonicalNaN, flagNV) else (f.inf (na != nb), flagDZ))
        else if x = 0 then f.div rm a b = (f.zero (na != nb), 0)
        else f.RoundsReal rm ((x / y : ℚ) : ℝ) (f.div rm a b)) ∧
      (if x = 0 then f.sqrt rm a = (f.zero na, 0) else if x < 0 then f.sqrt rm a = (f.canonicalNaN, flagNV)
        else f.RoundsReal rm (Real.sqrt (x : ℝ)) (f.sqrt rm a)) ∧
      (if x = 0 then f.ofFp rm a = (f.zero na, 0) else f.RoundsReal rm (x : ℝ) (f.ofFp rm a))) ∧
  (∀ (f : Fmt) (rm : RoundingMode) (n : Int),
    if n = 0 then f.ofInt rm n = (f.zero false, 0) else f.RoundsReal rm (n : ℝ) (f.ofInt rm n)) ∧
  (∀ (rm : RoundingMode) (lo hi : Int) (a : Fp),
    (∀ x : ℚ, a.value = some x → a.toInt rm lo hi =
      (if rm.integral x < lo then (lo, flagNV) else if hi < rm.integral x then (hi, flagNV)
        else (rm.integral x, if (rm.integral x : ℚ) = x then 0 else flagNX))) ∧
    (a.isNaN = true → a.toInt rm lo hi = (hi, flagNV)) ∧
    (∀ neg, a = .inf neg → a.toInt rm lo hi = (if neg then lo else hi, flagNV)) ∧
    (∀ x : ℚ, a.value = some x → a.toInt32Mod = (BitVec.ofInt 32 (RoundingMode.integral .rtz x),
      (a.toInt .rtz (-2 ^ 31) (2 ^ 31 - 1)).2)) ∧
    (a.value = none → a.toInt32Mod = (0, flagNV))) ∧
  (∀ (f : Fmt) (exact : Bool) (rm : RoundingMode) (v : BitVec f.width) (x : ℚ), (f.decode v).value = some x →
    let r := f.roundToIntegral exact rm v
    (f.decode r.1).value = some (rm.integral x : ℚ) ∧ f.signField r.1 = f.signField v ∧
      r.2 = if exact = true ∧ (rm.integral x : ℚ) ≠ x then flagNX else 0) ∧
  (∀ (f : Fmt) (rm : RoundingMode) (a b : Fp), a.isNaN = true ∨ b.isNaN = true →
    let r := (f.canonicalNaN, if a = .nan true ∨ b = .nan true then flagNV else (0 : FpFlags))
    f.add rm a b = r ∧ f.sub rm a b = r ∧ f.mul rm a b = r ∧ f.div rm a b = r) ∧
  (∀ (f : Fmt) (rm : RoundingMode) (signaling : Bool),
    let r := (f.canonicalNaN, if signaling then flagNV else (0 : FpFlags))
    f.sqrt rm (.nan signaling) = r ∧ f.ofFp rm (.nan signaling) = r ∧
      (∀ neg, f.ofFp rm (.inf neg) = (f.inf neg, 0)) ∧
      ∀ exact v, (f.decode v = .nan signaling → f.roundToIntegral exact rm v = r) ∧
        (∀ neg, f.decode v = .inf neg → f.roundToIntegral exact rm v = (v, 0))) ∧
  (∀ (f : Fmt) (rm : RoundingMode) (a b c : Fp),
    let infinite := fun p : Fp => ∃ neg, p = .inf neg
    let zeroTimesInf := (a.value = some 0 ∧ infinite b) ∨ (b.value = some 0 ∧ infinite a)
    let invalid := (f.canonicalNaN, flagNV)
    (zeroTimesInf → f.fma rm a b c = invalid) ∧
    (a.isNaN = true ∨ b.isNaN = true ∨ c.isNaN = true → ¬zeroTimesInf →
      f.fma rm a b c =
        (f.canonicalNaN, if a = .nan true ∨ b = .nan true ∨ c = .nan true then flagNV else (0 : FpFlags))) ∧
    (a.isNaN = false → b.isNaN = false → c.isNaN = false → ¬zeroTimesInf → infinite a ∨ infinite b →
      f.fma rm a b c = if c = .inf (a.isNeg == b.isNeg) then invalid else (f.inf (a.isNeg != b.isNeg), 0)) ∧
    (∀ neg, a.value ≠ none → b.value ≠ none → c = .inf neg → f.fma rm a b c = (f.inf neg, 0))) ∧
  (∀ (f : Fmt) (rm : RoundingMode) (na nb : Bool) (mb : Nat) (eb : Int),
    let a := Fp.inf na
    let b := Fp.fin nb mb eb
    let invalid := (f.canonicalNaN, flagNV)
    let inf := (f.inf na, (0 : FpFlags))
    let product := (f.inf (na != nb), (0 : FpFlags))
    f.add rm a (.inf nb) = (if na = nb then inf else invalid) ∧ f.sub rm a (.inf nb) = (if na = nb then invalid else inf) ∧
      f.mul rm a (.inf nb) = product ∧ f.div rm a (.inf nb) = invalid ∧ f.add rm a b = inf ∧ f.add rm b a = inf ∧
      f.sub rm a b = inf ∧ f.sub rm b a = (f.inf !na, 0) ∧ f.mul rm a b = (if mb = 0 then invalid else product) ∧ f.mul rm b a = f.mul rm a b ∧
      f.div rm a b = product ∧ f.div rm b a = (f.zero (na != nb), 0) ∧ f.sqrt rm a = (if na then invalid else inf))
end

