-- ==== Sys2Proof/Laws/State.lean ====
section
/-! SUPPORT. What every update of the state leaves unchanged: one lemma per field per update, and the reads that follow. -/

namespace Sys2Proof.Machine

/-! ### setX -/

@[simp] theorem State.setX_cfg (s : State) {n : Nat} (r : Reg) (v : BitVec n) : (s.setX r v).cfg = s.cfg := by unfold State.setX; split <;> rfl
@[simp] theorem State.setX_f (s : State) {n : Nat} (r : Reg) (v : BitVec n) : (s.setX r v).f = s.f := by unfold State.setX; split <;> rfl
@[simp] theorem State.setX_pc (s : State) {n : Nat} (r : Reg) (v : BitVec n) : (s.setX r v).pc = s.pc := by unfold State.setX; split <;> rfl
@[simp] theorem State.setX_frm (s : State) {n : Nat} (r : Reg) (v : BitVec n) : (s.setX r v).frm = s.frm := by unfold State.setX; split <;> rfl
@[simp] theorem State.setX_fflags (s : State) {n : Nat} (r : Reg) (v : BitVec n) : (s.setX r v).fflags = s.fflags := by unfold State.setX; split <;> rfl
@[simp] theorem State.setX_cycle (s : State) {n : Nat} (r : Reg) (v : BitVec n) : (s.setX r v).cycle = s.cycle := by unfold State.setX; split <;> rfl
@[simp] theorem State.setX_time (s : State) {n : Nat} (r : Reg) (v : BitVec n) : (s.setX r v).time = s.time := by unfold State.setX; split <;> rfl
@[simp] theorem State.setX_instret (s : State) {n : Nat} (r : Reg) (v : BitVec n) : (s.setX r v).instret = s.instret := by unfold State.setX; split <;> rfl
@[simp] theorem State.setX_hpm (s : State) {n : Nat} (r : Reg) (v : BitVec n) : (s.setX r v).hpm = s.hpm := by unfold State.setX; split <;> rfl
@[simp] theorem State.setX_jvt (s : State) {n : Nat} (r : Reg) (v : BitVec n) : (s.setX r v).jvt = s.jvt := by unfold State.setX; split <;> rfl
@[simp] theorem State.setX_reservation (s : State) {n : Nat} (r : Reg) (v : BitVec n) : (s.setX r v).reservation = s.reservation := by unfold State.setX; split <;> rfl
@[simp] theorem State.setX_stalled (s : State) {n : Nat} (r : Reg) (v : BitVec n) : (s.setX r v).stalled = s.stalled := by unfold State.setX; split <;> rfl
@[simp] theorem State.setX_mem (s : State) {n : Nat} (r : Reg) (v : BitVec n) : (s.setX r v).mem = s.mem := by unfold State.setX; split <;> rfl
@[simp] theorem State.setX_stale (s : State) {n : Nat} (r : Reg) (v : BitVec n) : (s.setX r v).stale = s.stale := by unfold State.setX; split <;> rfl
@[simp] theorem State.setX_ioTrace (s : State) {n : Nat} (r : Reg) (v : BitVec n) : (s.setX r v).ioTrace = s.ioTrace := by unfold State.setX; split <;> rfl
@[simp] theorem State.setX_interruptPending (s : State) {n : Nat} (r : Reg) (v : BitVec n) : (s.setX r v).interruptPending = s.interruptPending := by unfold State.setX; split <;> rfl
@[simp] theorem State.setX_interruptEnabled (s : State) {n : Nat} (r : Reg) (v : BitVec n) : (s.setX r v).interruptEnabled = s.interruptEnabled := by unfold State.setX; split <;> rfl
@[simp] theorem State.setX_interruptCause (s : State) {n : Nat} (r : Reg) (v : BitVec n) : (s.setX r v).interruptCause = s.interruptCause := by unfold State.setX; split <;> rfl
@[simp] theorem State.setX_halted (s : State) {n : Nat} (r : Reg) (v : BitVec n) : (s.setX r v).halted = s.halted := by unfold State.setX; split <;> rfl
@[simp] theorem State.setX_draws (s : State) {n : Nat} (r : Reg) (v : BitVec n) : (s.setX r v).draws = s.draws := by unfold State.setX; split <;> rfl
@[simp] theorem State.setX_readF (s : State) {n : Nat} (r : Reg) (v : BitVec n) (q : Reg) : (s.setX r v).readF q = s.readF q := by
  simp [State.readF]
@[simp] theorem State.setX_byte (s : State) {n : Nat} (r : Reg) (v : BitVec n) (b : Nat) : (s.setX r v).byte b = s.byte b := by
  simp [State.byte]

/-! ### setF -/

@[simp] theorem State.setF_cfg (s : State) (r : Reg) (v : Cell) : (s.setF r v).cfg = s.cfg := rfl
@[simp] theorem State.setF_x (s : State) (r : Reg) (v : Cell) : (s.setF r v).x = s.x := rfl
@[simp] theorem State.setF_pc (s : State) (r : Reg) (v : Cell) : (s.setF r v).pc = s.pc := rfl
@[simp] theorem State.setF_frm (s : State) (r : Reg) (v : Cell) : (s.setF r v).frm = s.frm := rfl
@[simp] theorem State.setF_fflags (s : State) (r : Reg) (v : Cell) : (s.setF r v).fflags = s.fflags := rfl
@[simp] theorem State.setF_cycle (s : State) (r : Reg) (v : Cell) : (s.setF r v).cycle = s.cycle := rfl
@[simp] theorem State.setF_time (s : State) (r : Reg) (v : Cell) : (s.setF r v).time = s.time := rfl
@[simp] theorem State.setF_instret (s : State) (r : Reg) (v : Cell) : (s.setF r v).instret = s.instret := rfl
@[simp] theorem State.setF_hpm (s : State) (r : Reg) (v : Cell) : (s.setF r v).hpm = s.hpm := rfl
@[simp] theorem State.setF_jvt (s : State) (r : Reg) (v : Cell) : (s.setF r v).jvt = s.jvt := rfl
@[simp] theorem State.setF_reservation (s : State) (r : Reg) (v : Cell) : (s.setF r v).reservation = s.reservation := rfl
@[simp] theorem State.setF_stalled (s : State) (r : Reg) (v : Cell) : (s.setF r v).stalled = s.stalled := rfl
@[simp] theorem State.setF_mem (s : State) (r : Reg) (v : Cell) : (s.setF r v).mem = s.mem := rfl
@[simp] theorem State.setF_stale (s : State) (r : Reg) (v : Cell) : (s.setF r v).stale = s.stale := rfl
@[simp] theorem State.setF_ioTrace (s : State) (r : Reg) (v : Cell) : (s.setF r v).ioTrace = s.ioTrace := rfl
@[simp] theorem State.setF_interruptPending (s : State) (r : Reg) (v : Cell) : (s.setF r v).interruptPending = s.interruptPending := rfl
@[simp] theorem State.setF_interruptEnabled (s : State) (r : Reg) (v : Cell) : (s.setF r v).interruptEnabled = s.interruptEnabled := rfl
@[simp] theorem State.setF_interruptCause (s : State) (r : Reg) (v : Cell) : (s.setF r v).interruptCause = s.interruptCause := rfl
@[simp] theorem State.setF_halted (s : State) (r : Reg) (v : Cell) : (s.setF r v).halted = s.halted := rfl
@[simp] theorem State.setF_draws (s : State) (r : Reg) (v : Cell) : (s.setF r v).draws = s.draws := rfl
@[simp] theorem State.setF_readX (s : State) (r : Reg) (v : Cell) (m : Nat) (q : Reg) : (s.setF r v).readX m q = s.readX m q := by
  simp [State.readX]
@[simp] theorem State.setF_byte (s : State) (r : Reg) (v : Cell) (b : Nat) : (s.setF r v).byte b = s.byte b := by
  simp [State.byte]

/-! ### tick -/

@[simp] theorem State.tick_cfg (s : State) : (s.tick).cfg = s.cfg := rfl
@[simp] theorem State.tick_x (s : State) : (s.tick).x = s.x := rfl
@[simp] theorem State.tick_f (s : State) : (s.tick).f = s.f := rfl
@[simp] theorem State.tick_pc (s : State) : (s.tick).pc = s.pc := rfl
@[simp] theorem State.tick_frm (s : State) : (s.tick).frm = s.frm := rfl
@[simp] theorem State.tick_fflags (s : State) : (s.tick).fflags = s.fflags := rfl
@[simp] theorem State.tick_instret (s : State) : (s.tick).instret = s.instret := rfl
@[simp] theorem State.tick_jvt (s : State) : (s.tick).jvt = s.jvt := rfl
@[simp] theorem State.tick_reservation (s : State) : (s.tick).reservation = s.reservation := rfl
@[simp] theorem State.tick_stalled (s : State) : (s.tick).stalled = s.stalled := rfl
@[simp] theorem State.tick_mem (s : State) : (s.tick).mem = s.mem := rfl
@[simp] theorem State.tick_stale (s : State) : (s.tick).stale = s.stale := rfl
@[simp] theorem State.tick_ioTrace (s : State) : (s.tick).ioTrace = s.ioTrace := rfl
@[simp] theorem State.tick_interruptPending (s : State) : (s.tick).interruptPending = s.interruptPending := rfl
@[simp] theorem State.tick_interruptEnabled (s : State) : (s.tick).interruptEnabled = s.interruptEnabled := rfl
@[simp] theorem State.tick_interruptCause (s : State) : (s.tick).interruptCause = s.interruptCause := rfl
@[simp] theorem State.tick_halted (s : State) : (s.tick).halted = s.halted := rfl
@[simp] theorem State.tick_readX (s : State) (m : Nat) (q : Reg) : (s.tick).readX m q = s.readX m q := by
  simp [State.readX]
@[simp] theorem State.tick_readF (s : State) (q : Reg) : (s.tick).readF q = s.readF q := by
  simp [State.readF]
@[simp] theorem State.tick_byte (s : State) (b : Nat) : (s.tick).byte b = s.byte b := by
  simp [State.byte]

/-! ### retireTo -/

@[simp] theorem State.retireTo_cfg (s : State) {n : Nat} (v : BitVec n) : (s.retireTo v).cfg = s.cfg := rfl
@[simp] theorem State.retireTo_x (s : State) {n : Nat} (v : BitVec n) : (s.retireTo v).x = s.x := rfl
@[simp] theorem State.retireTo_f (s : State) {n : Nat} (v : BitVec n) : (s.retireTo v).f = s.f := rfl
@[simp] theorem State.retireTo_frm (s : State) {n : Nat} (v : BitVec n) : (s.retireTo v).frm = s.frm := rfl
@[simp] theorem State.retireTo_fflags (s : State) {n : Nat} (v : BitVec n) : (s.retireTo v).fflags = s.fflags := rfl
@[simp] theorem State.retireTo_jvt (s : State) {n : Nat} (v : BitVec n) : (s.retireTo v).jvt = s.jvt := rfl
@[simp] theorem State.retireTo_reservation (s : State) {n : Nat} (v : BitVec n) : (s.retireTo v).reservation = s.reservation := rfl
@[simp] theorem State.retireTo_stalled (s : State) {n : Nat} (v : BitVec n) : (s.retireTo v).stalled = s.stalled := rfl
@[simp] theorem State.retireTo_mem (s : State) {n : Nat} (v : BitVec n) : (s.retireTo v).mem = s.mem := rfl
@[simp] theorem State.retireTo_stale (s : State) {n : Nat} (v : BitVec n) : (s.retireTo v).stale = s.stale := rfl
@[simp] theorem State.retireTo_ioTrace (s : State) {n : Nat} (v : BitVec n) : (s.retireTo v).ioTrace = s.ioTrace := rfl
@[simp] theorem State.retireTo_interruptPending (s : State) {n : Nat} (v : BitVec n) : (s.retireTo v).interruptPending = s.interruptPending := rfl
@[simp] theorem State.retireTo_interruptEnabled (s : State) {n : Nat} (v : BitVec n) : (s.retireTo v).interruptEnabled = s.interruptEnabled := rfl
@[simp] theorem State.retireTo_interruptCause (s : State) {n : Nat} (v : BitVec n) : (s.retireTo v).interruptCause = s.interruptCause := rfl
@[simp] theorem State.retireTo_halted (s : State) {n : Nat} (v : BitVec n) : (s.retireTo v).halted = s.halted := rfl
@[simp] theorem State.retireTo_readX (s : State) {n : Nat} (v : BitVec n) (m : Nat) (q : Reg) : (s.retireTo v).readX m q = s.readX m q := by
  simp [State.readX]
@[simp] theorem State.retireTo_readF (s : State) {n : Nat} (v : BitVec n) (q : Reg) : (s.retireTo v).readF q = s.readF q := by
  simp [State.readF]
@[simp] theorem State.retireTo_byte (s : State) {n : Nat} (v : BitVec n) (b : Nat) : (s.retireTo v).byte b = s.byte b := by
  simp [State.byte]

/-! ### retire -/

@[simp] theorem State.retire_cfg (s : State) (len : Nat) : (s.retire len).cfg = s.cfg := rfl
@[simp] theorem State.retire_x (s : State) (len : Nat) : (s.retire len).x = s.x := rfl
@[simp] theorem State.retire_f (s : State) (len : Nat) : (s.retire len).f = s.f := rfl
@[simp] theorem State.retire_frm (s : State) (len : Nat) : (s.retire len).frm = s.frm := rfl
@[simp] theorem State.retire_fflags (s : State) (len : Nat) : (s.retire len).fflags = s.fflags := rfl
@[simp] theorem State.retire_jvt (s : State) (len : Nat) : (s.retire len).jvt = s.jvt := rfl
@[simp] theorem State.retire_reservation (s : State) (len : Nat) : (s.retire len).reservation = s.reservation := rfl
@[simp] theorem State.retire_stalled (s : State) (len : Nat) : (s.retire len).stalled = s.stalled := rfl
@[simp] theorem State.retire_mem (s : State) (len : Nat) : (s.retire len).mem = s.mem := rfl
@[simp] theorem State.retire_stale (s : State) (len : Nat) : (s.retire len).stale = s.stale := rfl
@[simp] theorem State.retire_ioTrace (s : State) (len : Nat) : (s.retire len).ioTrace = s.ioTrace := rfl
@[simp] theorem State.retire_interruptPending (s : State) (len : Nat) : (s.retire len).interruptPending = s.interruptPending := rfl
@[simp] theorem State.retire_interruptEnabled (s : State) (len : Nat) : (s.retire len).interruptEnabled = s.interruptEnabled := rfl
@[simp] theorem State.retire_interruptCause (s : State) (len : Nat) : (s.retire len).interruptCause = s.interruptCause := rfl
@[simp] theorem State.retire_halted (s : State) (len : Nat) : (s.retire len).halted = s.halted := rfl
@[simp] theorem State.retire_readX (s : State) (len : Nat) (m : Nat) (q : Reg) : (s.retire len).readX m q = s.readX m q := by
  simp [State.readX]
@[simp] theorem State.retire_readF (s : State) (len : Nat) (q : Reg) : (s.retire len).readF q = s.readF q := by
  simp [State.readF]
@[simp] theorem State.retire_byte (s : State) (len : Nat) (b : Nat) : (s.retire len).byte b = s.byte b := by
  simp [State.byte]

/-! ### putByte -/

@[simp] theorem State.putByte_cfg (s : State) (a : Nat) (b : Byte) : (s.putByte a b).cfg = s.cfg := rfl
@[simp] theorem State.putByte_x (s : State) (a : Nat) (b : Byte) : (s.putByte a b).x = s.x := rfl
@[simp] theorem State.putByte_f (s : State) (a : Nat) (b : Byte) : (s.putByte a b).f = s.f := rfl
@[simp] theorem State.putByte_pc (s : State) (a : Nat) (b : Byte) : (s.putByte a b).pc = s.pc := rfl
@[simp] theorem State.putByte_frm (s : State) (a : Nat) (b : Byte) : (s.putByte a b).frm = s.frm := rfl
@[simp] theorem State.putByte_fflags (s : State) (a : Nat) (b : Byte) : (s.putByte a b).fflags = s.fflags := rfl
@[simp] theorem State.putByte_cycle (s : State) (a : Nat) (b : Byte) : (s.putByte a b).cycle = s.cycle := rfl
@[simp] theorem State.putByte_time (s : State) (a : Nat) (b : Byte) : (s.putByte a b).time = s.time := rfl
@[simp] theorem State.putByte_instret (s : State) (a : Nat) (b : Byte) : (s.putByte a b).instret = s.instret := rfl
@[simp] theorem State.putByte_hpm (s : State) (a : Nat) (b : Byte) : (s.putByte a b).hpm = s.hpm := rfl
@[simp] theorem State.putByte_jvt (s : State) (a : Nat) (b : Byte) : (s.putByte a b).jvt = s.jvt := rfl
@[simp] theorem State.putByte_reservation (s : State) (a : Nat) (b : Byte) : (s.putByte a b).reservation = s.reservation := rfl
@[simp] theorem State.putByte_stalled (s : State) (a : Nat) (b : Byte) : (s.putByte a b).stalled = s.stalled := rfl
@[simp] theorem State.putByte_stale (s : State) (a : Nat) (b : Byte) : (s.putByte a b).stale = s.stale := rfl
@[simp] theorem State.putByte_ioTrace (s : State) (a : Nat) (b : Byte) : (s.putByte a b).ioTrace = s.ioTrace := rfl
@[simp] theorem State.putByte_interruptPending (s : State) (a : Nat) (b : Byte) : (s.putByte a b).interruptPending = s.interruptPending := rfl
@[simp] theorem State.putByte_interruptEnabled (s : State) (a : Nat) (b : Byte) : (s.putByte a b).interruptEnabled = s.interruptEnabled := rfl
@[simp] theorem State.putByte_interruptCause (s : State) (a : Nat) (b : Byte) : (s.putByte a b).interruptCause = s.interruptCause := rfl
@[simp] theorem State.putByte_halted (s : State) (a : Nat) (b : Byte) : (s.putByte a b).halted = s.halted := rfl
@[simp] theorem State.putByte_draws (s : State) (a : Nat) (b : Byte) : (s.putByte a b).draws = s.draws := rfl
@[simp] theorem State.putByte_readX (s : State) (a : Nat) (b : Byte) (m : Nat) (q : Reg) : (s.putByte a b).readX m q = s.readX m q := by
  simp [State.readX]
@[simp] theorem State.putByte_readF (s : State) (a : Nat) (b : Byte) (q : Reg) : (s.putByte a b).readF q = s.readF q := by
  simp [State.readF]

/-! ### recordStale -/

@[simp] theorem State.recordStale_cfg (s : State) (old : State) (addrs : List Nat) : (s.recordStale old addrs).cfg = s.cfg := rfl
@[simp] theorem State.recordStale_x (s : State) (old : State) (addrs : List Nat) : (s.recordStale old addrs).x = s.x := rfl
@[simp] theorem State.recordStale_f (s : State) (old : State) (addrs : List Nat) : (s.recordStale old addrs).f = s.f := rfl
@[simp] theorem State.recordStale_pc (s : State) (old : State) (addrs : List Nat) : (s.recordStale old addrs).pc = s.pc := rfl
@[simp] theorem State.recordStale_frm (s : State) (old : State) (addrs : List Nat) : (s.recordStale old addrs).frm = s.frm := rfl
@[simp] theorem State.recordStale_fflags (s : State) (old : State) (addrs : List Nat) : (s.recordStale old addrs).fflags = s.fflags := rfl
@[simp] theorem State.recordStale_cycle (s : State) (old : State) (addrs : List Nat) : (s.recordStale old addrs).cycle = s.cycle := rfl
@[simp] theorem State.recordStale_time (s : State) (old : State) (addrs : List Nat) : (s.recordStale old addrs).time = s.time := rfl
@[simp] theorem State.recordStale_instret (s : State) (old : State) (addrs : List Nat) : (s.recordStale old addrs).instret = s.instret := rfl
@[simp] theorem State.recordStale_hpm (s : State) (old : State) (addrs : List Nat) : (s.recordStale old addrs).hpm = s.hpm := rfl
@[simp] theorem State.recordStale_jvt (s : State) (old : State) (addrs : List Nat) : (s.recordStale old addrs).jvt = s.jvt := rfl
@[simp] theorem State.recordStale_reservation (s : State) (old : State) (addrs : List Nat) : (s.recordStale old addrs).reservation = s.reservation := rfl
@[simp] theorem State.recordStale_stalled (s : State) (old : State) (addrs : List Nat) : (s.recordStale old addrs).stalled = s.stalled := rfl
@[simp] theorem State.recordStale_mem (s : State) (old : State) (addrs : List Nat) : (s.recordStale old addrs).mem = s.mem := rfl
@[simp] theorem State.recordStale_ioTrace (s : State) (old : State) (addrs : List Nat) : (s.recordStale old addrs).ioTrace = s.ioTrace := rfl
@[simp] theorem State.recordStale_interruptPending (s : State) (old : State) (addrs : List Nat) : (s.recordStale old addrs).interruptPending = s.interruptPending := rfl
@[simp] theorem State.recordStale_interruptEnabled (s : State) (old : State) (addrs : List Nat) : (s.recordStale old addrs).interruptEnabled = s.interruptEnabled := rfl
@[simp] theorem State.recordStale_interruptCause (s : State) (old : State) (addrs : List Nat) : (s.recordStale old addrs).interruptCause = s.interruptCause := rfl
@[simp] theorem State.recordStale_halted (s : State) (old : State) (addrs : List Nat) : (s.recordStale old addrs).halted = s.halted := rfl
@[simp] theorem State.recordStale_draws (s : State) (old : State) (addrs : List Nat) : (s.recordStale old addrs).draws = s.draws := rfl
@[simp] theorem State.recordStale_readX (s : State) (old : State) (addrs : List Nat) (m : Nat) (q : Reg) : (s.recordStale old addrs).readX m q = s.readX m q := by
  simp [State.readX]
@[simp] theorem State.recordStale_readF (s : State) (old : State) (addrs : List Nat) (q : Reg) : (s.recordStale old addrs).readF q = s.readF q := by
  simp [State.readF]
@[simp] theorem State.recordStale_byte (s : State) (old : State) (addrs : List Nat) (b : Nat) : (s.recordStale old addrs).byte b = s.byte b := by
  simp [State.byte]

/-! ### storeByte -/

@[simp] theorem State.storeByte_cfg (s : State) (a : Nat) (b : Byte) : (s.storeByte a b).cfg = s.cfg := by unfold State.storeByte; split <;> rfl
@[simp] theorem State.storeByte_x (s : State) (a : Nat) (b : Byte) : (s.storeByte a b).x = s.x := by unfold State.storeByte; split <;> rfl
@[simp] theorem State.storeByte_f (s : State) (a : Nat) (b : Byte) : (s.storeByte a b).f = s.f := by unfold State.storeByte; split <;> rfl
@[simp] theorem State.storeByte_pc (s : State) (a : Nat) (b : Byte) : (s.storeByte a b).pc = s.pc := by unfold State.storeByte; split <;> rfl
@[simp] theorem State.storeByte_frm (s : State) (a : Nat) (b : Byte) : (s.storeByte a b).frm = s.frm := by unfold State.storeByte; split <;> rfl
@[simp] theorem State.storeByte_fflags (s : State) (a : Nat) (b : Byte) : (s.storeByte a b).fflags = s.fflags := by unfold State.storeByte; split <;> rfl
@[simp] theorem State.storeByte_cycle (s : State) (a : Nat) (b : Byte) : (s.storeByte a b).cycle = s.cycle := by unfold State.storeByte; split <;> rfl
@[simp] theorem State.storeByte_time (s : State) (a : Nat) (b : Byte) : (s.storeByte a b).time = s.time := by unfold State.storeByte; split <;> rfl
@[simp] theorem State.storeByte_instret (s : State) (a : Nat) (b : Byte) : (s.storeByte a b).instret = s.instret := by unfold State.storeByte; split <;> rfl
@[simp] theorem State.storeByte_hpm (s : State) (a : Nat) (b : Byte) : (s.storeByte a b).hpm = s.hpm := by unfold State.storeByte; split <;> rfl
@[simp] theorem State.storeByte_jvt (s : State) (a : Nat) (b : Byte) : (s.storeByte a b).jvt = s.jvt := by unfold State.storeByte; split <;> rfl
@[simp] theorem State.storeByte_reservation (s : State) (a : Nat) (b : Byte) : (s.storeByte a b).reservation = s.reservation := by unfold State.storeByte; split <;> rfl
@[simp] theorem State.storeByte_stalled (s : State) (a : Nat) (b : Byte) : (s.storeByte a b).stalled = s.stalled := by unfold State.storeByte; split <;> rfl
@[simp] theorem State.storeByte_stale (s : State) (a : Nat) (b : Byte) : (s.storeByte a b).stale = s.stale := by unfold State.storeByte; split <;> rfl
@[simp] theorem State.storeByte_ioTrace (s : State) (a : Nat) (b : Byte) : (s.storeByte a b).ioTrace = s.ioTrace := by unfold State.storeByte; split <;> rfl
@[simp] theorem State.storeByte_interruptPending (s : State) (a : Nat) (b : Byte) : (s.storeByte a b).interruptPending = s.interruptPending := by unfold State.storeByte; split <;> rfl
@[simp] theorem State.storeByte_interruptEnabled (s : State) (a : Nat) (b : Byte) : (s.storeByte a b).interruptEnabled = s.interruptEnabled := by unfold State.storeByte; split <;> rfl
@[simp] theorem State.storeByte_interruptCause (s : State) (a : Nat) (b : Byte) : (s.storeByte a b).interruptCause = s.interruptCause := by unfold State.storeByte; split <;> rfl
@[simp] theorem State.storeByte_halted (s : State) (a : Nat) (b : Byte) : (s.storeByte a b).halted = s.halted := by unfold State.storeByte; split <;> rfl
@[simp] theorem State.storeByte_draws (s : State) (a : Nat) (b : Byte) : (s.storeByte a b).draws = s.draws := by unfold State.storeByte; split <;> rfl
@[simp] theorem State.storeByte_readX (s : State) (a : Nat) (b : Byte) (m : Nat) (q : Reg) : (s.storeByte a b).readX m q = s.readX m q := by
  simp [State.readX]
@[simp] theorem State.storeByte_readF (s : State) (a : Nat) (b : Byte) (q : Reg) : (s.storeByte a b).readF q = s.readF q := by
  simp [State.readF]

/-! ### storeBytes -/

@[simp] theorem State.storeBytes_cfg (s : State) (as : List Nat) (bs : List Byte) : (s.storeBytes as bs).cfg = s.cfg := by
  induction as generalizing s bs with
  | nil => simp [State.storeBytes]
  | cons a as ih => cases bs <;> simp [State.storeBytes, ih]
@[simp] theorem State.storeBytes_x (s : State) (as : List Nat) (bs : List Byte) : (s.storeBytes as bs).x = s.x := by
  induction as generalizing s bs with
  | nil => simp [State.storeBytes]
  | cons a as ih => cases bs <;> simp [State.storeBytes, ih]
@[simp] theorem State.storeBytes_f (s : State) (as : List Nat) (bs : List Byte) : (s.storeBytes as bs).f = s.f := by
  induction as generalizing s bs with
  | nil => simp [State.storeBytes]
  | cons a as ih => cases bs <;> simp [State.storeBytes, ih]
@[simp] theorem State.storeBytes_pc (s : State) (as : List Nat) (bs : List Byte) : (s.storeBytes as bs).pc = s.pc := by
  induction as generalizing s bs with
  | nil => simp [State.storeBytes]
  | cons a as ih => cases bs <;> simp [State.storeBytes, ih]
@[simp] theorem State.storeBytes_frm (s : State) (as : List Nat) (bs : List Byte) : (s.storeBytes as bs).frm = s.frm := by
  induction as generalizing s bs with
  | nil => simp [State.storeBytes]
  | cons a as ih => cases bs <;> simp [State.storeBytes, ih]
@[simp] theorem State.storeBytes_fflags (s : State) (as : List Nat) (bs : List Byte) : (s.storeBytes as bs).fflags = s.fflags := by
  induction as generalizing s bs with
  | nil => simp [State.storeBytes]
  | cons a as ih => cases bs <;> simp [State.storeBytes, ih]
@[simp] theorem State.storeBytes_cycle (s : State) (as : List Nat) (bs : List Byte) : (s.storeBytes as bs).cycle = s.cycle := by
  induction as generalizing s bs with
  | nil => simp [State.storeBytes]
  | cons a as ih => cases bs <;> simp [State.storeBytes, ih]
@[simp] theorem State.storeBytes_time (s : State) (as : List Nat) (bs : List Byte) : (s.storeBytes as bs).time = s.time := by
  induction as generalizing s bs with
  | nil => simp [State.storeBytes]
  | cons a as ih => cases bs <;> simp [State.storeBytes, ih]
@[simp] theorem State.storeBytes_instret (s : State) (as : List Nat) (bs : List Byte) : (s.storeBytes as bs).instret = s.instret := by
  induction as generalizing s bs with
  | nil => simp [State.storeBytes]
  | cons a as ih => cases bs <;> simp [State.storeBytes, ih]
@[simp] theorem State.storeBytes_hpm (s : State) (as : List Nat) (bs : List Byte) : (s.storeBytes as bs).hpm = s.hpm := by
  induction as generalizing s bs with
  | nil => simp [State.storeBytes]
  | cons a as ih => cases bs <;> simp [State.storeBytes, ih]
@[simp] theorem State.storeBytes_jvt (s : State) (as : List Nat) (bs : List Byte) : (s.storeBytes as bs).jvt = s.jvt := by
  induction as generalizing s bs with
  | nil => simp [State.storeBytes]
  | cons a as ih => cases bs <;> simp [State.storeBytes, ih]
@[simp] theorem State.storeBytes_reservation (s : State) (as : List Nat) (bs : List Byte) : (s.storeBytes as bs).reservation = s.reservation := by
  induction as generalizing s bs with
  | nil => simp [State.storeBytes]
  | cons a as ih => cases bs <;> simp [State.storeBytes, ih]
@[simp] theorem State.storeBytes_stalled (s : State) (as : List Nat) (bs : List Byte) : (s.storeBytes as bs).stalled = s.stalled := by
  induction as generalizing s bs with
  | nil => simp [State.storeBytes]
  | cons a as ih => cases bs <;> simp [State.storeBytes, ih]
@[simp] theorem State.storeBytes_stale (s : State) (as : List Nat) (bs : List Byte) : (s.storeBytes as bs).stale = s.stale := by
  induction as generalizing s bs with
  | nil => simp [State.storeBytes]
  | cons a as ih => cases bs <;> simp [State.storeBytes, ih]
@[simp] theorem State.storeBytes_ioTrace (s : State) (as : List Nat) (bs : List Byte) : (s.storeBytes as bs).ioTrace = s.ioTrace := by
  induction as generalizing s bs with
  | nil => simp [State.storeBytes]
  | cons a as ih => cases bs <;> simp [State.storeBytes, ih]
@[simp] theorem State.storeBytes_interruptPending (s : State) (as : List Nat) (bs : List Byte) : (s.storeBytes as bs).interruptPending = s.interruptPending := by
  induction as generalizing s bs with
  | nil => simp [State.storeBytes]
  | cons a as ih => cases bs <;> simp [State.storeBytes, ih]
@[simp] theorem State.storeBytes_interruptEnabled (s : State) (as : List Nat) (bs : List Byte) : (s.storeBytes as bs).interruptEnabled = s.interruptEnabled := by
  induction as generalizing s bs with
  | nil => simp [State.storeBytes]
  | cons a as ih => cases bs <;> simp [State.storeBytes, ih]
@[simp] theorem State.storeBytes_interruptCause (s : State) (as : List Nat) (bs : List Byte) : (s.storeBytes as bs).interruptCause = s.interruptCause := by
  induction as generalizing s bs with
  | nil => simp [State.storeBytes]
  | cons a as ih => cases bs <;> simp [State.storeBytes, ih]
@[simp] theorem State.storeBytes_halted (s : State) (as : List Nat) (bs : List Byte) : (s.storeBytes as bs).halted = s.halted := by
  induction as generalizing s bs with
  | nil => simp [State.storeBytes]
  | cons a as ih => cases bs <;> simp [State.storeBytes, ih]
@[simp] theorem State.storeBytes_draws (s : State) (as : List Nat) (bs : List Byte) : (s.storeBytes as bs).draws = s.draws := by
  induction as generalizing s bs with
  | nil => simp [State.storeBytes]
  | cons a as ih => cases bs <;> simp [State.storeBytes, ih]
@[simp] theorem State.storeBytes_readX (s : State) (as : List Nat) (bs : List Byte) (m : Nat) (q : Reg) : (s.storeBytes as bs).readX m q = s.readX m q := by
  simp [State.readX]
@[simp] theorem State.storeBytes_readF (s : State) (as : List Nat) (bs : List Byte) (q : Reg) : (s.storeBytes as bs).readF q = s.readF q := by
  simp [State.readF]

/-! ### noteRead -/

@[simp] theorem State.noteRead_cfg (s : State) (ea n : Nat) : (s.noteRead ea n).cfg = s.cfg := by unfold State.noteRead; split <;> rfl
@[simp] theorem State.noteRead_x (s : State) (ea n : Nat) : (s.noteRead ea n).x = s.x := by unfold State.noteRead; split <;> rfl
@[simp] theorem State.noteRead_f (s : State) (ea n : Nat) : (s.noteRead ea n).f = s.f := by unfold State.noteRead; split <;> rfl
@[simp] theorem State.noteRead_pc (s : State) (ea n : Nat) : (s.noteRead ea n).pc = s.pc := by unfold State.noteRead; split <;> rfl
@[simp] theorem State.noteRead_frm (s : State) (ea n : Nat) : (s.noteRead ea n).frm = s.frm := by unfold State.noteRead; split <;> rfl
@[simp] theorem State.noteRead_fflags (s : State) (ea n : Nat) : (s.noteRead ea n).fflags = s.fflags := by unfold State.noteRead; split <;> rfl
@[simp] theorem State.noteRead_cycle (s : State) (ea n : Nat) : (s.noteRead ea n).cycle = s.cycle := by unfold State.noteRead; split <;> rfl
@[simp] theorem State.noteRead_time (s : State) (ea n : Nat) : (s.noteRead ea n).time = s.time := by unfold State.noteRead; split <;> rfl
@[simp] theorem State.noteRead_instret (s : State) (ea n : Nat) : (s.noteRead ea n).instret = s.instret := by unfold State.noteRead; split <;> rfl
@[simp] theorem State.noteRead_hpm (s : State) (ea n : Nat) : (s.noteRead ea n).hpm = s.hpm := by unfold State.noteRead; split <;> rfl
@[simp] theorem State.noteRead_jvt (s : State) (ea n : Nat) : (s.noteRead ea n).jvt = s.jvt := by unfold State.noteRead; split <;> rfl
@[simp] theorem State.noteRead_reservation (s : State) (ea n : Nat) : (s.noteRead ea n).reservation = s.reservation := by unfold State.noteRead; split <;> rfl
@[simp] theorem State.noteRead_stalled (s : State) (ea n : Nat) : (s.noteRead ea n).stalled = s.stalled := by unfold State.noteRead; split <;> rfl
@[simp] theorem State.noteRead_mem (s : State) (ea n : Nat) : (s.noteRead ea n).mem = s.mem := by unfold State.noteRead; split <;> rfl
@[simp] theorem State.noteRead_stale (s : State) (ea n : Nat) : (s.noteRead ea n).stale = s.stale := by unfold State.noteRead; split <;> rfl
@[simp] theorem State.noteRead_interruptPending (s : State) (ea n : Nat) : (s.noteRead ea n).interruptPending = s.interruptPending := by unfold State.noteRead; split <;> rfl
@[simp] theorem State.noteRead_interruptEnabled (s : State) (ea n : Nat) : (s.noteRead ea n).interruptEnabled = s.interruptEnabled := by unfold State.noteRead; split <;> rfl
@[simp] theorem State.noteRead_interruptCause (s : State) (ea n : Nat) : (s.noteRead ea n).interruptCause = s.interruptCause := by unfold State.noteRead; split <;> rfl
@[simp] theorem State.noteRead_halted (s : State) (ea n : Nat) : (s.noteRead ea n).halted = s.halted := by unfold State.noteRead; split <;> rfl
@[simp] theorem State.noteRead_draws (s : State) (ea n : Nat) : (s.noteRead ea n).draws = s.draws := by unfold State.noteRead; split <;> rfl
@[simp] theorem State.noteRead_readX (s : State) (ea n : Nat) (m : Nat) (q : Reg) : (s.noteRead ea n).readX m q = s.readX m q := by
  simp [State.readX]
@[simp] theorem State.noteRead_readF (s : State) (ea n : Nat) (q : Reg) : (s.noteRead ea n).readF q = s.readF q := by
  simp [State.readF]
@[simp] theorem State.noteRead_byte (s : State) (ea n : Nat) (b : Nat) : (s.noteRead ea n).byte b = s.byte b := by
  simp [State.byte]

/-! ### noteWrite -/

@[simp] theorem State.noteWrite_cfg (s : State) (ea : Nat) (bs : List Byte) : (s.noteWrite ea bs).cfg = s.cfg := by unfold State.noteWrite; split <;> rfl
@[simp] theorem State.noteWrite_x (s : State) (ea : Nat) (bs : List Byte) : (s.noteWrite ea bs).x = s.x := by unfold State.noteWrite; split <;> rfl
@[simp] theorem State.noteWrite_f (s : State) (ea : Nat) (bs : List Byte) : (s.noteWrite ea bs).f = s.f := by unfold State.noteWrite; split <;> rfl
@[simp] theorem State.noteWrite_pc (s : State) (ea : Nat) (bs : List Byte) : (s.noteWrite ea bs).pc = s.pc := by unfold State.noteWrite; split <;> rfl
@[simp] theorem State.noteWrite_frm (s : State) (ea : Nat) (bs : List Byte) : (s.noteWrite ea bs).frm = s.frm := by unfold State.noteWrite; split <;> rfl
@[simp] theorem State.noteWrite_fflags (s : State) (ea : Nat) (bs : List Byte) : (s.noteWrite ea bs).fflags = s.fflags := by unfold State.noteWrite; split <;> rfl
@[simp] theorem State.noteWrite_cycle (s : State) (ea : Nat) (bs : List Byte) : (s.noteWrite ea bs).cycle = s.cycle := by unfold State.noteWrite; split <;> rfl
@[simp] theorem State.noteWrite_time (s : State) (ea : Nat) (bs : List Byte) : (s.noteWrite ea bs).time = s.time := by unfold State.noteWrite; split <;> rfl
@[simp] theorem State.noteWrite_instret (s : State) (ea : Nat) (bs : List Byte) : (s.noteWrite ea bs).instret = s.instret := by unfold State.noteWrite; split <;> rfl
@[simp] theorem State.noteWrite_hpm (s : State) (ea : Nat) (bs : List Byte) : (s.noteWrite ea bs).hpm = s.hpm := by unfold State.noteWrite; split <;> rfl
@[simp] theorem State.noteWrite_jvt (s : State) (ea : Nat) (bs : List Byte) : (s.noteWrite ea bs).jvt = s.jvt := by unfold State.noteWrite; split <;> rfl
@[simp] theorem State.noteWrite_reservation (s : State) (ea : Nat) (bs : List Byte) : (s.noteWrite ea bs).reservation = s.reservation := by unfold State.noteWrite; split <;> rfl
@[simp] theorem State.noteWrite_stalled (s : State) (ea : Nat) (bs : List Byte) : (s.noteWrite ea bs).stalled = s.stalled := by unfold State.noteWrite; split <;> rfl
@[simp] theorem State.noteWrite_mem (s : State) (ea : Nat) (bs : List Byte) : (s.noteWrite ea bs).mem = s.mem := by unfold State.noteWrite; split <;> rfl
@[simp] theorem State.noteWrite_stale (s : State) (ea : Nat) (bs : List Byte) : (s.noteWrite ea bs).stale = s.stale := by unfold State.noteWrite; split <;> rfl
@[simp] theorem State.noteWrite_interruptPending (s : State) (ea : Nat) (bs : List Byte) : (s.noteWrite ea bs).interruptPending = s.interruptPending := by unfold State.noteWrite; split <;> rfl
@[simp] theorem State.noteWrite_interruptEnabled (s : State) (ea : Nat) (bs : List Byte) : (s.noteWrite ea bs).interruptEnabled = s.interruptEnabled := by unfold State.noteWrite; split <;> rfl
@[simp] theorem State.noteWrite_interruptCause (s : State) (ea : Nat) (bs : List Byte) : (s.noteWrite ea bs).interruptCause = s.interruptCause := by unfold State.noteWrite; split <;> rfl
@[simp] theorem State.noteWrite_halted (s : State) (ea : Nat) (bs : List Byte) : (s.noteWrite ea bs).halted = s.halted := by unfold State.noteWrite; split <;> rfl
@[simp] theorem State.noteWrite_draws (s : State) (ea : Nat) (bs : List Byte) : (s.noteWrite ea bs).draws = s.draws := by unfold State.noteWrite; split <;> rfl
@[simp] theorem State.noteWrite_readX (s : State) (ea : Nat) (bs : List Byte) (m : Nat) (q : Reg) : (s.noteWrite ea bs).readX m q = s.readX m q := by
  simp [State.readX]
@[simp] theorem State.noteWrite_readF (s : State) (ea : Nat) (bs : List Byte) (q : Reg) : (s.noteWrite ea bs).readF q = s.readF q := by
  simp [State.readF]
@[simp] theorem State.noteWrite_byte (s : State) (ea : Nat) (bs : List Byte) (b : Nat) : (s.noteWrite ea bs).byte b = s.byte b := by
  simp [State.byte]

/-! ### readMem_snd -/

@[simp] theorem State.readMem_snd_cfg (s : State) (ea n : Nat) : (s.readMem ea n).2.cfg = s.cfg := by simp [State.readMem]
@[simp] theorem State.readMem_snd_x (s : State) (ea n : Nat) : (s.readMem ea n).2.x = s.x := by simp [State.readMem]
@[simp] theorem State.readMem_snd_f (s : State) (ea n : Nat) : (s.readMem ea n).2.f = s.f := by simp [State.readMem]
@[simp] theorem State.readMem_snd_pc (s : State) (ea n : Nat) : (s.readMem ea n).2.pc = s.pc := by simp [State.readMem]
@[simp] theorem State.readMem_snd_frm (s : State) (ea n : Nat) : (s.readMem ea n).2.frm = s.frm := by simp [State.readMem]
@[simp] theorem State.readMem_snd_fflags (s : State) (ea n : Nat) : (s.readMem ea n).2.fflags = s.fflags := by simp [State.readMem]
@[simp] theorem State.readMem_snd_cycle (s : State) (ea n : Nat) : (s.readMem ea n).2.cycle = s.cycle := by simp [State.readMem]
@[simp] theorem State.readMem_snd_time (s : State) (ea n : Nat) : (s.readMem ea n).2.time = s.time := by simp [State.readMem]
@[simp] theorem State.readMem_snd_instret (s : State) (ea n : Nat) : (s.readMem ea n).2.instret = s.instret := by simp [State.readMem]
@[simp] theorem State.readMem_snd_hpm (s : State) (ea n : Nat) : (s.readMem ea n).2.hpm = s.hpm := by simp [State.readMem]
@[simp] theorem State.readMem_snd_jvt (s : State) (ea n : Nat) : (s.readMem ea n).2.jvt = s.jvt := by simp [State.readMem]
@[simp] theorem State.readMem_snd_reservation (s : State) (ea n : Nat) : (s.readMem ea n).2.reservation = s.reservation := by simp [State.readMem]
@[simp] theorem State.readMem_snd_stalled (s : State) (ea n : Nat) : (s.readMem ea n).2.stalled = s.stalled := by simp [State.readMem]
@[simp] theorem State.readMem_snd_mem (s : State) (ea n : Nat) : (s.readMem ea n).2.mem = s.mem := by simp [State.readMem]
@[simp] theorem State.readMem_snd_stale (s : State) (ea n : Nat) : (s.readMem ea n).2.stale = s.stale := by simp [State.readMem]
@[simp] theorem State.readMem_snd_interruptPending (s : State) (ea n : Nat) : (s.readMem ea n).2.interruptPending = s.interruptPending := by simp [State.readMem]
@[simp] theorem State.readMem_snd_interruptEnabled (s : State) (ea n : Nat) : (s.readMem ea n).2.interruptEnabled = s.interruptEnabled := by simp [State.readMem]
@[simp] theorem State.readMem_snd_interruptCause (s : State) (ea n : Nat) : (s.readMem ea n).2.interruptCause = s.interruptCause := by simp [State.readMem]
@[simp] theorem State.readMem_snd_halted (s : State) (ea n : Nat) : (s.readMem ea n).2.halted = s.halted := by simp [State.readMem]
@[simp] theorem State.readMem_snd_draws (s : State) (ea n : Nat) : (s.readMem ea n).2.draws = s.draws := by simp [State.readMem]
@[simp] theorem State.readMem_snd_readX (s : State) (ea n : Nat) (m : Nat) (q : Reg) : (s.readMem ea n).2.readX m q = s.readX m q := by
  simp [State.readX]
@[simp] theorem State.readMem_snd_readF (s : State) (ea n : Nat) (q : Reg) : (s.readMem ea n).2.readF q = s.readF q := by
  simp [State.readF]
@[simp] theorem State.readMem_snd_byte (s : State) (ea n : Nat) (b : Nat) : (s.readMem ea n).2.byte b = s.byte b := by
  simp [State.byte]

/-! ### writeMem -/

@[simp] theorem State.writeMem_cfg (s : State) (ea n v : Nat) : (s.writeMem ea n v).cfg = s.cfg := by simp [State.writeMem]
@[simp] theorem State.writeMem_x (s : State) (ea n v : Nat) : (s.writeMem ea n v).x = s.x := by simp [State.writeMem]
@[simp] theorem State.writeMem_f (s : State) (ea n v : Nat) : (s.writeMem ea n v).f = s.f := by simp [State.writeMem]
@[simp] theorem State.writeMem_pc (s : State) (ea n v : Nat) : (s.writeMem ea n v).pc = s.pc := by simp [State.writeMem]
@[simp] theorem State.writeMem_frm (s : State) (ea n v : Nat) : (s.writeMem ea n v).frm = s.frm := by simp [State.writeMem]
@[simp] theorem State.writeMem_fflags (s : State) (ea n v : Nat) : (s.writeMem ea n v).fflags = s.fflags := by simp [State.writeMem]
@[simp] theorem State.writeMem_cycle (s : State) (ea n v : Nat) : (s.writeMem ea n v).cycle = s.cycle := by simp [State.writeMem]
@[simp] theorem State.writeMem_time (s : State) (ea n v : Nat) : (s.writeMem ea n v).time = s.time := by simp [State.writeMem]
@[simp] theorem State.writeMem_instret (s : State) (ea n v : Nat) : (s.writeMem ea n v).instret = s.instret := by simp [State.writeMem]
@[simp] theorem State.writeMem_hpm (s : State) (ea n v : Nat) : (s.writeMem ea n v).hpm = s.hpm := by simp [State.writeMem]
@[simp] theorem State.writeMem_jvt (s : State) (ea n v : Nat) : (s.writeMem ea n v).jvt = s.jvt := by simp [State.writeMem]
@[simp] theorem State.writeMem_reservation (s : State) (ea n v : Nat) : (s.writeMem ea n v).reservation = s.reservation := by simp [State.writeMem]
@[simp] theorem State.writeMem_stalled (s : State) (ea n v : Nat) : (s.writeMem ea n v).stalled = s.stalled := by simp [State.writeMem]
@[simp] theorem State.writeMem_interruptPending (s : State) (ea n v : Nat) : (s.writeMem ea n v).interruptPending = s.interruptPending := by simp [State.writeMem]
@[simp] theorem State.writeMem_interruptEnabled (s : State) (ea n v : Nat) : (s.writeMem ea n v).interruptEnabled = s.interruptEnabled := by simp [State.writeMem]
@[simp] theorem State.writeMem_interruptCause (s : State) (ea n v : Nat) : (s.writeMem ea n v).interruptCause = s.interruptCause := by simp [State.writeMem]
@[simp] theorem State.writeMem_halted (s : State) (ea n v : Nat) : (s.writeMem ea n v).halted = s.halted := by simp [State.writeMem]
@[simp] theorem State.writeMem_draws (s : State) (ea n v : Nat) : (s.writeMem ea n v).draws = s.draws := by simp [State.writeMem]
@[simp] theorem State.writeMem_readX (s : State) (ea n v : Nat) (m : Nat) (q : Reg) : (s.writeMem ea n v).readX m q = s.readX m q := by
  simp [State.readX]
@[simp] theorem State.writeMem_readF (s : State) (ea n v : Nat) (q : Reg) : (s.writeMem ea n v).readF q = s.readF q := by
  simp [State.readF]

/-! ### putBytes -/

/-- What storing a byte keeps, storing bytes keeps. -/
theorem foldl_putByte_keeps {α : Type} (g : State → α) (bits : Nat) (w : List (Nat × Byte)) (s : State)
    (h : ∀ t a b, g (State.putByte t a b) = g t) :
    g (w.foldl (fun t p => t.putByte (p.1 % 2 ^ bits) p.2) s) = g s := by
  induction w generalizing s with
  | nil => rfl
  | cons p w ih => exact (ih _).trans (h _ _ _)

@[simp] theorem State.putBytes_cfg (s : State) (w : List (Nat × Byte)) : (s.putBytes w).cfg = s.cfg := foldl_putByte_keeps (·.cfg) _ w s fun _ _ _ => rfl
@[simp] theorem State.putBytes_x (s : State) (w : List (Nat × Byte)) : (s.putBytes w).x = s.x := foldl_putByte_keeps (·.x) _ w s fun _ _ _ => rfl
@[simp] theorem State.putBytes_f (s : State) (w : List (Nat × Byte)) : (s.putBytes w).f = s.f := foldl_putByte_keeps (·.f) _ w s fun _ _ _ => rfl
@[simp] theorem State.putBytes_pc (s : State) (w : List (Nat × Byte)) : (s.putBytes w).pc = s.pc := foldl_putByte_keeps (·.pc) _ w s fun _ _ _ => rfl
@[simp] theorem State.putBytes_frm (s : State) (w : List (Nat × Byte)) : (s.putBytes w).frm = s.frm := foldl_putByte_keeps (·.frm) _ w s fun _ _ _ => rfl
@[simp] theorem State.putBytes_fflags (s : State) (w : List (Nat × Byte)) : (s.putBytes w).fflags = s.fflags := foldl_putByte_keeps (·.fflags) _ w s fun _ _ _ => rfl
@[simp] theorem State.putBytes_cycle (s : State) (w : List (Nat × Byte)) : (s.putBytes w).cycle = s.cycle := foldl_putByte_keeps (·.cycle) _ w s fun _ _ _ => rfl
@[simp] theorem State.putBytes_time (s : State) (w : List (Nat × Byte)) : (s.putBytes w).time = s.time := foldl_putByte_keeps (·.time) _ w s fun _ _ _ => rfl
@[simp] theorem State.putBytes_instret (s : State) (w : List (Nat × Byte)) : (s.putBytes w).instret = s.instret := foldl_putByte_keeps (·.instret) _ w s fun _ _ _ => rfl
@[simp] theorem State.putBytes_hpm (s : State) (w : List (Nat × Byte)) : (s.putBytes w).hpm = s.hpm := foldl_putByte_keeps (·.hpm) _ w s fun _ _ _ => rfl
@[simp] theorem State.putBytes_jvt (s : State) (w : List (Nat × Byte)) : (s.putBytes w).jvt = s.jvt := foldl_putByte_keeps (·.jvt) _ w s fun _ _ _ => rfl
@[simp] theorem State.putBytes_reservation (s : State) (w : List (Nat × Byte)) : (s.putBytes w).reservation = s.reservation := foldl_putByte_keeps (·.reservation) _ w s fun _ _ _ => rfl
@[simp] theorem State.putBytes_stalled (s : State) (w : List (Nat × Byte)) : (s.putBytes w).stalled = s.stalled := foldl_putByte_keeps (·.stalled) _ w s fun _ _ _ => rfl
@[simp] theorem State.putBytes_ioTrace (s : State) (w : List (Nat × Byte)) : (s.putBytes w).ioTrace = s.ioTrace := foldl_putByte_keeps (·.ioTrace) _ w s fun _ _ _ => rfl
@[simp] theorem State.putBytes_interruptPending (s : State) (w : List (Nat × Byte)) : (s.putBytes w).interruptPending = s.interruptPending := foldl_putByte_keeps (·.interruptPending) _ w s fun _ _ _ => rfl
@[simp] theorem State.putBytes_interruptEnabled (s : State) (w : List (Nat × Byte)) : (s.putBytes w).interruptEnabled = s.interruptEnabled := foldl_putByte_keeps (·.interruptEnabled) _ w s fun _ _ _ => rfl
@[simp] theorem State.putBytes_interruptCause (s : State) (w : List (Nat × Byte)) : (s.putBytes w).interruptCause = s.interruptCause := foldl_putByte_keeps (·.interruptCause) _ w s fun _ _ _ => rfl
@[simp] theorem State.putBytes_halted (s : State) (w : List (Nat × Byte)) : (s.putBytes w).halted = s.halted := foldl_putByte_keeps (·.halted) _ w s fun _ _ _ => rfl
@[simp] theorem State.putBytes_draws (s : State) (w : List (Nat × Byte)) : (s.putBytes w).draws = s.draws := foldl_putByte_keeps (·.draws) _ w s fun _ _ _ => rfl
@[simp] theorem State.putBytes_readX (s : State) (w : List (Nat × Byte)) (m : Nat) (q : Reg) : (s.putBytes w).readX m q = s.readX m q := by
  simp [State.readX]
@[simp] theorem State.putBytes_readF (s : State) (w : List (Nat × Byte)) (q : Reg) : (s.putBytes w).readF q = s.readF q := by
  simp [State.readF]

/-! ### serveControl -/

@[simp] theorem State.serveControl_cfg (s : State) (v : Service) : (s.serveControl v).cfg = s.cfg := rfl
@[simp] theorem State.serveControl_x (s : State) (v : Service) : (s.serveControl v).x = s.x := rfl
@[simp] theorem State.serveControl_f (s : State) (v : Service) : (s.serveControl v).f = s.f := rfl
@[simp] theorem State.serveControl_pc (s : State) (v : Service) : (s.serveControl v).pc = s.pc := rfl
@[simp] theorem State.serveControl_cycle (s : State) (v : Service) : (s.serveControl v).cycle = s.cycle := rfl
@[simp] theorem State.serveControl_time (s : State) (v : Service) : (s.serveControl v).time = s.time := rfl
@[simp] theorem State.serveControl_instret (s : State) (v : Service) : (s.serveControl v).instret = s.instret := rfl
@[simp] theorem State.serveControl_hpm (s : State) (v : Service) : (s.serveControl v).hpm = s.hpm := rfl
@[simp] theorem State.serveControl_stalled (s : State) (v : Service) : (s.serveControl v).stalled = s.stalled := rfl
@[simp] theorem State.serveControl_mem (s : State) (v : Service) : (s.serveControl v).mem = s.mem := rfl
@[simp] theorem State.serveControl_interruptPending (s : State) (v : Service) : (s.serveControl v).interruptPending = s.interruptPending := rfl
@[simp] theorem State.serveControl_interruptEnabled (s : State) (v : Service) : (s.serveControl v).interruptEnabled = s.interruptEnabled := rfl
@[simp] theorem State.serveControl_interruptCause (s : State) (v : Service) : (s.serveControl v).interruptCause = s.interruptCause := rfl
@[simp] theorem State.serveControl_halted (s : State) (v : Service) : (s.serveControl v).halted = s.halted := rfl
@[simp] theorem State.serveControl_draws (s : State) (v : Service) : (s.serveControl v).draws = s.draws := rfl
@[simp] theorem State.serveControl_readX (s : State) (v : Service) (m : Nat) (q : Reg) : (s.serveControl v).readX m q = s.readX m q := by
  simp [State.readX]
@[simp] theorem State.serveControl_readF (s : State) (v : Service) (q : Reg) : (s.serveControl v).readF q = s.readF q := by
  simp [State.readF]
@[simp] theorem State.serveControl_byte (s : State) (v : Service) (b : Nat) : (s.serveControl v).byte b = s.byte b := by
  simp [State.byte]

/-! ### terminate -/

@[simp] theorem State.terminate_cfg (s : State) (e : Exc) : (s.terminate e).cfg = s.cfg := rfl
@[simp] theorem State.terminate_x (s : State) (e : Exc) : (s.terminate e).x = s.x := rfl
@[simp] theorem State.terminate_f (s : State) (e : Exc) : (s.terminate e).f = s.f := rfl
@[simp] theorem State.terminate_pc (s : State) (e : Exc) : (s.terminate e).pc = s.pc := rfl
@[simp] theorem State.terminate_frm (s : State) (e : Exc) : (s.terminate e).frm = s.frm := rfl
@[simp] theorem State.terminate_fflags (s : State) (e : Exc) : (s.terminate e).fflags = s.fflags := rfl
@[simp] theorem State.terminate_cycle (s : State) (e : Exc) : (s.terminate e).cycle = s.cycle := rfl
@[simp] theorem State.terminate_time (s : State) (e : Exc) : (s.terminate e).time = s.time := rfl
@[simp] theorem State.terminate_instret (s : State) (e : Exc) : (s.terminate e).instret = s.instret := rfl
@[simp] theorem State.terminate_hpm (s : State) (e : Exc) : (s.terminate e).hpm = s.hpm := rfl
@[simp] theorem State.terminate_jvt (s : State) (e : Exc) : (s.terminate e).jvt = s.jvt := rfl
@[simp] theorem State.terminate_reservation (s : State) (e : Exc) : (s.terminate e).reservation = s.reservation := rfl
@[simp] theorem State.terminate_stalled (s : State) (e : Exc) : (s.terminate e).stalled = s.stalled := rfl
@[simp] theorem State.terminate_mem (s : State) (e : Exc) : (s.terminate e).mem = s.mem := rfl
@[simp] theorem State.terminate_stale (s : State) (e : Exc) : (s.terminate e).stale = s.stale := rfl
@[simp] theorem State.terminate_ioTrace (s : State) (e : Exc) : (s.terminate e).ioTrace = s.ioTrace := rfl
@[simp] theorem State.terminate_interruptPending (s : State) (e : Exc) : (s.terminate e).interruptPending = s.interruptPending := rfl
@[simp] theorem State.terminate_interruptEnabled (s : State) (e : Exc) : (s.terminate e).interruptEnabled = s.interruptEnabled := rfl
@[simp] theorem State.terminate_interruptCause (s : State) (e : Exc) : (s.terminate e).interruptCause = s.interruptCause := rfl
@[simp] theorem State.terminate_draws (s : State) (e : Exc) : (s.terminate e).draws = s.draws := rfl
@[simp] theorem State.terminate_readX (s : State) (e : Exc) (m : Nat) (q : Reg) : (s.terminate e).readX m q = s.readX m q := by
  simp [State.readX]
@[simp] theorem State.terminate_readF (s : State) (e : Exc) (q : Reg) : (s.terminate e).readF q = s.readF q := by
  simp [State.readF]
@[simp] theorem State.terminate_byte (s : State) (e : Exc) (b : Nat) : (s.terminate e).byte b = s.byte b := by
  simp [State.byte]

/-! ### accrue -/

@[simp] theorem State.accrue_cfg (s : State) (fl : FpFlags) : (s.accrue fl).cfg = s.cfg := rfl
@[simp] theorem State.accrue_x (s : State) (fl : FpFlags) : (s.accrue fl).x = s.x := rfl
@[simp] theorem State.accrue_f (s : State) (fl : FpFlags) : (s.accrue fl).f = s.f := rfl
@[simp] theorem State.accrue_pc (s : State) (fl : FpFlags) : (s.accrue fl).pc = s.pc := rfl
@[simp] theorem State.accrue_frm (s : State) (fl : FpFlags) : (s.accrue fl).frm = s.frm := rfl
@[simp] theorem State.accrue_cycle (s : State) (fl : FpFlags) : (s.accrue fl).cycle = s.cycle := rfl
@[simp] theorem State.accrue_time (s : State) (fl : FpFlags) : (s.accrue fl).time = s.time := rfl
@[simp] theorem State.accrue_instret (s : State) (fl : FpFlags) : (s.accrue fl).instret = s.instret := rfl
@[simp] theorem State.accrue_hpm (s : State) (fl : FpFlags) : (s.accrue fl).hpm = s.hpm := rfl
@[simp] theorem State.accrue_jvt (s : State) (fl : FpFlags) : (s.accrue fl).jvt = s.jvt := rfl
@[simp] theorem State.accrue_reservation (s : State) (fl : FpFlags) : (s.accrue fl).reservation = s.reservation := rfl
@[simp] theorem State.accrue_stalled (s : State) (fl : FpFlags) : (s.accrue fl).stalled = s.stalled := rfl
@[simp] theorem State.accrue_mem (s : State) (fl : FpFlags) : (s.accrue fl).mem = s.mem := rfl
@[simp] theorem State.accrue_stale (s : State) (fl : FpFlags) : (s.accrue fl).stale = s.stale := rfl
@[simp] theorem State.accrue_ioTrace (s : State) (fl : FpFlags) : (s.accrue fl).ioTrace = s.ioTrace := rfl
@[simp] theorem State.accrue_interruptPending (s : State) (fl : FpFlags) : (s.accrue fl).interruptPending = s.interruptPending := rfl
@[simp] theorem State.accrue_interruptEnabled (s : State) (fl : FpFlags) : (s.accrue fl).interruptEnabled = s.interruptEnabled := rfl
@[simp] theorem State.accrue_interruptCause (s : State) (fl : FpFlags) : (s.accrue fl).interruptCause = s.interruptCause := rfl
@[simp] theorem State.accrue_halted (s : State) (fl : FpFlags) : (s.accrue fl).halted = s.halted := rfl
@[simp] theorem State.accrue_draws (s : State) (fl : FpFlags) : (s.accrue fl).draws = s.draws := rfl
@[simp] theorem State.accrue_readX (s : State) (fl : FpFlags) (m : Nat) (q : Reg) : (s.accrue fl).readX m q = s.readX m q := by
  simp [State.readX]
@[simp] theorem State.accrue_readF (s : State) (fl : FpFlags) (q : Reg) : (s.accrue fl).readF q = s.readF q := by
  simp [State.readF]
@[simp] theorem State.accrue_byte (s : State) (fl : FpFlags) (b : Nat) : (s.accrue fl).byte b = s.byte b := by
  simp [State.byte]

/-! ### setPair -/

@[simp] theorem State.setPair_cfg (s : State) (n : Nat) {w : Nat} (r : Reg) (v : BitVec w) : (s.setPair n r v).cfg = s.cfg := by unfold State.setPair; split <;> simp
@[simp] theorem State.setPair_f (s : State) (n : Nat) {w : Nat} (r : Reg) (v : BitVec w) : (s.setPair n r v).f = s.f := by unfold State.setPair; split <;> simp
@[simp] theorem State.setPair_pc (s : State) (n : Nat) {w : Nat} (r : Reg) (v : BitVec w) : (s.setPair n r v).pc = s.pc := by unfold State.setPair; split <;> simp
@[simp] theorem State.setPair_frm (s : State) (n : Nat) {w : Nat} (r : Reg) (v : BitVec w) : (s.setPair n r v).frm = s.frm := by unfold State.setPair; split <;> simp
@[simp] theorem State.setPair_fflags (s : State) (n : Nat) {w : Nat} (r : Reg) (v : BitVec w) : (s.setPair n r v).fflags = s.fflags := by unfold State.setPair; split <;> simp
@[simp] theorem State.setPair_cycle (s : State) (n : Nat) {w : Nat} (r : Reg) (v : BitVec w) : (s.setPair n r v).cycle = s.cycle := by unfold State.setPair; split <;> simp
@[simp] theorem State.setPair_time (s : State) (n : Nat) {w : Nat} (r : Reg) (v : BitVec w) : (s.setPair n r v).time = s.time := by unfold State.setPair; split <;> simp
@[simp] theorem State.setPair_instret (s : State) (n : Nat) {w : Nat} (r : Reg) (v : BitVec w) : (s.setPair n r v).instret = s.instret := by unfold State.setPair; split <;> simp
@[simp] theorem State.setPair_hpm (s : State) (n : Nat) {w : Nat} (r : Reg) (v : BitVec w) : (s.setPair n r v).hpm = s.hpm := by unfold State.setPair; split <;> simp
@[simp] theorem State.setPair_jvt (s : State) (n : Nat) {w : Nat} (r : Reg) (v : BitVec w) : (s.setPair n r v).jvt = s.jvt := by unfold State.setPair; split <;> simp
@[simp] theorem State.setPair_reservation (s : State) (n : Nat) {w : Nat} (r : Reg) (v : BitVec w) : (s.setPair n r v).reservation = s.reservation := by unfold State.setPair; split <;> simp
@[simp] theorem State.setPair_stalled (s : State) (n : Nat) {w : Nat} (r : Reg) (v : BitVec w) : (s.setPair n r v).stalled = s.stalled := by unfold State.setPair; split <;> simp
@[simp] theorem State.setPair_mem (s : State) (n : Nat) {w : Nat} (r : Reg) (v : BitVec w) : (s.setPair n r v).mem = s.mem := by unfold State.setPair; split <;> simp
@[simp] theorem State.setPair_stale (s : State) (n : Nat) {w : Nat} (r : Reg) (v : BitVec w) : (s.setPair n r v).stale = s.stale := by unfold State.setPair; split <;> simp
@[simp] theorem State.setPair_ioTrace (s : State) (n : Nat) {w : Nat} (r : Reg) (v : BitVec w) : (s.setPair n r v).ioTrace = s.ioTrace := by unfold State.setPair; split <;> simp
@[simp] theorem State.setPair_interruptPending (s : State) (n : Nat) {w : Nat} (r : Reg) (v : BitVec w) : (s.setPair n r v).interruptPending = s.interruptPending := by unfold State.setPair; split <;> simp
@[simp] theorem State.setPair_interruptEnabled (s : State) (n : Nat) {w : Nat} (r : Reg) (v : BitVec w) : (s.setPair n r v).interruptEnabled = s.interruptEnabled := by unfold State.setPair; split <;> simp
@[simp] theorem State.setPair_interruptCause (s : State) (n : Nat) {w : Nat} (r : Reg) (v : BitVec w) : (s.setPair n r v).interruptCause = s.interruptCause := by unfold State.setPair; split <;> simp
@[simp] theorem State.setPair_halted (s : State) (n : Nat) {w : Nat} (r : Reg) (v : BitVec w) : (s.setPair n r v).halted = s.halted := by unfold State.setPair; split <;> simp
@[simp] theorem State.setPair_draws (s : State) (n : Nat) {w : Nat} (r : Reg) (v : BitVec w) : (s.setPair n r v).draws = s.draws := by unfold State.setPair; split <;> simp
@[simp] theorem State.setPair_readF (s : State) (n : Nat) {w : Nat} (r : Reg) (v : BitVec w) (q : Reg) : (s.setPair n r v).readF q = s.readF q := by
  simp [State.readF]
@[simp] theorem State.setPair_byte (s : State) (n : Nat) {w : Nat} (r : Reg) (v : BitVec w) (b : Nat) : (s.setPair n r v).byte b = s.byte b := by
  simp [State.byte]

/-! ### setFp -/

@[simp] theorem State.setFp_cfg (s : State) {w : Nat} (r : Reg) (v : BitVec w) : (s.setFp r v).cfg = s.cfg := by unfold State.setFp; split <;> (try split) <;> simp
@[simp] theorem State.setFp_pc (s : State) {w : Nat} (r : Reg) (v : BitVec w) : (s.setFp r v).pc = s.pc := by unfold State.setFp; split <;> (try split) <;> simp
@[simp] theorem State.setFp_frm (s : State) {w : Nat} (r : Reg) (v : BitVec w) : (s.setFp r v).frm = s.frm := by unfold State.setFp; split <;> (try split) <;> simp
@[simp] theorem State.setFp_fflags (s : State) {w : Nat} (r : Reg) (v : BitVec w) : (s.setFp r v).fflags = s.fflags := by unfold State.setFp; split <;> (try split) <;> simp
@[simp] theorem State.setFp_cycle (s : State) {w : Nat} (r : Reg) (v : BitVec w) : (s.setFp r v).cycle = s.cycle := by unfold State.setFp; split <;> (try split) <;> simp
@[simp] theorem State.setFp_time (s : State) {w : Nat} (r : Reg) (v : BitVec w) : (s.setFp r v).time = s.time := by unfold State.setFp; split <;> (try split) <;> simp
@[simp] theorem State.setFp_instret (s : State) {w : Nat} (r : Reg) (v : BitVec w) : (s.setFp r v).instret = s.instret := by unfold State.setFp; split <;> (try split) <;> simp
@[simp] theorem State.setFp_hpm (s : State) {w : Nat} (r : Reg) (v : BitVec w) : (s.setFp r v).hpm = s.hpm := by unfold State.setFp; split <;> (try split) <;> simp
@[simp] theorem State.setFp_jvt (s : State) {w : Nat} (r : Reg) (v : BitVec w) : (s.setFp r v).jvt = s.jvt := by unfold State.setFp; split <;> (try split) <;> simp
@[simp] theorem State.setFp_reservation (s : State) {w : Nat} (r : Reg) (v : BitVec w) : (s.setFp r v).reservation = s.reservation := by unfold State.setFp; split <;> (try split) <;> simp
@[simp] theorem State.setFp_stalled (s : State) {w : Nat} (r : Reg) (v : BitVec w) : (s.setFp r v).stalled = s.stalled := by unfold State.setFp; split <;> (try split) <;> simp
@[simp] theorem State.setFp_mem (s : State) {w : Nat} (r : Reg) (v : BitVec w) : (s.setFp r v).mem = s.mem := by unfold State.setFp; split <;> (try split) <;> simp
@[simp] theorem State.setFp_stale (s : State) {w : Nat} (r : Reg) (v : BitVec w) : (s.setFp r v).stale = s.stale := by unfold State.setFp; split <;> (try split) <;> simp
@[simp] theorem State.setFp_ioTrace (s : State) {w : Nat} (r : Reg) (v : BitVec w) : (s.setFp r v).ioTrace = s.ioTrace := by unfold State.setFp; split <;> (try split) <;> simp
@[simp] theorem State.setFp_interruptPending (s : State) {w : Nat} (r : Reg) (v : BitVec w) : (s.setFp r v).interruptPending = s.interruptPending := by unfold State.setFp; split <;> (try split) <;> simp
@[simp] theorem State.setFp_interruptEnabled (s : State) {w : Nat} (r : Reg) (v : BitVec w) : (s.setFp r v).interruptEnabled = s.interruptEnabled := by unfold State.setFp; split <;> (try split) <;> simp
@[simp] theorem State.setFp_interruptCause (s : State) {w : Nat} (r : Reg) (v : BitVec w) : (s.setFp r v).interruptCause = s.interruptCause := by unfold State.setFp; split <;> (try split) <;> simp
@[simp] theorem State.setFp_halted (s : State) {w : Nat} (r : Reg) (v : BitVec w) : (s.setFp r v).halted = s.halted := by unfold State.setFp; split <;> (try split) <;> simp
@[simp] theorem State.setFp_draws (s : State) {w : Nat} (r : Reg) (v : BitVec w) : (s.setFp r v).draws = s.draws := by unfold State.setFp; split <;> (try split) <;> simp
@[simp] theorem State.setFp_byte (s : State) {w : Nat} (r : Reg) (v : BitVec w) (b : Nat) : (s.setFp r v).byte b = s.byte b := by
  simp [State.byte]

/-! ### putFp -/

@[simp] theorem State.putFp_cfg (s : State) (fm : Fmt) (rd : Reg) (r : BitVec fm.width × FpFlags) : (s.putFp fm rd r).cfg = s.cfg := by simp [State.putFp]
@[simp] theorem State.putFp_pc (s : State) (fm : Fmt) (rd : Reg) (r : BitVec fm.width × FpFlags) : (s.putFp fm rd r).pc = s.pc := by simp [State.putFp]
@[simp] theorem State.putFp_frm (s : State) (fm : Fmt) (rd : Reg) (r : BitVec fm.width × FpFlags) : (s.putFp fm rd r).frm = s.frm := by simp [State.putFp]
@[simp] theorem State.putFp_cycle (s : State) (fm : Fmt) (rd : Reg) (r : BitVec fm.width × FpFlags) : (s.putFp fm rd r).cycle = s.cycle := by simp [State.putFp]
@[simp] theorem State.putFp_time (s : State) (fm : Fmt) (rd : Reg) (r : BitVec fm.width × FpFlags) : (s.putFp fm rd r).time = s.time := by simp [State.putFp]
@[simp] theorem State.putFp_instret (s : State) (fm : Fmt) (rd : Reg) (r : BitVec fm.width × FpFlags) : (s.putFp fm rd r).instret = s.instret := by simp [State.putFp]
@[simp] theorem State.putFp_hpm (s : State) (fm : Fmt) (rd : Reg) (r : BitVec fm.width × FpFlags) : (s.putFp fm rd r).hpm = s.hpm := by simp [State.putFp]
@[simp] theorem State.putFp_jvt (s : State) (fm : Fmt) (rd : Reg) (r : BitVec fm.width × FpFlags) : (s.putFp fm rd r).jvt = s.jvt := by simp [State.putFp]
@[simp] theorem State.putFp_reservation (s : State) (fm : Fmt) (rd : Reg) (r : BitVec fm.width × FpFlags) : (s.putFp fm rd r).reservation = s.reservation := by simp [State.putFp]
@[simp] theorem State.putFp_stalled (s : State) (fm : Fmt) (rd : Reg) (r : BitVec fm.width × FpFlags) : (s.putFp fm rd r).stalled = s.stalled := by simp [State.putFp]
@[simp] theorem State.putFp_mem (s : State) (fm : Fmt) (rd : Reg) (r : BitVec fm.width × FpFlags) : (s.putFp fm rd r).mem = s.mem := by simp [State.putFp]
@[simp] theorem State.putFp_stale (s : State) (fm : Fmt) (rd : Reg) (r : BitVec fm.width × FpFlags) : (s.putFp fm rd r).stale = s.stale := by simp [State.putFp]
@[simp] theorem State.putFp_ioTrace (s : State) (fm : Fmt) (rd : Reg) (r : BitVec fm.width × FpFlags) : (s.putFp fm rd r).ioTrace = s.ioTrace := by simp [State.putFp]
@[simp] theorem State.putFp_interruptPending (s : State) (fm : Fmt) (rd : Reg) (r : BitVec fm.width × FpFlags) : (s.putFp fm rd r).interruptPending = s.interruptPending := by simp [State.putFp]
@[simp] theorem State.putFp_interruptEnabled (s : State) (fm : Fmt) (rd : Reg) (r : BitVec fm.width × FpFlags) : (s.putFp fm rd r).interruptEnabled = s.interruptEnabled := by simp [State.putFp]
@[simp] theorem State.putFp_interruptCause (s : State) (fm : Fmt) (rd : Reg) (r : BitVec fm.width × FpFlags) : (s.putFp fm rd r).interruptCause = s.interruptCause := by simp [State.putFp]
@[simp] theorem State.putFp_halted (s : State) (fm : Fmt) (rd : Reg) (r : BitVec fm.width × FpFlags) : (s.putFp fm rd r).halted = s.halted := by simp [State.putFp]
@[simp] theorem State.putFp_draws (s : State) (fm : Fmt) (rd : Reg) (r : BitVec fm.width × FpFlags) : (s.putFp fm rd r).draws = s.draws := by simp [State.putFp]
@[simp] theorem State.putFp_byte (s : State) (fm : Fmt) (rd : Reg) (r : BitVec fm.width × FpFlags) (b : Nat) : (s.putFp fm rd r).byte b = s.byte b := by
  simp [State.byte]

/-! ### putX -/

@[simp] theorem State.putX_cfg (s : State) (rd : Reg) (v : BitVec s.cfg.bits) (fl : FpFlags) : (s.putX rd v fl).cfg = s.cfg := by simp [State.putX]
@[simp] theorem State.putX_f (s : State) (rd : Reg) (v : BitVec s.cfg.bits) (fl : FpFlags) : (s.putX rd v fl).f = s.f := by simp [State.putX]
@[simp] theorem State.putX_pc (s : State) (rd : Reg) (v : BitVec s.cfg.bits) (fl : FpFlags) : (s.putX rd v fl).pc = s.pc := by simp [State.putX]
@[simp] theorem State.putX_frm (s : State) (rd : Reg) (v : BitVec s.cfg.bits) (fl : FpFlags) : (s.putX rd v fl).frm = s.frm := by simp [State.putX]
@[simp] theorem State.putX_cycle (s : State) (rd : Reg) (v : BitVec s.cfg.bits) (fl : FpFlags) : (s.putX rd v fl).cycle = s.cycle := by simp [State.putX]
@[simp] theorem State.putX_time (s : State) (rd : Reg) (v : BitVec s.cfg.bits) (fl : FpFlags) : (s.putX rd v fl).time = s.time := by simp [State.putX]
@[simp] theorem State.putX_instret (s : State) (rd : Reg) (v : BitVec s.cfg.bits) (fl : FpFlags) : (s.putX rd v fl).instret = s.instret := by simp [State.putX]
@[simp] theorem State.putX_hpm (s : State) (rd : Reg) (v : BitVec s.cfg.bits) (fl : FpFlags) : (s.putX rd v fl).hpm = s.hpm := by simp [State.putX]
@[simp] theorem State.putX_jvt (s : State) (rd : Reg) (v : BitVec s.cfg.bits) (fl : FpFlags) : (s.putX rd v fl).jvt = s.jvt := by simp [State.putX]
@[simp] theorem State.putX_reservation (s : State) (rd : Reg) (v : BitVec s.cfg.bits) (fl : FpFlags) : (s.putX rd v fl).reservation = s.reservation := by simp [State.putX]
@[simp] theorem State.putX_stalled (s : State) (rd : Reg) (v : BitVec s.cfg.bits) (fl : FpFlags) : (s.putX rd v fl).stalled = s.stalled := by simp [State.putX]
@[simp] theorem State.putX_mem (s : State) (rd : Reg) (v : BitVec s.cfg.bits) (fl : FpFlags) : (s.putX rd v fl).mem = s.mem := by simp [State.putX]
@[simp] theorem State.putX_stale (s : State) (rd : Reg) (v : BitVec s.cfg.bits) (fl : FpFlags) : (s.putX rd v fl).stale = s.stale := by simp [State.putX]
@[simp] theorem State.putX_ioTrace (s : State) (rd : Reg) (v : BitVec s.cfg.bits) (fl : FpFlags) : (s.putX rd v fl).ioTrace = s.ioTrace := by simp [State.putX]
@[simp] theorem State.putX_interruptPending (s : State) (rd : Reg) (v : BitVec s.cfg.bits) (fl : FpFlags) : (s.putX rd v fl).interruptPending = s.interruptPending := by simp [State.putX]
@[simp] theorem State.putX_interruptEnabled (s : State) (rd : Reg) (v : BitVec s.cfg.bits) (fl : FpFlags) : (s.putX rd v fl).interruptEnabled = s.interruptEnabled := by simp [State.putX]
@[simp] theorem State.putX_interruptCause (s : State) (rd : Reg) (v : BitVec s.cfg.bits) (fl : FpFlags) : (s.putX rd v fl).interruptCause = s.interruptCause := by simp [State.putX]
@[simp] theorem State.putX_halted (s : State) (rd : Reg) (v : BitVec s.cfg.bits) (fl : FpFlags) : (s.putX rd v fl).halted = s.halted := by simp [State.putX]
@[simp] theorem State.putX_draws (s : State) (rd : Reg) (v : BitVec s.cfg.bits) (fl : FpFlags) : (s.putX rd v fl).draws = s.draws := by simp [State.putX]
@[simp] theorem State.putX_readF (s : State) (rd : Reg) (v : BitVec s.cfg.bits) (fl : FpFlags) (q : Reg) : (s.putX rd v fl).readF q = s.readF q := by
  simp [State.readF]
@[simp] theorem State.putX_byte (s : State) (rd : Reg) (v : BitVec s.cfg.bits) (fl : FpFlags) (b : Nat) : (s.putX rd v fl).byte b = s.byte b := by
  simp [State.byte]

/-! ### reserve -/

@[simp] theorem State.reserve_cfg (s : State) (a n : Nat) : (s.reserve a n).cfg = s.cfg := rfl
@[simp] theorem State.reserve_x (s : State) (a n : Nat) : (s.reserve a n).x = s.x := rfl
@[simp] theorem State.reserve_f (s : State) (a n : Nat) : (s.reserve a n).f = s.f := rfl
@[simp] theorem State.reserve_pc (s : State) (a n : Nat) : (s.reserve a n).pc = s.pc := rfl
@[simp] theorem State.reserve_frm (s : State) (a n : Nat) : (s.reserve a n).frm = s.frm := rfl
@[simp] theorem State.reserve_fflags (s : State) (a n : Nat) : (s.reserve a n).fflags = s.fflags := rfl
@[simp] theorem State.reserve_cycle (s : State) (a n : Nat) : (s.reserve a n).cycle = s.cycle := rfl
@[simp] theorem State.reserve_time (s : State) (a n : Nat) : (s.reserve a n).time = s.time := rfl
@[simp] theorem State.reserve_instret (s : State) (a n : Nat) : (s.reserve a n).instret = s.instret := rfl
@[simp] theorem State.reserve_hpm (s : State) (a n : Nat) : (s.reserve a n).hpm = s.hpm := rfl
@[simp] theorem State.reserve_jvt (s : State) (a n : Nat) : (s.reserve a n).jvt = s.jvt := rfl
@[simp] theorem State.reserve_stalled (s : State) (a n : Nat) : (s.reserve a n).stalled = s.stalled := rfl
@[simp] theorem State.reserve_mem (s : State) (a n : Nat) : (s.reserve a n).mem = s.mem := rfl
@[simp] theorem State.reserve_stale (s : State) (a n : Nat) : (s.reserve a n).stale = s.stale := rfl
@[simp] theorem State.reserve_ioTrace (s : State) (a n : Nat) : (s.reserve a n).ioTrace = s.ioTrace := rfl
@[simp] theorem State.reserve_interruptPending (s : State) (a n : Nat) : (s.reserve a n).interruptPending = s.interruptPending := rfl
@[simp] theorem State.reserve_interruptEnabled (s : State) (a n : Nat) : (s.reserve a n).interruptEnabled = s.interruptEnabled := rfl
@[simp] theorem State.reserve_interruptCause (s : State) (a n : Nat) : (s.reserve a n).interruptCause = s.interruptCause := rfl
@[simp] theorem State.reserve_halted (s : State) (a n : Nat) : (s.reserve a n).halted = s.halted := rfl
@[simp] theorem State.reserve_draws (s : State) (a n : Nat) : (s.reserve a n).draws = s.draws := rfl
@[simp] theorem State.reserve_readX (s : State) (a n : Nat) (m : Nat) (q : Reg) : (s.reserve a n).readX m q = s.readX m q := by
  simp [State.readX]
@[simp] theorem State.reserve_readF (s : State) (a n : Nat) (q : Reg) : (s.reserve a n).readF q = s.readF q := by
  simp [State.readF]
@[simp] theorem State.reserve_byte (s : State) (a n : Nat) (b : Nat) : (s.reserve a n).byte b = s.byte b := by
  simp [State.byte]

/-! ### unreserve -/

@[simp] theorem State.unreserve_cfg (s : State) : (s.unreserve).cfg = s.cfg := rfl
@[simp] theorem State.unreserve_x (s : State) : (s.unreserve).x = s.x := rfl
@[simp] theorem State.unreserve_f (s : State) : (s.unreserve).f = s.f := rfl
@[simp] theorem State.unreserve_pc (s : State) : (s.unreserve).pc = s.pc := rfl
@[simp] theorem State.unreserve_frm (s : State) : (s.unreserve).frm = s.frm := rfl
@[simp] theorem State.unreserve_fflags (s : State) : (s.unreserve).fflags = s.fflags := rfl
@[simp] theorem State.unreserve_cycle (s : State) : (s.unreserve).cycle = s.cycle := rfl
@[simp] theorem State.unreserve_time (s : State) : (s.unreserve).time = s.time := rfl
@[simp] theorem State.unreserve_instret (s : State) : (s.unreserve).instret = s.instret := rfl
@[simp] theorem State.unreserve_hpm (s : State) : (s.unreserve).hpm = s.hpm := rfl
@[simp] theorem State.unreserve_jvt (s : State) : (s.unreserve).jvt = s.jvt := rfl
@[simp] theorem State.unreserve_stalled (s : State) : (s.unreserve).stalled = s.stalled := rfl
@[simp] theorem State.unreserve_mem (s : State) : (s.unreserve).mem = s.mem := rfl
@[simp] theorem State.unreserve_stale (s : State) : (s.unreserve).stale = s.stale := rfl
@[simp] theorem State.unreserve_ioTrace (s : State) : (s.unreserve).ioTrace = s.ioTrace := rfl
@[simp] theorem State.unreserve_interruptPending (s : State) : (s.unreserve).interruptPending = s.interruptPending := rfl
@[simp] theorem State.unreserve_interruptEnabled (s : State) : (s.unreserve).interruptEnabled = s.interruptEnabled := rfl
@[simp] theorem State.unreserve_interruptCause (s : State) : (s.unreserve).interruptCause = s.interruptCause := rfl
@[simp] theorem State.unreserve_halted (s : State) : (s.unreserve).halted = s.halted := rfl
@[simp] theorem State.unreserve_draws (s : State) : (s.unreserve).draws = s.draws := rfl
@[simp] theorem State.unreserve_readX (s : State) (m : Nat) (q : Reg) : (s.unreserve).readX m q = s.readX m q := by
  simp [State.readX]
@[simp] theorem State.unreserve_readF (s : State) (q : Reg) : (s.unreserve).readF q = s.readF q := by
  simp [State.readF]
@[simp] theorem State.unreserve_byte (s : State) (b : Nat) : (s.unreserve).byte b = s.byte b := by
  simp [State.byte]

/-! ### syncFetch -/

@[simp] theorem State.syncFetch_cfg (s : State) : (s.syncFetch).cfg = s.cfg := rfl
@[simp] theorem State.syncFetch_x (s : State) : (s.syncFetch).x = s.x := rfl
@[simp] theorem State.syncFetch_f (s : State) : (s.syncFetch).f = s.f := rfl
@[simp] theorem State.syncFetch_pc (s : State) : (s.syncFetch).pc = s.pc := rfl
@[simp] theorem State.syncFetch_frm (s : State) : (s.syncFetch).frm = s.frm := rfl
@[simp] theorem State.syncFetch_fflags (s : State) : (s.syncFetch).fflags = s.fflags := rfl
@[simp] theorem State.syncFetch_cycle (s : State) : (s.syncFetch).cycle = s.cycle := rfl
@[simp] theorem State.syncFetch_time (s : State) : (s.syncFetch).time = s.time := rfl
@[simp] theorem State.syncFetch_instret (s : State) : (s.syncFetch).instret = s.instret := rfl
@[simp] theorem State.syncFetch_hpm (s : State) : (s.syncFetch).hpm = s.hpm := rfl
@[simp] theorem State.syncFetch_jvt (s : State) : (s.syncFetch).jvt = s.jvt := rfl
@[simp] theorem State.syncFetch_reservation (s : State) : (s.syncFetch).reservation = s.reservation := rfl
@[simp] theorem State.syncFetch_stalled (s : State) : (s.syncFetch).stalled = s.stalled := rfl
@[simp] theorem State.syncFetch_mem (s : State) : (s.syncFetch).mem = s.mem := rfl
@[simp] theorem State.syncFetch_ioTrace (s : State) : (s.syncFetch).ioTrace = s.ioTrace := rfl
@[simp] theorem State.syncFetch_interruptPending (s : State) : (s.syncFetch).interruptPending = s.interruptPending := rfl
@[simp] theorem State.syncFetch_interruptEnabled (s : State) : (s.syncFetch).interruptEnabled = s.interruptEnabled := rfl
@[simp] theorem State.syncFetch_interruptCause (s : State) : (s.syncFetch).interruptCause = s.interruptCause := rfl
@[simp] theorem State.syncFetch_halted (s : State) : (s.syncFetch).halted = s.halted := rfl
@[simp] theorem State.syncFetch_draws (s : State) : (s.syncFetch).draws = s.draws := rfl
@[simp] theorem State.syncFetch_readX (s : State) (m : Nat) (q : Reg) : (s.syncFetch).readX m q = s.readX m q := by
  simp [State.readX]
@[simp] theorem State.syncFetch_readF (s : State) (q : Reg) : (s.syncFetch).readF q = s.readF q := by
  simp [State.readF]
@[simp] theorem State.syncFetch_byte (s : State) (b : Nat) : (s.syncFetch).byte b = s.byte b := by
  simp [State.byte]

/-! ### csrWrite -/

@[simp] theorem State.csrWrite_cfg (s : State) (a : BitVec 12) (v : BitVec s.cfg.bits) : (s.csrWrite a v).cfg = s.cfg := by unfold State.csrWrite; repeat (first | rfl | split)
@[simp] theorem State.csrWrite_x (s : State) (a : BitVec 12) (v : BitVec s.cfg.bits) : (s.csrWrite a v).x = s.x := by unfold State.csrWrite; repeat (first | rfl | split)
@[simp] theorem State.csrWrite_f (s : State) (a : BitVec 12) (v : BitVec s.cfg.bits) : (s.csrWrite a v).f = s.f := by unfold State.csrWrite; repeat (first | rfl | split)
@[simp] theorem State.csrWrite_pc (s : State) (a : BitVec 12) (v : BitVec s.cfg.bits) : (s.csrWrite a v).pc = s.pc := by unfold State.csrWrite; repeat (first | rfl | split)
@[simp] theorem State.csrWrite_cycle (s : State) (a : BitVec 12) (v : BitVec s.cfg.bits) : (s.csrWrite a v).cycle = s.cycle := by unfold State.csrWrite; repeat (first | rfl | split)
@[simp] theorem State.csrWrite_time (s : State) (a : BitVec 12) (v : BitVec s.cfg.bits) : (s.csrWrite a v).time = s.time := by unfold State.csrWrite; repeat (first | rfl | split)
@[simp] theorem State.csrWrite_instret (s : State) (a : BitVec 12) (v : BitVec s.cfg.bits) : (s.csrWrite a v).instret = s.instret := by unfold State.csrWrite; repeat (first | rfl | split)
@[simp] theorem State.csrWrite_hpm (s : State) (a : BitVec 12) (v : BitVec s.cfg.bits) : (s.csrWrite a v).hpm = s.hpm := by unfold State.csrWrite; repeat (first | rfl | split)
@[simp] theorem State.csrWrite_reservation (s : State) (a : BitVec 12) (v : BitVec s.cfg.bits) : (s.csrWrite a v).reservation = s.reservation := by unfold State.csrWrite; repeat (first | rfl | split)
@[simp] theorem State.csrWrite_stalled (s : State) (a : BitVec 12) (v : BitVec s.cfg.bits) : (s.csrWrite a v).stalled = s.stalled := by unfold State.csrWrite; repeat (first | rfl | split)
@[simp] theorem State.csrWrite_mem (s : State) (a : BitVec 12) (v : BitVec s.cfg.bits) : (s.csrWrite a v).mem = s.mem := by unfold State.csrWrite; repeat (first | rfl | split)
@[simp] theorem State.csrWrite_stale (s : State) (a : BitVec 12) (v : BitVec s.cfg.bits) : (s.csrWrite a v).stale = s.stale := by unfold State.csrWrite; repeat (first | rfl | split)
@[simp] theorem State.csrWrite_ioTrace (s : State) (a : BitVec 12) (v : BitVec s.cfg.bits) : (s.csrWrite a v).ioTrace = s.ioTrace := by unfold State.csrWrite; repeat (first | rfl | split)
@[simp] theorem State.csrWrite_interruptPending (s : State) (a : BitVec 12) (v : BitVec s.cfg.bits) : (s.csrWrite a v).interruptPending = s.interruptPending := by unfold State.csrWrite; repeat (first | rfl | split)
@[simp] theorem State.csrWrite_interruptEnabled (s : State) (a : BitVec 12) (v : BitVec s.cfg.bits) : (s.csrWrite a v).interruptEnabled = s.interruptEnabled := by unfold State.csrWrite; repeat (first | rfl | split)
@[simp] theorem State.csrWrite_interruptCause (s : State) (a : BitVec 12) (v : BitVec s.cfg.bits) : (s.csrWrite a v).interruptCause = s.interruptCause := by unfold State.csrWrite; repeat (first | rfl | split)
@[simp] theorem State.csrWrite_halted (s : State) (a : BitVec 12) (v : BitVec s.cfg.bits) : (s.csrWrite a v).halted = s.halted := by unfold State.csrWrite; repeat (first | rfl | split)
@[simp] theorem State.csrWrite_draws (s : State) (a : BitVec 12) (v : BitVec s.cfg.bits) : (s.csrWrite a v).draws = s.draws := by unfold State.csrWrite; repeat (first | rfl | split)
@[simp] theorem State.csrWrite_readX (s : State) (a : BitVec 12) (v : BitVec s.cfg.bits) (m : Nat) (q : Reg) : (s.csrWrite a v).readX m q = s.readX m q := by
  simp [State.readX]
@[simp] theorem State.csrWrite_readF (s : State) (a : BitVec 12) (v : BitVec s.cfg.bits) (q : Reg) : (s.csrWrite a v).readF q = s.readF q := by
  simp [State.readF]
@[simp] theorem State.csrWrite_byte (s : State) (a : BitVec 12) (v : BitVec s.cfg.bits) (b : Nat) : (s.csrWrite a v).byte b = s.byte b := by
  simp [State.byte]

end Sys2Proof.Machine
end

