-- ==== Sys2Proof/Laws/Frame.lean ====
section
/-! SUPPORT. Reading registers after writing them, and how `Keeps`, `KeepsRest` and `RetiredTo` compose: every meaning
is a chain of updates, and its frame is the chain of theirs. -/

namespace Sys2Proof.Machine

/-! ## Registers -/

theorem readX_zero (s : State) (n : Nat) : s.readX n 0 = 0 := by simp [State.readX]

theorem readX_setX_ne (s : State) {n : Nat} (r q : Reg) (v : BitVec n) (m : Nat) (h : q ≠ r) :
    (s.setX r v).readX m q = s.readX m q := by
  unfold State.readX State.setX
  split
  · rfl
  · split
    · rfl
    · have : r.toNat ≠ q.toNat := fun e => h (BitVec.eq_of_toNat_eq e.symm)
      simp [this]

theorem readX_setX_self (s : State) {n : Nat} (r : Reg) (v : BitVec n) (hn : n ≤ 128) :
    (s.setX r v).readX n r = if r = 0 then 0 else v := by
  unfold State.readX State.setX
  split
  · rfl
  · simp only [Vector.getElem_set_self]
    apply BitVec.eq_of_toNat_eq
    have : v.toNat < 2 ^ 128 := Nat.lt_of_lt_of_le v.isLt (Nat.pow_le_pow_right (by decide) hn)
    rw [BitVec.toNat_setWidth, BitVec.toNat_setWidth, Nat.mod_eq_of_lt this, Nat.mod_eq_of_lt v.isLt]

theorem readF_setF_ne (s : State) (r q : Reg) (v : Cell) (h : q ≠ r) : (s.setF r v).readF q = s.readF q := by
  have : r.toNat ≠ q.toNat := fun e => h (BitVec.eq_of_toNat_eq e.symm)
  simp [State.readF, State.setF, this]

theorem readF_setF_self (s : State) (r : Reg) (v : Cell) : (s.setF r v).readF r = v := by
  simp [State.readF, State.setF]

theorem bits_le_128 (c : Config) : c.bits ≤ 128 := by
  unfold Config.bits Xlen.bits; split <;> decide

theorem bits_pos (c : Config) : 0 < c.bits := by
  unfold Config.bits Xlen.bits; split <;> decide

theorem bits_ge_32 (c : Config) : 32 ≤ c.bits := by
  unfold Config.bits Xlen.bits; split <;> decide

theorem bits_eq (c : Config) : c.bits = 32 ∨ c.bits = 64 ∨ c.bits = 128 := by
  unfold Config.bits Xlen.bits; split <;> decide

theorem bits_eq_bytes (c : Config) : c.bits = 8 * c.bytes := by
  unfold Config.bits Config.bytes Xlen.bits Xlen.bytes; split <;> rfl

/-! ## The address of the next instruction -/

/-- The next address depends on the configuration and pc alone. -/
theorem after_congr {s t : State} (hc : t.cfg = s.cfg) (hp : t.pc = s.pc) (len : Nat) : t.after len = s.after len := by
  show (t.pc.setWidth t.cfg.bits + BitVec.ofNat t.cfg.bits len).setWidth 128 =
    (s.pc.setWidth s.cfg.bits + BitVec.ofNat s.cfg.bits len).setWidth 128
  rw [hc, hp]

theorem retire_pc (s : State) (len : Nat) : (s.retire len).pc = s.after len := rfl

theorem retireTo_pc (s : State) {n : Nat} (v : BitVec n) : (s.retireTo v).pc = v.setWidth 128 := rfl

theorem retireTo_instret (s : State) {n : Nat} (v : BitVec n) : (s.retireTo v).instret = s.instret + 1 := rfl

theorem retire_instret (s : State) (len : Nat) : (s.retire len).instret = s.instret + 1 := rfl

/-! ## Keeping -/

theorem State.KeepsRest.refl (s : State) : s.KeepsRest s [] [] [] :=
  { x := fun _ _ _ => rfl, f := fun _ _ => rfl, mem := fun _ _ => rfl, cfg := rfl, frm := rfl, jvt := rfl,
    stalled := rfl, halted := rfl, pending := rfl, enabled := rfl, cause := rfl, fflags := rfl, reservation := rfl,
    ioTrace := rfl, stale := rfl }

theorem State.Keeps.trans {s t u : State} {xs fs xs' fs' : List Reg} {m m' : List Nat} (h : s.Keeps t xs fs m)
    (k : t.Keeps u xs' fs' m') : s.Keeps u (xs ++ xs') (fs ++ fs') (m ++ m') :=
  { x := fun r hr n => by
      simp only [List.mem_append, not_or] at hr
      rw [k.x r hr.2 n, h.x r hr.1 n]
    f := fun r hr => by
      simp only [List.mem_append, not_or] at hr
      rw [k.f r hr.2, h.f r hr.1]
    mem := fun a ha => by
      simp only [List.mem_append, not_or] at ha
      rw [k.mem a ha.2, h.mem a ha.1]
    cfg := k.cfg.trans h.cfg, frm := k.frm.trans h.frm, jvt := k.jvt.trans h.jvt
    stalled := k.stalled.trans h.stalled, halted := k.halted.trans h.halted
    pending := k.pending.trans h.pending, enabled := k.enabled.trans h.enabled, cause := k.cause.trans h.cause }

theorem State.KeepsRest.trans {s t u : State} {xs fs xs' fs' : List Reg} {m m' : List Nat} (h : s.KeepsRest t xs fs m)
    (k : t.KeepsRest u xs' fs' m') : s.KeepsRest u (xs ++ xs') (fs ++ fs') (m ++ m') :=
  { h.toKeeps.trans k.toKeeps with
    fflags := k.fflags.trans h.fflags, reservation := k.reservation.trans h.reservation
    ioTrace := k.ioTrace.trans h.ioTrace, stale := k.stale.trans h.stale }

/-- A state may be said to keep less. -/
theorem State.Keeps.mono {s t : State} {xs fs xs' fs' : List Reg} {m m' : List Nat} (h : s.Keeps t xs fs m)
    (hx : xs ⊆ xs') (hf : fs ⊆ fs') (hm : m ⊆ m') : s.Keeps t xs' fs' m' :=
  { h with
    x := fun r hr => h.x r fun k => hr (hx k)
    f := fun r hr => h.f r fun k => hr (hf k)
    mem := fun a ha => h.mem a fun k => ha (hm k) }

theorem State.KeepsRest.mono {s t : State} {xs fs xs' fs' : List Reg} {m m' : List Nat} (h : s.KeepsRest t xs fs m)
    (hx : xs ⊆ xs') (hf : fs ⊆ fs') (hm : m ⊆ m') : s.KeepsRest t xs' fs' m' :=
  { h.toKeeps.mono hx hf hm, h with }

/-! ## What each update keeps -/

theorem setX_keeps (s : State) {n : Nat} (r : Reg) (v : BitVec n) : s.KeepsRest (s.setX r v) [r] [] [] :=
  { x := fun q hq m => readX_setX_ne s r q v m (by simpa using hq)
    f := fun _ _ => by simp, mem := fun _ _ => by simp, cfg := by simp, frm := by simp, jvt := by simp
    stalled := by simp, halted := by simp, pending := by simp, enabled := by simp, cause := by simp, fflags := by simp
    reservation := by simp, ioTrace := by simp, stale := by simp }

theorem setF_keeps (s : State) (r : Reg) (v : Cell) : s.KeepsRest (s.setF r v) [] [r] [] :=
  { x := fun _ _ _ => by simp
    f := fun q hq => readF_setF_ne s r q v (by simpa using hq), mem := fun _ _ => by simp, cfg := by simp, frm := by simp
    jvt := by simp, stalled := by simp, halted := by simp, pending := by simp, enabled := by simp, cause := by simp
    fflags := by simp, reservation := by simp, ioTrace := by simp, stale := by simp }

theorem tick_keeps (s : State) : s.KeepsRest s.tick [] [] [] :=
  { x := fun _ _ _ => by simp, f := fun _ _ => by simp, mem := fun _ _ => by simp, cfg := rfl, frm := rfl, jvt := rfl
    stalled := rfl, halted := rfl, pending := rfl, enabled := rfl, cause := rfl, fflags := rfl, reservation := rfl
    ioTrace := rfl, stale := rfl }

theorem retireTo_keeps (s : State) {n : Nat} (v : BitVec n) : s.KeepsRest (s.retireTo v) [] [] [] :=
  { x := fun _ _ _ => by simp, f := fun _ _ => by simp, mem := fun _ _ => by simp, cfg := rfl, frm := rfl, jvt := rfl
    stalled := rfl, halted := rfl, pending := rfl, enabled := rfl, cause := rfl, fflags := rfl, reservation := rfl
    ioTrace := rfl, stale := rfl }

theorem retire_keeps (s : State) (len : Nat) : s.KeepsRest (s.retire len) [] [] [] := retireTo_keeps s _

theorem accrue_keeps (s : State) (fl : FpFlags) : s.Keeps (s.accrue fl) [] [] [] :=
  { x := fun _ _ _ => by simp, f := fun _ _ => by simp, mem := fun _ _ => by simp, cfg := rfl, frm := rfl, jvt := rfl
    stalled := rfl, halted := rfl, pending := rfl, enabled := rfl, cause := rfl }

theorem unreserve_keeps (s : State) : s.Keeps s.unreserve [] [] [] :=
  { x := fun _ _ _ => by simp, f := fun _ _ => by simp, mem := fun _ _ => by simp, cfg := rfl, frm := rfl, jvt := rfl
    stalled := rfl, halted := rfl, pending := rfl, enabled := rfl, cause := rfl }

theorem reserve_keeps (s : State) (a n : Nat) : s.Keeps (s.reserve a n) [] [] [] :=
  { x := fun _ _ _ => by simp, f := fun _ _ => by simp, mem := fun _ _ => by simp, cfg := by simp, frm := by simp
    jvt := by simp, stalled := by simp, halted := by simp, pending := by simp, enabled := by simp, cause := by simp }

theorem syncFetch_keeps (s : State) : s.Keeps s.syncFetch [] [] [] :=
  { x := fun _ _ _ => by simp, f := fun _ _ => by simp, mem := fun _ _ => by simp, cfg := rfl, frm := rfl, jvt := rfl
    stalled := rfl, halted := rfl, pending := rfl, enabled := rfl, cause := rfl }

/-- Writing x[rd] and retiring. -/
theorem setX_retire_keeps (s : State) {n : Nat} (rd : Reg) (v : BitVec n) (len : Nat) :
    s.KeepsRest ((s.setX rd v).retire len) [rd] [] [] := (setX_keeps s rd v).trans (retire_keeps _ len)

/-- Writing x[rd] and retiring: the pc and instret after it. -/
theorem setX_retire_retired (s : State) {n : Nat} (rd : Reg) (v : BitVec n) (len : Nat) :
    s.RetiredTo ((s.setX rd v).retire len) (s.after len) :=
  { pc := (retire_pc _ len).trans (after_congr (by simp) (by simp) len), instret := by simp [retire_instret] }

end Sys2Proof.Machine
end

