-- ==== Sys2Proof/Laws/Memory.lean ====
section
/-! SUPPORT. Memory: reading a byte after writing it, the canonical form, the bytes of a value, loads and stores. -/

namespace Sys2Proof.Machine

/-! ## One byte -/

theorem memGet_memSet_self (m : List Host.Cell) (a : Nat) (b : Byte) (h : memWf m = true) :
    memGet (memSet m a b) a = b := by
  induction m with
  | nil => unfold memSet; split <;> simp_all [memGet]
  | cons p rest ih =>
    obtain ⟨k, v⟩ := p
    have hr : memWf rest = true := by
      cases rest with
      | nil => rfl
      | cons q rest => simp only [memWf, Bool.and_eq_true] at h; exact h.2
    have below : ∀ (c : Nat), c ≤ k → memGet rest c = unlistedByte := by
      clear ih
      induction rest generalizing k v with
      | nil => intro c _; rfl
      | cons q rest ih =>
        obtain ⟨k', v'⟩ := q
        intro c hc
        simp only [memWf, Bool.and_eq_true, decide_eq_true_eq] at h
        have hne : k' ≠ c := by omega
        simp only [memGet, hne, if_false]
        refine ih k' v' h.2 ?_ c (by omega)
        cases rest with
        | nil => rfl
        | cons q rest => have := h.2; simp only [memWf, Bool.and_eq_true] at this; exact this.2
    unfold memSet
    split
    · split
      · subst_vars
        have : k ≠ a := by omega
        simp only [memGet, this, if_false]; exact below a (by omega)
      · simp [memGet]
    · split
      · subst_vars
        split
        · subst_vars; exact below _ (Nat.le_refl _)
        · simp [memGet]
      · have : k ≠ a := by omega
        simp only [memGet, this, if_false]; exact ih hr

theorem memGet_memSet_ne (m : List Host.Cell) (a c : Nat) (b : Byte) (hc : c ≠ a) :
    memGet (memSet m a b) c = memGet m c := by
  induction m with
  | nil => unfold memSet; split <;> simp [memGet, hc.symm]
  | cons p rest ih =>
    obtain ⟨k, v⟩ := p
    unfold memSet
    split
    · split
      · rfl
      · simp [memGet, hc.symm]
    · split
      · subst_vars
        split
        · simp [memGet, hc.symm]
        · simp [memGet, hc.symm]
      · simp only [memGet, ih]

/-- The canonical form, one entry at a time. -/
theorem memWf_cons (k : Nat) (v : Byte) (m : List Host.Cell) :
    memWf ((k, v) :: m) = true ↔ v ≠ unlistedByte ∧ (∀ p, m.head? = some p → k < p.1) ∧ memWf m = true := by
  cases m with
  | nil => simp [memWf]
  | cons q rest => obtain ⟨k', v'⟩ := q; simp [memWf, and_assoc]

/-- Writing above an address leaves what follows above it. -/
theorem memSet_head_above (m : List Host.Cell) (k a : Nat) (b : Byte) (hk : k < a)
    (h : ∀ p, m.head? = some p → k < p.1) (hw : memWf m = true) : ∀ p, (memSet m a b).head? = some p → k < p.1 := by
  cases m with
  | nil => intro p hp; unfold memSet at hp; split at hp <;> simp at hp; subst hp; exact hk
  | cons q rest =>
    obtain ⟨k', v'⟩ := q
    have hkk : k < k' := h (k', v') rfl
    have hr := (memWf_cons k' v' rest).mp hw
    intro p hp
    unfold memSet at hp
    split at hp
    · split at hp <;> (simp at hp; subst hp; first | exact hkk | exact hk)
    · split at hp
      · split at hp
        · exact Nat.lt_trans hkk (hr.2.1 p hp)
        · simp at hp; subst hp; exact hk
      · simp at hp; subst hp; exact hkk

/-- Writing a byte keeps the canonical form. -/
theorem memWf_memSet (m : List Host.Cell) (a : Nat) (b : Byte) (h : memWf m = true) : memWf (memSet m a b) = true := by
  induction m with
  | nil => unfold memSet; split <;> simp_all [memWf]
  | cons p rest ih =>
    obtain ⟨k, v⟩ := p
    obtain ⟨hv, hh, hr⟩ := (memWf_cons k v rest).mp h
    unfold memSet
    split
    · split
      · exact h
      · exact (memWf_cons _ _ _).mpr ⟨‹_›, fun p hp => by simp at hp; subst hp; assumption, h⟩
    · split
      · subst_vars
        split
        · exact hr
        · exact (memWf_cons _ _ _).mpr ⟨‹_›, hh, hr⟩
      · exact (memWf_cons _ _ _).mpr ⟨hv, memSet_head_above rest k a b (by omega) hh hr, ih hr⟩

/-! ## Storing bytes -/

theorem putByte_memOk (s : State) (a : Nat) (b : Byte) (h : s.memOk) : (s.putByte a b).memOk := memWf_memSet _ _ _ h

theorem putByte_byte_self (s : State) (a : Nat) (b : Byte) (h : s.memOk) : (s.putByte a b).byte a = b :=
  memGet_memSet_self _ _ _ h

theorem putByte_byte_ne (s : State) (a c : Nat) (b : Byte) (hc : c ≠ a) : (s.putByte a b).byte c = s.byte c :=
  memGet_memSet_ne _ _ _ _ hc

theorem storeByte_memOk (s : State) (a : Nat) (b : Byte) (h : s.memOk) : (s.storeByte a b).memOk := by
  unfold State.storeByte; split
  · exact h
  · exact putByte_memOk s a b h

theorem storeByte_byte_ne (s : State) (a c : Nat) (b : Byte) (hc : c ≠ a) : (s.storeByte a b).byte c = s.byte c := by
  unfold State.storeByte; split
  · rfl
  · exact putByte_byte_ne s a c b hc

theorem storeByte_byte_self (s : State) (a : Nat) (b : Byte) (h : s.memOk) (hp : s.cfg.isIo a = false) :
    (s.storeByte a b).byte a = b := by
  simp only [State.storeByte, hp]; exact putByte_byte_self s a b h

theorem storeBytes_memOk (s : State) (as : List Nat) (bs : List Byte) (h : s.memOk) : (s.storeBytes as bs).memOk := by
  induction as generalizing s bs with
  | nil => cases bs <;> exact h
  | cons a as ih => cases bs with
    | nil => exact h
    | cons b bs => exact ih _ _ (storeByte_memOk s a b h)

/-- A byte outside the addresses stored to keeps its value. -/
theorem storeBytes_byte_ne (s : State) (as : List Nat) (bs : List Byte) (c : Nat) (hc : c ∉ as) :
    (s.storeBytes as bs).byte c = s.byte c := by
  induction as generalizing s bs with
  | nil => cases bs <;> rfl
  | cons a as ih => cases bs with
    | nil => rfl
    | cons b bs =>
      simp only [List.mem_cons, not_or] at hc
      exact (ih (s.storeByte a b) bs hc.2).trans (storeByte_byte_ne s a c b hc.1)

/-- The k-th address takes the k-th byte, where the addresses are different; one in a device keeps its byte. -/
theorem storeBytes_byte (s : State) (as : List Nat) (bs : List Byte) (h : s.memOk) (hn : as.Nodup)
    (k : Nat) (a : Nat) (b : Byte) (ha : as[k]? = some a) (hb : bs[k]? = some b) :
    (s.storeBytes as bs).byte a = if s.cfg.isIo a then s.byte a else b := by
  induction as generalizing s bs k with
  | nil => simp at ha
  | cons a' as ih => cases bs with
    | nil => simp at hb
    | cons b' bs =>
      rw [List.nodup_cons] at hn
      cases k with
      | zero =>
        simp only [List.getElem?_cons_zero, Option.some.injEq] at ha hb
        subst ha hb
        refine (storeBytes_byte_ne _ as bs _ hn.1).trans ?_
        split
        · simp [State.storeByte, *]
        · exact storeByte_byte_self s _ _ h (Bool.eq_false_of_not_eq_true ‹_›)
      | succ k =>
        have hne : a ≠ a' := fun e => hn.1 (e ▸ List.mem_of_getElem? (by simpa using ha))
        rw [State.storeBytes, ih (s.storeByte a' b') bs (storeByte_memOk s _ _ h) hn.2 k (by simpa using ha) (by simpa using hb),
          State.storeByte_cfg, storeByte_byte_ne s _ _ _ hne]

/-! ## The addresses of an access -/

theorem span_length (bits a n : Nat) : (span bits a n).length = n := by simp [span]

theorem span_getElem? (bits a n k : Nat) (h : k < n) : (span bits a n)[k]? = some ((a + k) % 2 ^ bits) := by
  simp [span, h]

theorem mem_span (bits a n c : Nat) : c ∈ span bits a n ↔ ∃ k, k < n ∧ (a + k) % 2 ^ bits = c := by
  simp [span]

/-- The addresses of an access no wider than the address space are different. -/
theorem span_nodup (bits a n : Nat) (h : n ≤ 2 ^ bits) : (span bits a n).Nodup := by
  refine (List.nodup_range).map_on ?_
  intro i hi j hj e
  rw [List.mem_range] at hi hj
  have hlt : ∀ k, k < n → k % 2 ^ bits = k := fun k hk => Nat.mod_eq_of_lt (Nat.lt_of_lt_of_le hk h)
  have : i % 2 ^ bits = j % 2 ^ bits := Nat.ModEq.add_left_cancel' a e
  rwa [hlt i hi, hlt j hj] at this

/-! ## The bytes of a value -/

theorem natToLe_length (n v : Nat) : (natToLe n v).length = n := by
  induction n generalizing v with
  | zero => rfl
  | succ n ih => simp [natToLe, ih]

theorem natToLe_getElem? (n v k : Nat) (h : k < n) : (natToLe n v)[k]? = some (BitVec.ofNat 8 (v / 256 ^ k)) := by
  induction n generalizing v k with
  | zero => omega
  | succ n ih => cases k with
    | zero => simp [natToLe]
    | succ k => simp [natToLe, ih (v / 256) k (by omega), Nat.div_div_eq_div_mul, Nat.pow_succ, Nat.mul_comm]

theorem natToBytes_length (e : Endian) (n v : Nat) : (natToBytes e n v).length = n := by
  cases e <;> simp [natToBytes, natToLe_length]

/-- The k-th byte of a value in the byte order of data (20_memory.md R72). -/
theorem natToBytes_getElem? (e : Endian) (n v k : Nat) (h : k < n) :
    (natToBytes e n v)[k]? = some (BitVec.ofNat 8 (v / 256 ^ (if e = .little then k else n - 1 - k))) := by
  cases e with
  | little => exact natToLe_getElem? n v k h
  | big =>
    simp only [natToBytes, reduceCtorEq, if_false]
    rw [List.getElem?_reverse (by rw [natToLe_length]; exact h), natToLe_length]
    exact natToLe_getElem? n v _ (by omega)

theorem leToNat_append (as bs : List Byte) : leToNat (as ++ bs) = leToNat as + 256 ^ as.length * leToNat bs := by
  induction as with
  | nil => simp [leToNat]
  | cons a as ih => simp only [List.cons_append, leToNat, ih, List.length_cons, Nat.pow_succ]; ring

theorem leToNat_natToLe (n v : Nat) : leToNat (natToLe n v) = v % 2 ^ (8 * n) := by
  induction n generalizing v with
  | zero => simp [natToLe, leToNat, Nat.mod_one]
  | succ n ih =>
    have : (2 : Nat) ^ (8 * (n + 1)) = 256 * 2 ^ (8 * n) := by rw [Nat.mul_add, Nat.pow_add]; omega
    simp only [natToLe, leToNat, ih, BitVec.toNat_ofNat, this, Nat.mod_mul]

theorem bytesToNat_natToBytes (e : Endian) (n v : Nat) : bytesToNat e (natToBytes e n v) = v % 2 ^ (8 * n) := by
  cases e <;> simp [bytesToNat, natToBytes, leToNat_natToLe]

/-- The value of bytes is the sum of their weights. -/
theorem leToNat_map_range (n : Nat) (f : Nat → Byte) :
    leToNat ((List.range n).map f) = ((List.range n).map fun k => (f k).toNat * 256 ^ k).sum := by
  induction n with
  | zero => rfl
  | succ n ih =>
    simp only [List.range_succ, List.map_append, List.map_cons, List.map_nil, leToNat_append, List.sum_append, ih,
      List.length_map, List.length_range, leToNat, List.sum_cons, List.sum_nil, Nat.mul_zero, Nat.add_zero]
    rw [Nat.mul_comm]

theorem map_range_reverse {α : Type} (n : Nat) (f : Nat → α) :
    ((List.range n).map f).reverse = (List.range n).map fun k => f (n - 1 - k) := by
  apply List.ext_getElem
  · simp
  · intro k h1 h2; simp

/-- The bytes at the addresses of an access, each seen through a function, have the value that the statements give them. -/
theorem bytesToNat_span (s : State) (ea n : Nat) (f : Nat → Byte) :
    bytesToNat s.cfg.endian ((span s.cfg.bits ea n).map f) = ((List.range n).map fun k =>
      (f ((ea + k) % 2 ^ s.cfg.bits)).toNat * 256 ^ (if s.cfg.endian = .little then k else n - 1 - k)).sum := by
  unfold span
  rw [List.map_map]
  cases s.cfg.endian with
  | little => simp only [bytesToNat, leToNat_map_range, if_true]; rfl
  | big =>
    simp only [bytesToNat, reduceCtorEq, if_false]
    rw [map_range_reverse, leToNat_map_range]
    have : ∀ g : Nat → Nat, ((List.range n).map g).sum = ((List.range n).map fun k => g (n - 1 - k)).sum := by
      intro g; rw [← map_range_reverse, List.sum_reverse]
    rw [this]
    congr 1
    apply List.map_congr_left
    intro k hk
    rw [List.mem_range] at hk
    have : n - 1 - (n - 1 - k) = k := by omega
    simp only [Function.comp, this]

/-- The bytes of a value in address order are those of the statements. -/
theorem natToBytes_eq (s : State) (n v : Nat) : natToBytes s.cfg.endian n v = s.bytesOf n v := by
  refine List.ext_getElem? fun k => ?_
  by_cases hk : k < n
  · rw [natToBytes_getElem? _ _ _ _ hk, State.bytesOf]; simp [hk]
  · rw [List.getElem?_eq_none (by rw [natToBytes_length]; omega),
      List.getElem?_eq_none (by simp [State.bytesOf]; omega)]

/-! ## MemRead and MemWrite -/

/-- Reading: the value seen, and the device access recorded. -/
theorem readMem_eq (s : State) (ea n : Nat) : s.readMem ea n = (s.seenAt ea n, s.noteRead ea n) := by
  rw [State.readMem, State.loadBytes, bytesToNat_span]; rfl

theorem noteRead_ioTrace (s : State) (ea n : Nat) :
    (s.noteRead ea n).ioTrace = s.ioTrace ++ s.ioEvents ea n (.read ea n) := by
  unfold State.noteRead State.ioEvents; split <;> simp

/-- A read keeps everything but the trace of device accesses. -/
theorem noteRead_keeps (s : State) (ea n : Nat) : s.Keeps (s.noteRead ea n) [] [] [] :=
  { x := fun _ _ _ => by simp, f := fun _ _ => by simp, mem := fun _ _ => by simp, cfg := by simp
    frm := by simp, jvt := by simp, stalled := by simp, halted := by simp, pending := by simp, enabled := by simp
    cause := by simp }

/-- Where no byte lies in a device, the value seen is that of memory, and nothing is recorded. -/
theorem seenAt_eq (s : State) (ea n : Nat) (h : ∀ a ∈ span s.cfg.bits ea n, s.cfg.isIo a = false) :
    s.seenAt ea n = s.valueAt ea n := by
  unfold State.seenAt State.valueAt
  congr 1
  refine List.map_congr_left fun k hk => ?_
  rw [h _ ((mem_span _ _ _ _).mpr ⟨k, List.mem_range.mp hk, rfl⟩)]
  rfl

theorem ioEvents_eq (s : State) (ea n : Nat) (e : IoEvent) (h : ∀ a ∈ span s.cfg.bits ea n, s.cfg.isIo a = false) :
    s.ioEvents ea n e = [] := by
  have : (span s.cfg.bits ea n).any s.cfg.isIo = false := by simpa using h
  simp [State.ioEvents, this]

theorem writeMem_memOk (s : State) (ea n v : Nat) (h : s.memOk) : (s.writeMem ea n v).memOk := by
  have := storeBytes_memOk s (span s.cfg.bits ea n) (natToBytes s.cfg.endian n v) h
  unfold State.writeMem State.noteWrite; split <;> exact this

/-- A byte outside the bytes of the access keeps its value. -/
theorem writeMem_byte_ne (s : State) (ea n v c : Nat) (hc : c ∉ span s.cfg.bits ea n) :
    (s.writeMem ea n v).byte c = s.byte c := by
  have := storeBytes_byte_ne s (span s.cfg.bits ea n) (natToBytes s.cfg.endian n v) c hc
  unfold State.writeMem State.noteWrite; split <;> exact this

/-- Writing: the bytes of the access hold the value; those in a device are as they were. -/
theorem writeMem_holds (s : State) (ea n v : Nat) (h : s.memOk) (hn : n ≤ 2 ^ s.cfg.bits) :
    s.HoldsAt (s.writeMem ea n v) ea n v := by
  intro k hk
  have := storeBytes_byte s (span s.cfg.bits ea n) (natToBytes s.cfg.endian n v) h (span_nodup _ _ _ hn) k _ _
    (span_getElem? _ _ _ _ hk) (natToBytes_getElem? _ _ _ _ hk)
  unfold State.writeMem State.noteWrite; split <;> exact this

/-- Writing keeps everything but the bytes of the access, what a fetch may return, and the trace of device accesses. -/
theorem writeMem_keeps (s : State) (ea n v : Nat) : s.Keeps (s.writeMem ea n v) [] [] (span s.cfg.bits ea n) :=
  { x := fun _ _ _ => by simp, f := fun _ _ => by simp, mem := fun a ha => writeMem_byte_ne s ea n v a ha, cfg := by simp
    frm := by simp, jvt := by simp, stalled := by simp, halted := by simp, pending := by simp, enabled := by simp
    cause := by simp }

theorem State.StaleWithin.refl (s : State) (bytes : List Nat) : s.StaleWithin s bytes := ⟨[], rfl, nofun⟩

theorem State.StaleWithin.trans {s u t : State} {as bs : List Nat} (h : s.StaleWithin u as) (k : u.StaleWithin t bs) :
    s.StaleWithin t (as ++ bs) := by
  obtain ⟨l, hl, hl'⟩ := h
  obtain ⟨m, hm, hm'⟩ := k
  refine ⟨m ++ l, by rw [hm, hl, List.append_assoc], fun store hs p hp => ?_⟩
  rcases List.mem_append.mp hs with hs | hs
  · exact List.mem_append_right _ (hm' store hs p hp)
  · exact List.mem_append_left _ (hl' store hs p hp)

theorem State.StaleWithin.mono {s t : State} {as bs : List Nat} (h : s.StaleWithin t as) (hb : ∀ a ∈ as, a ∈ bs) :
    s.StaleWithin t bs := by
  obtain ⟨new, hn, hn'⟩ := h
  exact ⟨new, hn, fun store hs p hp => hb _ (hn' store hs p hp)⟩

/-- Writing makes old only values of the bytes of the access. -/
theorem writeMem_stale (s : State) (ea n v : Nat) : s.StaleWithin (s.writeMem ea n v) (span s.cfg.bits ea n) := by
  simp only [State.StaleWithin, State.writeMem, State.noteWrite_stale, State.recordStale]
  split
  · exact ⟨[], by simp, nofun⟩
  · rename_i q qs hq
    refine ⟨[q :: qs], by simp, fun store hs p hp => ?_⟩
    obtain rfl := List.mem_singleton.mp hs
    rw [← hq] at hp
    obtain ⟨a, ha, rfl⟩ := List.mem_map.mp hp
    exact (List.mem_filter.mp ha).1

/-- Where a fetch sees two bytes as they stand in memory, their parcel is these bytes. -/
theorem parcelBytes_current (s : State) (a : Nat) (h : s.FetchesCurrent a 2) :
    s.parcelBytes a = [s.byte (a % 2 ^ s.cfg.bits), s.byte ((a + 1) % 2 ^ s.cfg.bits)] := by
  have key : ∀ stale : List (List Host.Cell), (∀ store ∈ stale, ∀ p ∈ store, p.1 ∉ span s.cfg.bits a 2) → ∀ x y,
      parcelHistory (a % 2 ^ s.cfg.bits) ((a + 1) % 2 ^ s.cfg.bits) x y stale = [[x, y]] := by
    intro stale
    induction stale with
    | nil => exact fun _ _ _ => rfl
    | cons store older ih =>
      intro h x y
      rw [parcelHistory, if_neg]
      · exact ih (fun st hs => h st (List.mem_cons_of_mem _ hs)) x y
      · simp only [List.any_eq_true, Bool.or_eq_true, beq_iff_eq, not_exists, not_and]
        intro p hp he
        refine h store List.mem_cons_self p hp ((mem_span _ _ _ _).mpr ?_)
        rcases he with he | he
        · exact ⟨0, by decide, he.symm⟩
        · exact ⟨1, by decide, he.symm⟩
  simp only [State.parcelBytes, State.parcelValues, key s.stale h]

/-- Writing records the device access. -/
theorem writeMem_ioTrace (s : State) (ea n v : Nat) :
    (s.writeMem ea n v).ioTrace = s.ioTrace ++ s.ioEvents ea n (.write ea (s.bytesOf n v)) := by
  unfold State.writeMem State.noteWrite State.ioEvents
  rw [natToBytes_length, natToBytes_eq]
  simp only [State.recordStale_cfg, State.storeBytes_cfg]
  split <;> simp

end Sys2Proof.Machine
end

