-- ==== Sys2Proof/Laws/Forms.lean ====
section
/-! SUPPORT. One lemma for each shared form of a meaning: what an instruction of that form does, in the terms the
statements use. An instruction's own statement is the lemma of its form, its premise `exec i s = …` true by rfl. -/

namespace Sys2Proof.Machine

/-! ## Integer results, jumps and branches -/

/-- An instruction that writes x[rd] and retires. -/
theorem writesX_of_exec {i : Instr} {s : State} {len : Nat} {rd : Reg} {v : BitVec s.cfg.bits}
    (h : exec i s = .next ((s.setX rd v).retire len)) : WritesX i s len rd v :=
  ⟨_, h, by rw [State.retire, State.retireTo_readX, readX_setX_self _ _ _ (bits_le_128 _)], setX_retire_retired s rd v len,
    setX_retire_keeps s rd v len⟩

/-- An instruction that only retires. -/
theorem noEffect_of_exec {i : Instr} {s : State} {len : Nat} (h : exec i s = .next (s.retire len)) : NoEffect i s len :=
  ⟨_, h, ⟨rfl, rfl⟩, retire_keeps s len⟩

/-- A jump whose target is aligned. -/
theorem jumpsTo_of_exec {i : Instr} {s : State} {len : Nat} {rd : Reg} {target : (s : State) → BitVec s.cfg.bits}
    (h : exec i s = jump len rd target s) (ok : s.cfg.ialign16 = true ∨ (target s).toNat % 4 = 0) :
    JumpsTo i s len rd (target s) := by
  have hm : s.misalignedTarget (target s) = false := by
    rcases ok with ok | ok <;> simp [State.misalignedTarget, ok]
  refine ⟨_, by rw [h, jump, if_neg (by simp [hm])], ?_, ⟨rfl, ?_⟩, ?_⟩
  · rw [State.retireTo_readX, readX_setX_self _ _ _ (bits_le_128 _)]
  · rw [retireTo_instret]; simp
  · exact (setX_keeps s rd _).trans (retireTo_keeps _ _)

/-- A jump whose target is misaligned. -/
theorem jump_raises {i : Instr} {s : State} {len : Nat} {rd : Reg} {target : (s : State) → BitVec s.cfg.bits}
    (h : exec i s = jump len rd target s) (hi : s.cfg.ialign16 = false) (ht : (target s).toNat % 4 ≠ 0) :
    Raises i s (.instructionAddressMisaligned ((target s).setWidth 128)) len := by
  have hm : s.misalignedTarget (target s) = true := by simp [State.misalignedTarget, hi, ht]
  rw [Raises, h, jump, if_pos hm]

/-- A branch, unless it is taken to a misaligned target. -/
theorem branchesTo_of_exec {i : Instr} {s : State} {len : Nat} {rs1 rs2 : Reg} {k : Nat} {off : BitVec k}
    {cond : (n : Nat) → BitVec n → BitVec n → Bool} {taken : Prop} (h : exec i s = branch len rs1 rs2 off cond s)
    (hc : cond s.cfg.bits (s.readX s.cfg.bits rs1) (s.readX s.cfg.bits rs2) = true ↔ taken)
    (ok : taken → s.cfg.ialign16 = true ∨ (s.pcRel off).toNat % 4 = 0) : BranchesTo i s len taken (s.pcRel off) := by
  by_cases ht : taken
  · have hm : s.misalignedTarget (s.pcRel off) = false := by
      rcases ok ht with ok | ok <;> simp [State.misalignedTarget, ok]
    refine ⟨_, by rw [h, branch, if_pos (hc.mpr ht), if_neg (by simp [hm])], fun _ => ⟨rfl, rfl⟩, fun n => absurd ht n,
      retireTo_keeps _ _⟩
  · refine ⟨_, by rw [h, branch, if_neg (fun e => ht (hc.mp e))], fun e => absurd e ht, fun _ => ⟨rfl, rfl⟩,
      retire_keeps _ _⟩

/-- A branch taken to a misaligned target. -/
theorem branch_raises {i : Instr} {s : State} {len : Nat} {rs1 rs2 : Reg} {k : Nat} {off : BitVec k}
    {cond : (n : Nat) → BitVec n → BitVec n → Bool} (h : exec i s = branch len rs1 rs2 off cond s)
    (hc : cond s.cfg.bits (s.readX s.cfg.bits rs1) (s.readX s.cfg.bits rs2) = true) (hi : s.cfg.ialign16 = false)
    (ht : (s.pcRel off).toNat % 4 ≠ 0) :
    Raises i s (.instructionAddressMisaligned ((s.pcRel off).setWidth 128)) len := by
  have hm : s.misalignedTarget (s.pcRel off) = true := by simp [State.misalignedTarget, hi, ht]
  rw [Raises, h, branch, if_pos hc, if_pos hm]

/-! ## Loads and stores -/

/-- An access that raises nothing for its alignment has no exception where it may be made, else the access fault. -/
theorem checkAs_aligned {s : State} {mag : Bool} {ea n : Nat} {kind : AccessKind} (h : s.AlignmentOk mag ea n kind)
    (ok : Bool) : s.checkAs mag ea n kind ok = if ok then none else some (accessFaultExc kind ea) := by
  have : s.misalignedTraps mag ea n kind = false := by
    unfold State.misalignedTraps
    rcases h with e | e | ⟨e, g⟩ | e <;> simp [*]
  simp [State.checkAs, this]

/-- Any other access raises the misaligned exception, or, of the environment's choice, the access fault, whether or not
it may be made. -/
theorem checkAs_misaligned {s : State} {mag : Bool} {ea n : Nat} {kind : AccessKind} (h : ¬s.AlignmentOk mag ea n kind)
    (ok : Bool) : s.checkAs mag ea n kind ok =
      some (if Config.misalignedAsAccessFault s.draws ea n kind then accessFaultExc kind ea else misalignedExc kind ea) := by
  have : s.misalignedTraps mag ea n kind = true := by
    unfold State.AlignmentOk at h
    simp only [not_or] at h
    obtain ⟨h1, h2, h3, h4⟩ := h
    have h2 : s.cfg.misaligned = .mayTrap := by cases e : s.cfg.misaligned <;> simp_all
    have h3 : (mag && s.cfg.inGranule ea n) = false := by cases mag <;> simp_all
    simp [State.misalignedTraps, h1, h2, h3, h4]
  simp only [State.checkAs, this, if_true]
  split <;> rfl

/-- An access that may complete has no exception. -/
theorem check_of_accesses {s : State} {mag : Bool} {ea n : Nat} {kind : AccessKind} (h : s.Accesses mag ea n kind) :
    s.check mag ea n kind = none := by
  rw [State.check, checkAs_aligned h.alignment, h.accessible, if_pos rfl]

/-- MemRead. -/
theorem load_of_accesses {s : State} {mag : Bool} {ea n : Nat} (h : s.Accesses mag ea n .load) :
    s.load mag ea n = .ok (s.seenAt ea n, s.noteRead ea n) := by
  rw [State.load, check_of_accesses h]; simp only [readMem_eq]

/-- MemWrite. -/
theorem store_of_accesses {s : State} {mag : Bool} {ea n : Nat} (h : s.Accesses mag ea n .store) (v : Nat) :
    s.store mag ea n v = .ok (s.writeMem ea n v) := by
  rw [State.store, check_of_accesses h]

theorem loadsX_of_exec {i : Instr} {s : State} {len n : Nat} {signed : Bool} {rd : Reg} {ea : State → Nat}
    (h : exec i s = loadX len n signed rd ea s) : LoadsX i s len n signed rd (ea s) := fun ha => by
  refine ⟨_, by rw [h, loadX, load_of_accesses ha], ?_, ⟨?_, ?_⟩, ?_, by simp, by simp, by simp, ?_⟩
  · rw [State.retire, State.retireTo_readX, readX_setX_self _ _ _ (bits_le_128 _)]; rfl
  · rw [retire_pc]; exact after_congr (by simp) (by simp) len
  · rw [retire_instret]; simp
  · exact ((noteRead_keeps s _ n).trans (setX_keeps _ rd _).toKeeps).trans (retire_keeps _ len).toKeeps
  · simpa using noteRead_ioTrace s (ea s) n

/-- The granule of a floating-point format. -/
theorem magFp_eq (s : State) (f : Fmt) (n : Nat) (hn : f.width = 8 * n) : s.magFp f = s.fpGranule n := by
  have h : (f != .h) = decide (n ≠ 2) := by
    cases f <;> simp only [Fmt.width] at hn
    · rw [show n = 2 by omega]; rfl
    · rw [show n = 4 by omega]; rfl
    · rw [show n = 8 by omega]; rfl
    · rw [show n = 16 by omega]; rfl
  rw [State.magFp, State.fpGranule, hn, Bool.decide_and, h]

theorem loadsF_of_exec {i : Instr} {s : State} {len : Nat} {f : Fmt} {rd : Reg} {ea : State → Nat}
    (h : exec i s = loadF len f rd ea s) (n : Nat) (hn : f.width = 8 * n) : LoadsF i s len n rd (ea s) := fun ha => by
  have hd : f.width / 8 = n := by omega
  have hb : box s.cfg.flen (BitVec.ofNat f.width (s.seenAt (ea s) n)) =
      box s.cfg.flen (BitVec.ofNat (8 * n) (s.seenAt (ea s) n)) := by rw [hn]
  rw [← magFp_eq s f n hn] at ha
  refine ⟨_, by rw [h, loadF, hd, load_of_accesses ha], ?_, ⟨?_, ?_⟩, ?_, by simp, by simp, by simp, ?_⟩
  · rw [State.retire, State.retireTo_readF, readF_setF_self, ← hb]
  · rw [retire_pc]; exact after_congr (by simp) (by simp) len
  · rw [retire_instret]; simp
  · exact ((noteRead_keeps s _ n).trans (setF_keeps _ rd _).toKeeps).trans (retire_keeps _ len).toKeeps
  · simpa using noteRead_ioTrace s (ea s) n

/-- An instruction that writes memory and retires. -/
theorem storesX_of_write {i : Instr} {s : State} {len : Nat} {mag : Bool} {n ea v : Nat}
    (h : s.Accesses mag ea n .store → exec i s = .next ((s.writeMem ea n v).retire len)) (hn : n ≤ 2 ^ s.cfg.bits) :
    StoresX i s len mag n ea v := fun hm ha => by
  refine ⟨_, h ha, ?_, ⟨?_, ?_⟩,
    by simpa using (writeMem_keeps s ea n v).trans (retire_keeps (s.writeMem ea n v) len).toKeeps,
    writeMem_stale s ea n v, by simp, by simp, ?_⟩
  · intro k hk; simpa [State.retire] using writeMem_holds s ea n v hm hn k hk
  · rw [retire_pc]; exact after_congr (by simp) (by simp) len
  · rw [retire_instret]; simp
  · simpa [State.retire] using writeMem_ioTrace s ea n v

theorem width_le_space (s : State) (n : Nat) (hn : n ≤ 16) : n ≤ 2 ^ s.cfg.bits :=
  le_trans hn (le_trans (by decide : 16 ≤ 2 ^ 32) (Nat.pow_le_pow_right (by decide) (bits_ge_32 _)))

theorem storesX_of_exec {i : Instr} {s : State} {len n : Nat} {rs2 : Reg} {ea : State → Nat}
    (h : exec i s = storeX len n rs2 ea s) (hn : n ≤ 16) :
    StoresX i s len true n (ea s) (s.readX s.cfg.bits rs2).toNat :=
  storesX_of_write (fun ha => by rw [h, storeX, store_of_accesses ha]) (width_le_space s n hn)

theorem storesF_of_exec {i : Instr} {s : State} {len : Nat} {f : Fmt} {rs2 : Reg} {ea : State → Nat}
    (h : exec i s = storeF len f rs2 ea s) (n : Nat) (hn : f.width = 8 * n) :
    StoresX i s len (s.fpGranule n) n (ea s) (s.readF rs2).toNat :=
  have hd : f.width / 8 = n := by omega
  storesX_of_write (fun ha => by rw [h, storeF, hd, magFp_eq s f n hn, store_of_accesses ha])
    (width_le_space s n (by have : f.width ≤ 128 := by cases f <;> decide
                            omega))

/-- A load whose access has an exception raises it. -/
theorem loadX_raises {i : Instr} {s : State} {len n : Nat} {signed : Bool} {rd : Reg} {ea : State → Nat} {e : Exc}
    (h : exec i s = loadX len n signed rd ea s) (hc : s.check true (ea s) n .load = some e) : Raises i s e len := by
  rw [Raises, h, loadX, State.load, hc]

theorem storeX_raises {i : Instr} {s : State} {len n : Nat} {rs2 : Reg} {ea : State → Nat} {e : Exc}
    (h : exec i s = storeX len n rs2 ea s) (hc : s.check true (ea s) n .store = some e) : Raises i s e len := by
  rw [Raises, h, storeX, State.store, hc]

theorem loadF_raises {i : Instr} {s : State} {len : Nat} {f : Fmt} {rd : Reg} {ea : State → Nat} {e : Exc}
    (h : exec i s = loadF len f rd ea s) (n : Nat) (hn : f.width = 8 * n)
    (hc : s.check (s.fpGranule n) (ea s) n .load = some e) : Raises i s e len := by
  have hd : f.width / 8 = n := by omega
  rw [Raises, h, loadF, hd, magFp_eq s f n hn, State.load, hc]

theorem storeF_raises {i : Instr} {s : State} {len : Nat} {f : Fmt} {rs2 : Reg} {ea : State → Nat} {e : Exc}
    (h : exec i s = storeF len f rs2 ea s) (n : Nat) (hn : f.width = 8 * n)
    (hc : s.check (s.fpGranule n) (ea s) n .store = some e) : Raises i s e len := by
  have hd : f.width / 8 = n := by omega
  rw [Raises, h, storeF, hd, magFp_eq s f n hn, State.store, hc]

/-! ## Floating point -/

theorem flen_le_128 (c : Config) : c.flen ≤ 128 := by unfold Config.flen; split <;> (try split) <;> decide

/-- The cell of a boxed result: the result, with ones above it up to FLEN. -/
theorem box_toNat {flen w : Nat} (hw : w ≤ flen) (hf : flen ≤ 128) (v : BitVec w) :
    (box flen v).toNat = 2 ^ flen - 2 ^ w + v.toNat := by
  have hv : v.toNat < 2 ^ w := v.isLt
  have hle : (2 : Nat) ^ w ≤ 2 ^ flen := Nat.pow_le_pow_right (by decide) hw
  have hle2 : (2 : Nat) ^ flen ≤ 2 ^ 128 := Nat.pow_le_pow_right (by decide) hf
  have e : ((2 : Nat) ^ flen - 2 ^ w) = 2 ^ w * (2 ^ (flen - w) - 1) := by
    rw [Nat.mul_sub, ← Nat.pow_add, Nat.mul_one]; congr 2; omega
  have h1 : (BitVec.allOnes flen <<< w).toNat = 2 ^ flen - 2 ^ w := by
    rw [BitVec.toNat_shiftLeft, BitVec.toNat_allOnes, Nat.shiftLeft_eq]
    have : (2 ^ flen - 1) * 2 ^ w = 2 ^ flen - 2 ^ w + 2 ^ flen * (2 ^ w - 1) := by
      have h0 : 1 ≤ (2 : Nat) ^ w := Nat.one_le_two_pow
      zify [h0, hle, Nat.one_le_two_pow (n := flen)]; ring
    rw [this, Nat.add_mul_mod_self_left, Nat.mod_eq_of_lt]
    have : 0 < (2 : Nat) ^ w := Nat.two_pow_pos w
    omega
  have h2 : (v.setWidth flen).toNat = v.toNat := by
    rw [BitVec.toNat_setWidth, Nat.mod_eq_of_lt (by omega)]
  rw [box, BitVec.toNat_setWidth, BitVec.toNat_or, h1, h2, e, Nat.mul_comm (2 ^ w), ← Nat.shiftLeft_eq,
    ← Nat.shiftLeft_add_eq_or_of_lt hv, Nat.shiftLeft_eq, Nat.mul_comm _ (2 ^ w), ← e, Nat.mod_eq_of_lt (by omega)]

/-- A boxed result reads back through unbox. -/
theorem unbox_box {flen w : Nat} (hw : w ≤ flen) (hf : flen ≤ 128) (v nan : BitVec w) :
    unbox flen w nan (box flen v) = v := by
  have hb : (box flen v).setWidth flen = BitVec.allOnes flen <<< w ||| v.setWidth flen := by
    rw [box, BitVec.setWidth_setWidth_of_le _ hf, BitVec.setWidth_eq]
  have h1 : (box flen v).setWidth flen >>> w = BitVec.allOnes flen >>> w := by
    rw [hb]
    apply BitVec.eq_of_getLsbD_eq
    intro i hi
    simp only [BitVec.getLsbD_ushiftRight, BitVec.getLsbD_or, BitVec.getLsbD_shiftLeft, BitVec.getLsbD_allOnes,
      BitVec.getLsbD_setWidth]
    by_cases hiw : w + i < flen
    · simp [hiw, hi]
    · simp [hiw]
  have h2 : (box flen v).setWidth w = v := by
    apply BitVec.eq_of_getLsbD_eq
    intro i hi
    have hif : i < flen := by omega
    have hi128 : i < 128 := by omega
    simp [box, hif, hi128, hi]
  rw [unbox, if_pos h1, h2]

theorem even_succ_ne (r : Reg) (h : r.toNat % 2 = 0) : r ≠ r + 1 ∧ r + 1 ≠ 0 := by
  revert r; decide

/-- Writing a floating-point result: its register holds it. -/
theorem holdsFp_setFp {s t : State} (f : Fmt) (rd : Reg) (v : BitVec f.width) (h : s.HasFmt f rd)
    (hx : ∀ r n, t.readX n r = (s.setFp rd v).readX n r) (hf : ∀ r, t.readF r = (s.setFp rd v).readF r) :
    s.HoldsFp t f rd v := by
  unfold State.HasFmt at h
  unfold State.HoldsFp
  simp only [hx, hf]
  unfold State.setFp State.setPair
  by_cases hz : s.cfg.ext.zfinx = true
  · simp only [hz, if_true] at h ⊢
    intro hr
    by_cases hw : f.width ≤ s.cfg.bits
    · simp only [hw, if_true]
      rw [readX_setX_self _ _ _ (bits_le_128 _), if_neg hr]
    · simp only [hw, hr, if_false]
      obtain ⟨h1, h2⟩ := even_succ_ne rd (h.resolve_left hw).2
      rw [readX_setX_self _ _ _ (bits_le_128 _), if_neg h2, readX_setX_ne _ _ _ _ _ h1,
        readX_setX_self _ _ _ (bits_le_128 _), if_neg hr]
      exact ⟨by apply BitVec.eq_of_toNat_eq; simp, by apply BitVec.eq_of_toNat_eq; simp⟩
  · simp only [hz, Bool.false_eq_true, if_false]
    exact readF_setF_self s rd _

theorem accrue_zero (s : State) : s.accrue 0 = s := by simp [State.accrue]

/-- Writing a floating-point result keeps all but its registers. -/
theorem setFp_keeps (s : State) (f : Fmt) (rd : Reg) (v : BitVec f.width) :
    s.KeepsRest (s.setFp rd v) (if s.cfg.ext.zfinx then s.cfg.finxRegs f.width rd else [])
      (if s.cfg.ext.zfinx then [] else [rd]) [] := by
  unfold State.setFp Config.finxRegs State.setPair
  split
  · split
    · split
      · subst_vars; simpa [State.setX] using State.KeepsRest.refl s
      · exact setX_keeps s rd _
    · split
      · exact State.KeepsRest.refl s
      · exact (setX_keeps s rd _).trans (setX_keeps _ _ _)
  · exact setF_keeps s rd _

/-- An instruction that writes a floating-point result, accrues its flags and retires. -/
theorem writesFp_of_exec {i : Instr} {s : State} {f : Fmt} {rd : Reg} {r : BitVec f.width × FpFlags}
    (h : exec i s = .next ((s.putFp f rd r).retire 4)) : WritesFp i s f rd r := fun hf => by
  refine ⟨_, h, holdsFp_setFp f rd r.1 hf (fun _ _ => by simp [State.putFp])
    (fun _ => by simp [State.putFp]), by simp [State.putFp, State.accrue], ⟨?_, ?_⟩, ?_,
    by simp, by simp⟩
  · rw [retire_pc]; exact after_congr (by simp [State.putFp]) (by simp [State.putFp]) 4
  · rw [retire_instret]; simp [State.putFp]
  · have := ((setFp_keeps s f rd r.1).toKeeps.trans (accrue_keeps _ r.2)).trans (retire_keeps _ 4).toKeeps
    simpa [State.putFp] using this

/-- The same without flags. -/
theorem writesFp_of_const {i : Instr} {s : State} {f : Fmt} {rd : Reg} {v : BitVec f.width}
    (h : exec i s = .next ((s.setFp rd v).retire 4)) : WritesFp i s f rd (v, 0) :=
  writesFp_of_exec (h.trans (by simp only [State.putFp, accrue_zero]))

/-- An instruction that writes x[rd], accrues flags and retires. -/
theorem writesXFlags_of_exec {i : Instr} {s : State} {rd : Reg} {v : BitVec s.cfg.bits} {fl : FpFlags}
    (h : exec i s = .next ((s.putX rd v fl).retire 4)) : WritesXFlags i s rd v fl := by
  refine ⟨_, h, ?_, by simp [State.putX, State.accrue], ⟨?_, ?_⟩, ?_, by simp,
    by simp⟩
  · simp only [State.retire, State.putX, State.retireTo_readX, State.accrue_readX]
    rw [readX_setX_self _ _ _ (bits_le_128 _)]
  · rw [retire_pc]; exact after_congr (by simp [State.putX]) (by simp [State.putX]) 4
  · rw [retire_instret]; simp [State.putX]
  · have := ((setX_keeps s rd v).toKeeps.trans (accrue_keeps _ fl)).trans (retire_keeps _ 4).toKeeps
    simpa [State.putX] using this

/-- An instruction that writes f[rd] and retires. -/
theorem writesF_of_exec {i : Instr} {s : State} {len : Nat} {rd : Reg} {v : Cell}
    (h : exec i s = .next ((s.setF rd v).retire len)) : WritesF i s len rd v :=
  ⟨_, h, by rw [State.retire, State.retireTo_readF, readF_setF_self],
    ⟨(retire_pc _ _).trans (after_congr rfl rfl len), rfl⟩, (setF_keeps s rd v).trans (retire_keeps _ len)⟩

/-- An instruction with an rm field, in a mode that is not reserved. -/
theorem withMode_eq {i j : Instr} {s : State} {rm : BitVec 3} {body : RoundingMode → State → State} {mode : RoundingMode}
    (h : exec j s = withMode i rm body s) (hm : s.effectiveMode rm = some mode) : exec j s = .next ((body mode s).retire 4) := by
  rw [h, withMode, hm]

/-- An instruction with an rm field, in a reserved mode. -/
theorem withMode_raises {i : Instr} {s : State} {rm : BitVec 3} {body : RoundingMode → State → State}
    (h : exec i s = withMode i rm body s) (hm : s.effectiveMode rm = none) (hl : i.len = 4) :
    Raises i s (.illegalInstruction (encode i)) 4 := by
  rw [Raises, h, withMode, hm, State.raiseIllegal, hl]

/-- The forms with an rm field, in a mode that is not reserved: the result, its flags, and nothing else. -/
theorem fp1_writes {i : Instr} {s : State} {f : Fmt} {rd rs1 : Reg} {rm : BitVec 3} {mode : RoundingMode}
    {op : RoundingMode → Fp → BitVec f.width × FpFlags} (h : exec i s = fp1 i f rd rs1 rm op s)
    (hm : s.effectiveMode rm = some mode) : WritesFp i s f rd (op mode (s.fpVal f rs1)) :=
  writesFp_of_exec (withMode_eq h hm)

theorem fp2_writes {i : Instr} {s : State} {f : Fmt} {rd rs1 rs2 : Reg} {rm : BitVec 3} {mode : RoundingMode}
    {op : RoundingMode → Fp → Fp → BitVec f.width × FpFlags} (h : exec i s = fp2 i f rd rs1 rs2 rm op s)
    (hm : s.effectiveMode rm = some mode) : WritesFp i s f rd (op mode (s.fpVal f rs1) (s.fpVal f rs2)) :=
  writesFp_of_exec (withMode_eq h hm)

theorem fp3_writes {i : Instr} {s : State} {f : Fmt} {rd rs1 rs2 rs3 : Reg} {rm : BitVec 3} {mode : RoundingMode}
    (np na : Bool) (h : exec i s = fp3 i f rd rs1 rs2 rs3 rm np na s) (hm : s.effectiveMode rm = some mode) :
    WritesFp i s f rd (f.fma mode (if np then (s.fpVal f rs1).negate else s.fpVal f rs1) (s.fpVal f rs2)
      (if na then (s.fpVal f rs3).negate else s.fpVal f rs3)) :=
  writesFp_of_exec (withMode_eq h hm)

theorem fpToInt_writes {i : Instr} {s : State} {f : Fmt} {rd rs1 : Reg} {rm : BitVec 3} {mode : RoundingMode} {w : Nat}
    {lo hi : Int} (h : exec i s = fpToInt i f rd rs1 rm w lo hi s) (hm : s.effectiveMode rm = some mode) :
    WritesXFlags i s rd ((BitVec.ofInt w ((s.fpVal f rs1).toInt mode lo hi).1).signExtend s.cfg.bits)
      ((s.fpVal f rs1).toInt mode lo hi).2 := writesXFlags_of_exec (withMode_eq h hm)

theorem fpOfInt_writes {i : Instr} {s : State} {f : Fmt} {rd rs1 : Reg} {rm : BitVec 3} {mode : RoundingMode} (w : Nat)
    (signed : Bool) (h : exec i s = fpOfInt i f rd rs1 rm w signed s) (hm : s.effectiveMode rm = some mode) :
    WritesFp i s f rd (f.ofInt mode (if signed then (s.readX w rs1).toInt else ((s.readX w rs1).toNat : Int))) :=
  writesFp_of_exec (withMode_eq h hm)

theorem fpConvert_writes {i : Instr} {s : State} {dst src : Fmt} {rd rs1 : Reg} {rm : BitVec 3} {mode : RoundingMode}
    (h : exec i s = fpConvert i dst src rd rs1 rm s) (hm : s.effectiveMode rm = some mode) :
    WritesFp i s dst rd (dst.ofFp mode (s.fpVal src rs1)) := writesFp_of_exec (withMode_eq h hm)

theorem fpRound_writes {i : Instr} {s : State} {f : Fmt} {exact : Bool} {rd rs1 : Reg} {rm : BitVec 3}
    {mode : RoundingMode} (h : exec i s = fpRound i f exact rd rs1 rm s) (hm : s.effectiveMode rm = some mode) :
    WritesFp i s f rd (f.roundToIntegral exact mode (s.fpArg f rs1)) := writesFp_of_exec (withMode_eq h hm)

/-! ## CSR instructions -/

theorem csrWrite_keeps (s : State) (a : BitVec 12) (v : BitVec s.cfg.bits) : s.KeepsData (s.csrWrite a v) [] :=
  { x := fun _ _ _ => by simp, f := fun _ => by simp, mem := fun _ => by simp }

/-- A CSR instruction on a CSR that the configuration has and that it may write. -/
theorem csrReplaces_of_exec {i j : Instr} {s : State} {a : BitVec 12} {reads writes : Bool} {rd : Reg}
    {op : (n : Nat) → BitVec n → BitVec n → BitVec n} {src : (s : State) → BitVec s.cfg.bits} {old : BitVec s.cfg.bits}
    (h : exec i s = csrAccess j a reads writes rd op src s) (ho : s.csrRead a = some old)
    (hw : writes = true → csrReadOnly a = false) (hr : reads = false → rd = 0) :
    CsrReplaces i s a rd old (if writes then some (op s.cfg.bits old (src s)) else none) := by
  have hn : (writes && csrReadOnly a) = false := by
    cases writes with
    | false => rfl
    | true => simp [hw rfl]
  have hset : ∀ s1 : State, s1.cfg = s.cfg → (if reads then s1.setX rd old else s1) = s1.setX rd old := by
    intro s1 _
    cases reads with
    | true => rfl
    | false => simp [hr rfl, State.setX]
  have he : exec i s = .next (((if writes then s.csrWrite a (op s.cfg.bits old (src s)) else s).setX rd old).retire 4) := by
    rw [h, csrAccess, ho]
    simp only [hn, Bool.false_eq_true, if_false]
    rw [hset _ (by split <;> simp)]
  cases writes <;> simp only [Bool.false_eq_true, if_true, if_false] at he ⊢
  · refine ⟨_, he, ?_, by simp, by simp, by simp, ⟨?_, ?_⟩,
      (setX_retire_keeps s rd old 4).toKeeps, ?_, by simp, by simp, by simp⟩
    · rw [State.retire, State.retireTo_readX, readX_setX_self _ _ _ (bits_le_128 _)]
    · rw [retire_pc]; exact after_congr (by simp) (by simp) 4
    · rw [retire_instret]; simp
    · have := setX_retire_keeps s rd old 4
      exact { x := this.x, f := fun r => this.f r (by simp), mem := fun b => this.mem b (by simp) }
  · refine ⟨_, he, ?_, by simp, by simp, by simp, ⟨?_, ?_⟩,
      (setX_retire_keeps _ rd old 4).toKeeps, ?_, by simp, by simp, by simp⟩
    · rw [State.retire, State.retireTo_readX, readX_setX_self _ _ _ (bits_le_128 _)]
    · rw [retire_pc]; exact after_congr (by simp) (by simp) 4
    · rw [retire_instret]; simp
    · have := setX_retire_keeps (s.csrWrite a (op s.cfg.bits old (src s))) rd old 4
      exact { x := fun r hr n => by rw [this.x r hr n]; simp
              f := fun r => by rw [this.f r (by simp)]; simp
              mem := fun b => by rw [this.mem b (by simp)]; simp }

/-- A CSR instruction on an absent CSR, or that writes a read-only one. -/
theorem csrAccess_raises {i : Instr} {s : State} {a : BitVec 12} {reads writes : Bool} {rd : Reg}
    {op : (n : Nat) → BitVec n → BitVec n → BitVec n} {src : (s : State) → BitVec s.cfg.bits}
    (h : exec i s = csrAccess i a reads writes rd op src s)
    (hv : s.csrRead a = none ∨ (writes = true ∧ csrReadOnly a = true)) (hl : i.len = 4) :
    Raises i s (.illegalInstruction (encode i)) 4 := by
  rw [Raises, h, csrAccess]
  split
  · rw [State.raiseIllegal, hl]
  · rcases hv with hv | ⟨hw, ho⟩
    · simp_all
    · rw [if_pos (by simp [hw, ho]), State.raiseIllegal, hl]

end Sys2Proof.Machine
end

