-- ==== Sys2Proof/Laws/Integer.lean ====
section
/-! SUPPORT. The integer operations of Operands.lean in exact integers: comparisons, shifts, products, quotients, and the
immediates with zero bits below. -/

namespace Sys2Proof.Machine

theorem intSlt_eq (n : Nat) (a b : BitVec n) : intSlt n a b = if a.toInt < b.toInt then 1 else 0 := by
  simp [intSlt, boolX, BitVec.slt]

theorem intSltu_eq (n : Nat) (a b : BitVec n) : intSltu n a b = if a.toNat < b.toNat then 1 else 0 := by
  simp [intSltu, boolX, BitVec.ult]

/-- An integer that fits in n bits is its own residue. -/
theorem toInt_ofInt_of_bounds {n : Nat} (hn : 0 < n) {x : Int} (h1 : -2 ^ (n - 1) ≤ x) (h2 : x < 2 ^ (n - 1)) :
    (BitVec.ofInt n x).toInt = x := by
  have e : (2 : Int) ^ n = 2 * 2 ^ (n - 1) := by rw [← pow_succ']; congr 1; omega
  rw [BitVec.toInt_ofInt]
  apply Int.bmod_eq_of_le_mul_two <;> push_cast <;> omega

/-- An arithmetic shift right is the floor of the quotient by a power of two. -/
theorem sshiftRight_eq (n : Nat) (a : BitVec n) (k : Nat) : a.sshiftRight k = BitVec.ofInt n (a.toInt / 2 ^ k) := by
  apply BitVec.eq_of_toInt_eq
  rcases Nat.eq_zero_or_pos n with rfl | hn
  · simp [BitVec.toInt_zero_length]
  have h1 := @BitVec.toInt_lt n a
  have h2 := @BitVec.le_toInt n a
  have hp : (0 : Int) < 2 ^ k := by positivity
  have hk : (1 : Int) ≤ 2 ^ k := hp
  have hb : (0 : Int) < 2 ^ (n - 1) := by positivity
  rw [BitVec.toInt_sshiftRight, Int.shiftRight_eq_div_pow, toInt_ofInt_of_bounds hn]
  · norm_cast
  · rw [Int.le_ediv_iff_mul_le hp]; nlinarith
  · apply Int.ediv_lt_of_lt_mul hp; nlinarith

theorem intMul_eq (n : Nat) (a b : BitVec n) : intMul n a b = BitVec.ofInt n (a.toInt * b.toInt) := by
  apply BitVec.eq_of_toInt_eq
  rw [BitVec.toInt_ofInt, intMul, BitVec.toInt_mul]

theorem intMul_eq_nat (n : Nat) (a b : BitVec n) : intMul n a b = BitVec.ofNat n (a.toNat * b.toNat) := by
  apply BitVec.eq_of_toNat_eq
  simp [intMul, BitVec.toNat_mul]

/-- The high half of a number of 2n bits. -/
theorem extractLsb'_high (n : Nat) (x : BitVec (2 * n)) : x.extractLsb' n n = BitVec.ofNat n (x.toNat / 2 ^ n) := by
  apply BitVec.eq_of_toNat_eq
  rw [BitVec.extractLsb'_toNat, BitVec.toNat_ofNat, Nat.shiftRight_eq_div_pow]

/-- The high half of the product of two integers, each in the range of a signed or an unsigned number of n bits. -/
theorem high_of_int (n : Nat) (x : BitVec (2 * n)) (p : Int) (h : (x.toNat : Int) = p % 2 ^ (2 * n)) :
    x.extractLsb' n n = BitVec.ofInt n (p / 2 ^ n) := by
  rw [extractLsb'_high]
  apply BitVec.eq_of_toNat_eq
  rw [BitVec.toNat_ofNat, BitVec.toNat_ofInt]
  have e : (2 : Int) ^ (2 * n) = 2 ^ n * 2 ^ n := by rw [two_mul, pow_add]
  have hp : (0 : Int) < 2 ^ n := by positivity
  apply Int.ofNat.inj
  show ((x.toNat / 2 ^ n % 2 ^ n : Nat) : Int) = (((p / 2 ^ n) % ((2 ^ n : Nat) : Int)).toNat : Int)
  rw [Int.toNat_of_nonneg (Int.emod_nonneg _ (by positivity))]
  push_cast
  have hq : p % (2 ^ n * 2 ^ n) = p + 2 ^ n * (-(2 ^ n * (p / (2 ^ n * 2 ^ n)))) := by
    rw [Int.emod_def]; ring
  rw [h, e, hq, Int.add_mul_ediv_left _ _ hp.ne']
  rw [show -((2 : Int) ^ n * (p / (2 ^ n * 2 ^ n))) = 2 ^ n * (-(p / (2 ^ n * 2 ^ n))) by ring, Int.add_mul_emod_self_left]

theorem intMulhu_eq (n : Nat) (a b : BitVec n) : intMulhu n a b = BitVec.ofNat n (a.toNat * b.toNat / 2 ^ n) := by
  rw [intMulhu, extractLsb'_high, BitVec.toNat_mul, BitVec.toNat_setWidth, BitVec.toNat_setWidth]
  have hle : (2 : Nat) ^ n ≤ 2 ^ (2 * n) := Nat.pow_le_pow_right (by decide) (by omega)
  have e : (2 : Nat) ^ (2 * n) = 2 ^ n * 2 ^ n := by rw [two_mul, pow_add]
  rw [Nat.mod_eq_of_lt (lt_of_lt_of_le a.isLt hle), Nat.mod_eq_of_lt (lt_of_lt_of_le b.isLt hle), Nat.mod_eq_of_lt]
  rw [e]; exact Nat.mul_lt_mul'' a.isLt b.isLt

/-- The residue of a sign-extended number. -/
theorem signExtend_toNat_mod (n m : Nat) (a : BitVec n) (h : n ≤ m) : ((a.signExtend m).toNat : Int) = a.toInt % 2 ^ m := by
  have : (a.signExtend m).toInt = a.toInt := BitVec.toInt_signExtend_of_le h
  rw [← this, BitVec.toInt_eq_toNat_bmod]
  have hb := @Int.bmod_emod ((a.signExtend m).toNat : Int) (2 ^ m)
  push_cast at hb ⊢
  rw [hb]
  exact (Int.emod_eq_of_lt (by positivity) (by exact_mod_cast (a.signExtend m).isLt)).symm

theorem intMulh_eq (n : Nat) (a b : BitVec n) : intMulh n a b = BitVec.ofInt n (a.toInt * b.toInt / 2 ^ n) := by
  apply high_of_int
  rw [BitVec.toNat_mul]
  push_cast
  rw [signExtend_toNat_mod n _ a (by omega), signExtend_toNat_mod n _ b (by omega), ← Int.mul_emod]

theorem intMulhsu_eq (n : Nat) (a b : BitVec n) :
    intMulhsu n a b = BitVec.ofInt n (a.toInt * b.toNat / 2 ^ n) := by
  apply high_of_int
  have hle : (2 : Nat) ^ n ≤ 2 ^ (2 * n) := Nat.pow_le_pow_right (by decide) (by omega)
  rw [BitVec.toNat_mul, BitVec.toNat_setWidth, Nat.mod_eq_of_lt (lt_of_lt_of_le b.isLt hle)]
  push_cast
  rw [signExtend_toNat_mod n _ a (by omega), Int.mul_emod, Int.emod_emod_of_dvd _ dvd_rfl, ← Int.mul_emod]

theorem intDiv_eq (n : Nat) (a b : BitVec n) :
    intDiv n a b = if b = 0 then BitVec.allOnes n else BitVec.ofInt n (a.toInt.tdiv b.toInt) := by
  unfold intDiv
  split
  · rfl
  · apply BitVec.eq_of_toInt_eq
    rw [BitVec.toInt_ofInt, BitVec.toInt_sdiv]

theorem intDivu_eq (n : Nat) (a b : BitVec n) :
    intDivu n a b = if b = 0 then BitVec.allOnes n else BitVec.ofNat n (a.toNat / b.toNat) := by
  unfold intDivu
  split
  · rfl
  · apply BitVec.eq_of_toNat_eq
    rw [BitVec.toNat_udiv, BitVec.toNat_ofNat, Nat.mod_eq_of_lt (Nat.lt_of_le_of_lt (Nat.div_le_self _ _) a.isLt)]

theorem intRem_eq (n : Nat) (a b : BitVec n) :
    intRem n a b = if b = 0 then a else BitVec.ofInt n (a.toInt.tmod b.toInt) := by
  unfold intRem
  split
  · rfl
  · apply BitVec.eq_of_toInt_eq
    rw [← BitVec.toInt_srem, BitVec.ofInt_toInt]

theorem intRemu_eq (n : Nat) (a b : BitVec n) :
    intRemu n a b = if b = 0 then a else BitVec.ofNat n (a.toNat % b.toNat) := by
  unfold intRemu
  split
  · rfl
  · apply BitVec.eq_of_toNat_eq
    rw [BitVec.toNat_umod, BitVec.toNat_ofNat, Nat.mod_eq_of_lt (Nat.lt_of_le_of_lt (Nat.mod_le _ _) a.isLt)]

/-! ## Immediates with zero bits below -/

theorem append_zero_toNat {k : Nat} (v : BitVec k) (z : Nat) : (v ++ 0#z).toNat = v.toNat * 2 ^ z := by
  rw [BitVec.toNat_append]; simp [Nat.shiftLeft_eq]

/-- A signed value with zero bits below it is the value times a power of two. -/
theorem append_zero_signExtend {k : Nat} (v : BitVec k) (z n : Nat) :
    (v ++ 0#z).signExtend n = BitVec.ofInt n (v.toInt * 2 ^ z) := by
  show BitVec.ofInt n (v ++ 0#z).toInt = _
  rw [BitVec.toInt_append_zero, mul_comm]

/-- An unsigned value with zero bits below it is the value times a power of two. -/
theorem append_zero_setWidth {k : Nat} (v : BitVec k) (z n : Nat) :
    (v ++ 0#z).setWidth n = BitVec.ofNat n (v.toNat * 2 ^ z) := by
  apply BitVec.eq_of_toNat_eq
  rw [BitVec.toNat_setWidth, append_zero_toNat, BitVec.toNat_ofNat]

theorem immU_eq (n : Nat) (imm : BitVec 20) : immU n imm = BitVec.ofInt n (imm.toInt * 2 ^ 12) :=
  append_zero_signExtend imm 12 n

/-- The target of a pc-relative transfer. -/
theorem pcRel_eq (s : State) {k : Nat} (off : BitVec k) :
    s.pcRel off = s.readPc s.cfg.bits + BitVec.ofInt s.cfg.bits (off.toInt * 2) := by
  rw [State.pcRel, append_zero_signExtend, pow_one]

theorem jalrTarget_zero (s : State) (rs1 : Reg) : s.jalrTarget rs1 0 = s.readX s.cfg.bits rs1 &&& ~~~1 := by
  have : (0#12).signExtend s.cfg.bits = 0 := by
    show BitVec.ofInt _ (0#12).toInt = _
    simp
  rw [State.jalrTarget, show (0 : BitVec 12) = 0#12 from rfl, this]
  simp

end Sys2Proof.Machine
end

