-- ==== Sys2Proof/Laws/Shared.lean ====
section
/-! SUPPORT. The shared operations of the atomic, cache-block and Zc instructions: one lemma for what each does. -/

namespace Sys2Proof.Machine

/-! ## Effective addresses -/

theorem eaScaled_eq (s : State) (base : Reg) {m : Nat} (uimm : BitVec m) (k : Nat) :
    s.eaScaled base uimm k = (s.readX s.cfg.bits base + BitVec.ofNat s.cfg.bits (uimm.toNat * 2 ^ k)).toNat := rfl

theorem addr_zero (s : State) (base : Reg) : s.addr base 0 = (s.readX s.cfg.bits base).toNat := by simp [State.addr]

/-! ## Atomics -/

/-- The reservation of an LR contains the addressed bytes, and beside them what RESERVATION_SET says. -/
theorem reserve_contains (s : State) (a n b : Nat) :
    ∃ r, (s.reserve a n).reservation = some r ∧ r.addr = a ∧ r.size = n ∧
      (r.contains b = true ↔ (a ≤ b ∧ b < a + n) ∨ ∃ p ∈ s.reservationExtra a n, p.1 ≤ b ∧ b < p.1 + p.2) :=
  ⟨_, rfl, rfl, rfl, by simp [Reservation.contains]⟩

/-- LR at an aligned address that may be read and supports it. -/
theorem loadReserved_eq {s : State} {n : Nat} (rd rs1 : Reg) (h1 : s.atomicAddr rs1 % n = 0)
    (h2 : s.cfg.accessible (s.atomicAddr rs1) n .load = true) (h3 : s.cfg.lrscAt (s.atomicAddr rs1) n = true) :
    loadReserved n rd rs1 s = .next ((((s.noteRead (s.atomicAddr rs1) n).reserve (s.atomicAddr rs1) n).setX rd
      ((BitVec.ofNat (8 * n) (s.seenAt (s.atomicAddr rs1) n)).signExtend s.cfg.bits)).retire 4) := by
  unfold loadReserved
  rw [if_neg (by simp [h1]), if_pos (by simp [h2, h3]), readMem_eq s _ _]
  rfl

/-- LR and SC where the bytes may not be accessed or their region does not support them. -/
theorem loadReserved_inaccessible {s : State} {n : Nat} (rd rs1 : Reg) (h : s.atomicAddr rs1 % n = 0)
    (ha : (s.cfg.accessible (s.atomicAddr rs1) n .load && s.cfg.lrscAt (s.atomicAddr rs1) n) = false) :
    loadReserved n rd rs1 s = .next (s.raise (.loadAccessFault (BitVec.ofNat 128 (s.atomicAddr rs1))) 4) := by
  unfold loadReserved; rw [if_neg (by simp [h]), if_neg (by simp [ha])]; rfl

theorem storeConditional_inaccessible {s : State} {n : Nat} (rd rs1 rs2 : Reg) (h : s.atomicAddr rs1 % n = 0)
    (ha : (s.cfg.accessible (s.atomicAddr rs1) n .store && s.cfg.lrscAt (s.atomicAddr rs1) n) = false) :
    storeConditional n rd rs1 rs2 s =
      .next (s.raise (.storeAccessFault (BitVec.ofNat 128 (s.atomicAddr rs1))) 4) := by
  unfold storeConditional; rw [if_neg (by simp [h]), if_neg (by simp [ha])]; rfl

/-- LR and SC at a misaligned address. -/
theorem loadReserved_misaligned {s : State} {n : Nat} (rd rs1 : Reg) (h : s.atomicAddr rs1 % n ≠ 0) :
    loadReserved n rd rs1 s = .next (s.raise (.loadAddressMisaligned (BitVec.ofNat 128 (s.atomicAddr rs1))) 4) := by
  unfold loadReserved; rw [if_pos h]; rfl

theorem storeConditional_misaligned {s : State} {n : Nat} (rd rs1 rs2 : Reg) (h : s.atomicAddr rs1 % n ≠ 0) :
    storeConditional n rd rs1 rs2 s =
      .next (s.raise (.storeAddressMisaligned (BitVec.ofNat 128 (s.atomicAddr rs1))) 4) := by
  unfold storeConditional; rw [if_pos h]; rfl

/-- SC at an aligned address that may be written and supports it: it stores, or it fails. -/
theorem storeConditional_eq {s : State} {n : Nat} (rd rs1 rs2 : Reg) (h1 : s.atomicAddr rs1 % n = 0)
    (h2 : s.cfg.accessible (s.atomicAddr rs1) n .store = true) (h3 : s.cfg.lrscAt (s.atomicAddr rs1) n = true) :
    storeConditional n rd rs1 rs2 s =
      if s.scSucceeds (s.atomicAddr rs1) n then
        .next ((((s.writeMem (s.atomicAddr rs1) n (s.readX s.cfg.bits rs2).toNat).unreserve).setX rd
          (0 : BitVec s.cfg.bits)).retire 4)
      else .next (((s.unreserve).setX rd (1 : BitVec s.cfg.bits)).retire 4) := by
  unfold storeConditional
  rw [if_neg (by simp [h1]), if_pos (by simp [h2, h3])]

/-- An AMO at an address that is aligned, or in one granule, and may be read and written by its class. -/
theorem amo_eq {s : State} {n : Nat} {cls : AmoClass} (rd rs1 rs2 : Reg)
    (op : BitVec (8 * n) → BitVec (8 * n) → BitVec (8 * n))
    (h1 : s.atomicAddr rs1 % n = 0 ∨ s.cfg.inGranule (s.atomicAddr rs1) n = true)
    (h2 : s.cfg.amoAt (s.atomicAddr rs1) n cls = true) :
    amo n cls rd rs1 rs2 op s = .next ((((s.noteRead (s.atomicAddr rs1) n).writeMem (s.atomicAddr rs1) n
      (op (BitVec.ofNat (8 * n) (s.seenAt (s.atomicAddr rs1) n)) (s.readX (8 * n) rs2)).toNat).setX rd
        ((BitVec.ofNat (8 * n) (s.seenAt (s.atomicAddr rs1) n)).signExtend s.cfg.bits)).retire 4) := by
  unfold amo amoValue
  rw [if_neg (by rcases h1 with h1 | h1 <;> simp [h1]), if_pos h2, readMem_eq s _ _]
  rfl

/-- An AMO at such an address that may not. -/
theorem amo_inaccessible {s : State} {n : Nat} {cls : AmoClass} (rd rs1 rs2 : Reg)
    (op : BitVec (8 * n) → BitVec (8 * n) → BitVec (8 * n))
    (h1 : s.atomicAddr rs1 % n = 0 ∨ s.cfg.inGranule (s.atomicAddr rs1) n = true)
    (h2 : s.cfg.amoAt (s.atomicAddr rs1) n cls = false) :
    amo n cls rd rs1 rs2 op s = .next (s.raise (.storeAccessFault (BitVec.ofNat 128 (s.atomicAddr rs1))) 4) := by
  unfold amo; rw [if_neg (by rcases h1 with h1 | h1 <;> simp [h1]), if_neg (by simp [h2])]; rfl

theorem amo_misaligned {s : State} {n : Nat} {cls : AmoClass} (rd rs1 rs2 : Reg)
    (op : BitVec (8 * n) → BitVec (8 * n) → BitVec (8 * n)) (h1 : s.atomicAddr rs1 % n ≠ 0)
    (h2 : s.cfg.inGranule (s.atomicAddr rs1) n = false) :
    amo n cls rd rs1 rs2 op s = .next (s.raise (.storeAddressMisaligned (BitVec.ofNat 128 (s.atomicAddr rs1))) 4) := by
  unfold amo; rw [if_pos (by simp [h1, h2])]; rfl

theorem amo_raises {i : Instr} {s : State} {n : Nat} {cls : AmoClass} {rd rs1 rs2 : Reg}
    {op : BitVec (8 * n) → BitVec (8 * n) → BitVec (8 * n)} (h : exec i s = amo n cls rd rs1 rs2 op s)
    (h1 : s.atomicAddr rs1 % n ≠ 0) (h2 : s.cfg.inGranule (s.atomicAddr rs1) n = false) :
    Raises i s (.storeAddressMisaligned (BitVec.ofNat 128 (s.atomicAddr rs1))) 4 :=
  h.trans (amo_misaligned rd rs1 rs2 op h1 h2)

/-- From canonical memory, an AMO completes with its result. -/
theorem amoUpdates_of_exec {i : Instr} {s : State} {n : Nat} {cls : AmoClass} {rd rs1 rs2 : Reg}
    {op : BitVec (8 * n) → BitVec (8 * n) → BitVec (8 * n)} (h : exec i s = amo n cls rd rs1 rs2 op s) (hn : n ≤ 16) :
    AmoUpdates i s n cls rd rs1 rs2 op := by
  intro hm h1 h2
  have he := h.trans (amo_eq rd rs1 rs2 op h1 h2)
  simp only [State.atomicAddr] at he
  generalize (s.readX s.cfg.bits rs1).toNat = ea at *
  generalize (op (BitVec.ofNat (8 * n) (s.seenAt ea n)) (s.readX (8 * n) rs2)).toNat = new at *
  refine ⟨_, he, ?_, ?_, ⟨?_, ?_⟩, ?_, ?_, by simp, by simp, ?_⟩
  · rw [State.retire, State.retireTo_readX, readX_setX_self _ _ _ (bits_le_128 _)]
  · intro k hk
    rw [State.retire, State.retireTo_byte, State.setX_byte]
    simpa using writeMem_holds (s.noteRead ea n) ea n new (by simpa [State.memOk] using hm)
      (width_le_space _ n hn) k hk
  · rw [retire_pc]; exact after_congr (by simp) (by simp) 4
  · rw [retire_instret]; simp
  · simpa using (((noteRead_keeps s ea n).trans (writeMem_keeps _ ea n new)).trans
      (setX_keeps _ rd _).toKeeps).trans (retire_keeps _ 4).toKeeps
  · simpa [State.StaleWithin] using writeMem_stale (s.noteRead ea n) ea n new
  · rw [State.retire, State.retireTo_ioTrace, State.setX_ioTrace]
    refine (writeMem_ioTrace (s.noteRead ea n) ea n new).trans ?_
    rw [noteRead_ioTrace]
    simp only [State.ioEvents, State.bytesOf, State.noteRead_cfg]

/-! ## Push and pop -/

theorem slotAddr_eq (s : State) (top : BitVec s.cfg.bits) (k : Nat) :
    slotAddr s.cfg.bits s.cfg.bytes top k = s.slot top k := rfl

theorem bytes_le_16 (c : Config) : c.bytes ≤ 16 := by unfold Config.bytes Xlen.bytes; split <;> decide

theorem bytes_pos (c : Config) : 0 < c.bytes := by unfold Config.bytes Xlen.bytes; split <;> decide

/-- Whether an access may complete depends on the configuration and the draw alone. -/
theorem accesses_congr {s t : State} (hc : t.cfg = s.cfg) (hd : t.draws = s.draws) {mag : Bool} {ea n : Nat}
    {kind : AccessKind} (h : s.Accesses mag ea n kind) : t.Accesses mag ea n kind := by
  refine ⟨by rw [hc]; exact h.accessible, ?_⟩
  have := h.alignment
  unfold State.AlignmentOk at *
  rwa [hc, hd]

/-- A slot whose region performs PUSH and POP accesses, and whose access may complete, has no exception. -/
theorem slotCheck_of_accesses {s u : State} (hc : u.cfg = s.cfg) (hd : u.draws = s.draws) {a : Nat} {kind : AccessKind}
    (h : s.Accesses true a s.cfg.bytes kind) (hs : s.cfg.slotOk a = true) : u.slotCheck a kind = none := by
  have h' := accesses_congr hc hd h
  rw [State.slotCheck, hc, checkAs_aligned h'.alignment, h.accessible, hs, Bool.and_self, if_pos rfl]

/-- Loading the slots of a list of registers from slot k on: the state differs in those registers and the trace of device
accesses alone, each register holding the value of its slot. -/
theorem popSlots_ok (s : State) (top : BitVec s.cfg.bits) (rs : List Reg) (k : Nat) (u : State) (hc : u.cfg = s.cfg)
    (hd : u.draws = s.draws) (hb : ∀ a, u.byte a = s.byte a) (hn : rs.Nodup) (hz : (0 : Reg) ∉ rs)
    (h : ∀ j, j < rs.length →
      s.Accesses true (s.slot top (k + j)) s.cfg.bytes .load ∧ s.cfg.slotOk (s.slot top (k + j)) = true) :
    ∃ t, popSlots top k rs u = (t, none) ∧ t.cfg = s.cfg ∧ t.pc = u.pc ∧ t.instret = u.instret ∧
      (∀ j r, rs[j]? = some r → t.readX s.cfg.bits r = BitVec.ofNat s.cfg.bits (s.seenAt (s.slot top (k + j)) s.cfg.bytes)) ∧
      u.Keeps t rs [] [] ∧ t.fflags = u.fflags ∧ t.reservation = u.reservation ∧ t.stale = u.stale ∧
      t.ioTrace = u.ioTrace ++ (List.range rs.length).flatMap fun j =>
        s.ioEvents (s.slot top (k + j)) s.cfg.bytes (.read (s.slot top (k + j)) s.cfg.bytes) := by
  induction rs generalizing k u with
  | nil => exact ⟨u, rfl, hc, rfl, rfl, by simp, (State.KeepsRest.refl u).toKeeps, rfl, rfl, rfl, by simp⟩
  | cons r rest ih =>
    obtain ⟨ha, hs⟩ := h 0 (by simp)
    rw [Nat.add_zero] at ha hs
    rw [List.nodup_cons] at hn
    simp only [List.mem_cons, not_or] at hz
    have hv : u.seenAt (s.slot top k) s.cfg.bytes = s.seenAt (s.slot top k) s.cfg.bytes := by
      unfold State.seenAt; rw [hc, hd]; simp only [hb]
    have he : ∀ e, u.ioEvents (s.slot top k) s.cfg.bytes e = s.ioEvents (s.slot top k) s.cfg.bytes e := by
      intro e; unfold State.ioEvents; rw [hc]
    have e : popSlots top k (r :: rest) u = popSlots top (k + 1) rest ((u.noteRead (s.slot top k) s.cfg.bytes).setX r
        (BitVec.ofNat s.cfg.bits (s.seenAt (s.slot top k) s.cfg.bytes))) := by
      rw [popSlots]
      simp only [hc, slotAddr_eq, slotCheck_of_accesses hc hd ha hs, readMem_eq, hv]
      rw [hc]
    obtain ⟨t, h1, h2, h3, h4, h5, h6, h7, h8, h9, h10⟩ := ih (k + 1)
      ((u.noteRead (s.slot top k) s.cfg.bytes).setX r (BitVec.ofNat s.cfg.bits (s.seenAt (s.slot top k) s.cfg.bytes)))
      (by simpa using hc) (by simpa using hd) (by simpa using hb) hn.2 hz.2
      (fun j hj => by have := h (j + 1) (by simpa using hj); rwa [show k + (j + 1) = k + 1 + j by omega] at this)
    refine ⟨t, e.trans h1, h2, by simpa using h3, by simpa using h4, ?_,
      ((noteRead_keeps u _ _).trans (setX_keeps _ r _).toKeeps).trans h6, by simpa using h7, by simpa using h8,
      by simpa using h9, ?_⟩
    · intro j q hq
      cases j with
      | zero =>
        simp only [List.getElem?_cons_zero, Option.some.injEq] at hq
        subst hq
        rw [h6.x r hn.1 s.cfg.bits, readX_setX_self _ _ _ (bits_le_128 _), if_neg (fun e => hz.1 e.symm), Nat.add_zero]
      | succ j =>
        have := h5 j q (by simpa using hq)
        rwa [show k + 1 + j = k + (j + 1) by omega] at this
    · rw [h10, State.setX_ioTrace, noteRead_ioTrace, he, List.length_cons, List.range_succ_eq_map, List.flatMap_cons,
        List.flatMap_map, List.append_assoc]
      simp only [Nat.add_zero, Nat.succ_eq_add_one, Nat.add_assoc, Nat.add_comm 1]

/-- Storing a list of registers to slots that hold no byte twice, from slot k on: memory differs in those slots alone, each
holding its register, and the trace of device accesses grows. -/
theorem pushSlots_ok (s : State) (top : BitVec s.cfg.bits) (rs : List Reg) (k : Nat) (u : State) (hc : u.cfg = s.cfg)
    (hw : u.draws = s.draws) (hm : u.memOk) (hx : ∀ r n, u.readX n r = s.readX n r)
    (hb : ∀ j, k ≤ j → j < k + rs.length → ∀ a ∈ span s.cfg.bits (s.slot top j) s.cfg.bytes, u.byte a = s.byte a)
    (hd : ∀ i j a, i < k + rs.length → j < k + rs.length → i ≠ j → a ∈ span s.cfg.bits (s.slot top i) s.cfg.bytes →
      a ∉ span s.cfg.bits (s.slot top j) s.cfg.bytes)
    (h : ∀ j, j < rs.length →
      s.Accesses true (s.slot top (k + j)) s.cfg.bytes .store ∧ s.cfg.slotOk (s.slot top (k + j)) = true) :
    ∃ t, pushSlots top k rs u = (t, none) ∧ t.cfg = s.cfg ∧ t.pc = u.pc ∧ t.instret = u.instret ∧ t.memOk ∧
      (∀ j r, rs[j]? = some r → s.HoldsAt t (s.slot top (k + j)) s.cfg.bytes (s.readX s.cfg.bits r).toNat) ∧
      u.Keeps t [] [] ((List.range rs.length).flatMap fun j => span s.cfg.bits (s.slot top (k + j)) s.cfg.bytes) ∧
      u.StaleWithin t ((List.range rs.length).flatMap fun j => span s.cfg.bits (s.slot top (k + j)) s.cfg.bytes) ∧
      t.fflags = u.fflags ∧ t.reservation = u.reservation ∧
      t.ioTrace = u.ioTrace ++ (rs.zipIdx k).flatMap fun p => s.ioEvents (s.slot top p.2) s.cfg.bytes
        (.write (s.slot top p.2) (s.bytesOf s.cfg.bytes (s.readX s.cfg.bits p.1).toNat)) := by
  induction rs generalizing k u with
  | nil => exact ⟨u, rfl, hc, rfl, rfl, hm, by simp, by simpa using (State.KeepsRest.refl u).toKeeps, .refl u _, rfl, rfl,
      by simp⟩
  | cons r rest ih =>
    obtain ⟨ha, hs⟩ := h 0 (by simp)
    rw [Nat.add_zero] at ha hs
    have he : ∀ e, u.ioEvents (s.slot top k) s.cfg.bytes e = s.ioEvents (s.slot top k) s.cfg.bytes e := by
      intro e; unfold State.ioEvents; rw [hc]
    have hv : ∀ v, u.bytesOf s.cfg.bytes v = s.bytesOf s.cfg.bytes v := by intro v; unfold State.bytesOf; rw [hc]
    have e : pushSlots top k (r :: rest) u = pushSlots top (k + 1) rest
        (u.writeMem (s.slot top k) s.cfg.bytes (s.readX s.cfg.bits r).toNat) := by
      rw [pushSlots]
      simp only [hx, hc, slotAddr_eq, slotCheck_of_accesses hc hw ha hs]
      rw [hc]
    obtain ⟨t, h1, h2, h3, h4, h5, h6, h7, hst, h8, h9, h10⟩ := ih (k + 1)
      (u.writeMem (s.slot top k) s.cfg.bytes (s.readX s.cfg.bits r).toNat) (by simpa using hc) (by simpa using hw)
      (writeMem_memOk _ _ _ _ hm) (by simpa using hx)
      (fun j hj hj' a haj => by
        rw [writeMem_byte_ne]
        · exact hb j (by omega) (by simp at *; omega) a haj
        · rw [hc]; exact hd j k a (by simp at *; omega) (by simp) (by omega) haj)
      (fun i j a hi hj => hd i j a (by simp at *; omega) (by simp at *; omega))
      (fun j hj => by have := h (j + 1) (by simpa using hj); rwa [show k + (j + 1) = k + 1 + j by omega] at this)
    have hkeep := (writeMem_keeps u (s.slot top k) s.cfg.bytes (s.readX s.cfg.bits r).toNat).trans h7
    have hmem : ∀ a ∈ span s.cfg.bits (s.slot top k) s.cfg.bytes ++
        (List.range rest.length).flatMap (fun j => span s.cfg.bits (s.slot top (k + 1 + j)) s.cfg.bytes),
        a ∈ (List.range (r :: rest).length).flatMap fun j => span s.cfg.bits (s.slot top (k + j)) s.cfg.bytes := by
      intro a ha'
      simp only [List.mem_append, List.mem_flatMap, List.mem_range, List.length_cons] at ha' ⊢
      rcases ha' with ha' | ⟨j, hj, hja⟩
      · exact ⟨0, by omega, by simpa using ha'⟩
      · exact ⟨j + 1, by omega, by rwa [show k + (j + 1) = k + 1 + j by omega]⟩
    refine ⟨t, e.trans h1, h2, by simpa using h3, by simpa using h4, h5, ?_, ?_, ?_, by simpa using h8,
      by simpa using h9, ?_⟩
    · intro j q hq
      cases j with
      | zero =>
        simp only [List.getElem?_cons_zero, Option.some.injEq] at hq
        subst hq
        intro b hb'
        rw [Nat.add_zero]
        have hin : (s.slot top k + b) % 2 ^ s.cfg.bits ∈ span s.cfg.bits (s.slot top k) s.cfg.bytes :=
          (mem_span _ _ _ _).mpr ⟨b, hb', rfl⟩
        rw [h7.mem]
        · have := writeMem_holds u (s.slot top k) s.cfg.bytes (s.readX s.cfg.bits r).toNat hm
            (width_le_space u _ (bytes_le_16 _)) b hb'
          rwa [hc, hb k (by omega) (by simp) _ hin] at this
        · simp only [List.mem_flatMap, List.mem_range, not_exists, not_and]
          intro j hj hjm
          exact hd k (k + 1 + j) _ (by simp) (by simp; omega) (by omega) hin hjm
      | succ j =>
        have := h6 j q (by simpa using hq)
        rwa [show k + 1 + j = k + (j + 1) by omega] at this
    · exact hkeep.mono (by simp) (by simp) (by rw [hc]; exact hmem)
    · exact ((writeMem_stale u _ _ _).trans hst).mono (by rw [hc]; exact hmem)
    · rw [h10, writeMem_ioTrace, he, hv, List.zipIdx_cons, List.flatMap_cons, List.append_assoc]

end Sys2Proof.Machine
end

