-- ==== Sys2Proof/Laws/Access.lean ====
section
/-! SUPPORT. The loads and stores, integer and floating-point, as one: an access with an exception raises it. -/

namespace Sys2Proof.Machine

/-- A load whose access check gives an exception raises it. -/
theorem loadForm_raises {i : Instr} {s : State} {len n ea : Nat} {e : Exc} (hf : i.loadForm s = some (len, n, ea))
    (h : s.check (i.granule s n) ea n .load = some e) : Raises i s e len := by
  cases i with
  | lb _ rs1 imm => cases hf; exact loadX_raises (ea := (fun s => s.ea rs1 imm)) rfl h
  | lh _ rs1 imm => cases hf; exact loadX_raises (ea := (fun s => s.ea rs1 imm)) rfl h
  | lw _ rs1 imm => cases hf; exact loadX_raises (ea := (fun s => s.ea rs1 imm)) rfl h
  | lbu _ rs1 imm => cases hf; exact loadX_raises (ea := (fun s => s.ea rs1 imm)) rfl h
  | lhu _ rs1 imm => cases hf; exact loadX_raises (ea := (fun s => s.ea rs1 imm)) rfl h
  | ld _ rs1 imm => cases hf; exact loadX_raises (ea := (fun s => s.ea rs1 imm)) rfl h
  | lwu _ rs1 imm => cases hf; exact loadX_raises (ea := (fun s => s.ea rs1 imm)) rfl h
  | flw _ rs1 imm => cases hf; exact loadF_raises (f := .s) (ea := (fun s => s.ea rs1 imm)) rfl _ rfl h
  | fld _ rs1 imm => cases hf; exact loadF_raises (f := .d) (ea := (fun s => s.ea rs1 imm)) rfl _ rfl h
  | flq _ rs1 imm => cases hf; exact loadF_raises (f := .q) (ea := (fun s => s.ea rs1 imm)) rfl _ rfl h
  | flh _ rs1 imm => cases hf; exact loadF_raises (f := .h) (ea := (fun s => s.ea rs1 imm)) rfl _ rfl h
  | cFld _ rs1p uimm => cases hf; exact loadF_raises (f := .d) (ea := (fun s => s.eaScaled (wideReg rs1p) uimm 3)) rfl _ rfl h
  | cLq _ rs1p uimm => cases hf; exact loadX_raises (ea := (fun s => s.eaScaled (wideReg rs1p) uimm 4)) rfl h
  | cLw _ rs1p uimm => cases hf; exact loadX_raises (ea := (fun s => s.eaScaled (wideReg rs1p) uimm 2)) rfl h
  | cFlw _ rs1p uimm => cases hf; exact loadF_raises (f := .s) (ea := (fun s => s.eaScaled (wideReg rs1p) uimm 2)) rfl _ rfl h
  | cLd _ rs1p uimm => cases hf; exact loadX_raises (ea := (fun s => s.eaScaled (wideReg rs1p) uimm 3)) rfl h
  | cFldsp _ uimm => cases hf; exact loadF_raises (f := .d) (ea := (fun s => s.eaScaled 2 uimm 3)) rfl _ rfl h
  | cLqsp _ uimm => cases hf; exact loadX_raises (ea := (fun s => s.eaScaled 2 uimm 4)) rfl h
  | cLwsp _ uimm => cases hf; exact loadX_raises (ea := (fun s => s.eaScaled 2 uimm 2)) rfl h
  | cFlwsp _ uimm => cases hf; exact loadF_raises (f := .s) (ea := (fun s => s.eaScaled 2 uimm 2)) rfl _ rfl h
  | cLdsp _ uimm => cases hf; exact loadX_raises (ea := (fun s => s.eaScaled 2 uimm 3)) rfl h
  | cLbu _ rs1p uimm => cases hf; exact loadX_raises (ea := (fun s => s.eaScaled (wideReg rs1p) uimm 0)) rfl h
  | cLhu _ rs1p uimm => cases hf; exact loadX_raises (ea := (fun s => s.eaScaled (wideReg rs1p) uimm 1)) rfl h
  | cLh _ rs1p uimm => cases hf; exact loadX_raises (ea := (fun s => s.eaScaled (wideReg rs1p) uimm 1)) rfl h
  | _ => cases hf

/-- A store whose access check gives an exception raises it. -/
theorem storeForm_raises {i : Instr} {s : State} {len n ea : Nat} {e : Exc} (hf : i.storeForm s = some (len, n, ea))
    (h : s.check (i.granule s n) ea n .store = some e) : Raises i s e len := by
  cases i with
  | sb rs1 _ imm => cases hf; exact storeX_raises (ea := (fun s => s.ea rs1 imm)) rfl h
  | sh rs1 _ imm => cases hf; exact storeX_raises (ea := (fun s => s.ea rs1 imm)) rfl h
  | sw rs1 _ imm => cases hf; exact storeX_raises (ea := (fun s => s.ea rs1 imm)) rfl h
  | sd rs1 _ imm => cases hf; exact storeX_raises (ea := (fun s => s.ea rs1 imm)) rfl h
  | fsw rs1 _ imm => cases hf; exact storeF_raises (f := .s) (ea := (fun s => s.ea rs1 imm)) rfl _ rfl h
  | fsd rs1 _ imm => cases hf; exact storeF_raises (f := .d) (ea := (fun s => s.ea rs1 imm)) rfl _ rfl h
  | fsq rs1 _ imm => cases hf; exact storeF_raises (f := .q) (ea := (fun s => s.ea rs1 imm)) rfl _ rfl h
  | fsh rs1 _ imm => cases hf; exact storeF_raises (f := .h) (ea := (fun s => s.ea rs1 imm)) rfl _ rfl h
  | cFsd rs1p _ uimm => cases hf; exact storeF_raises (f := .d) (ea := (fun s => s.eaScaled (wideReg rs1p) uimm 3)) rfl _ rfl h
  | cSq rs1p _ uimm => cases hf; exact storeX_raises (ea := (fun s => s.eaScaled (wideReg rs1p) uimm 4)) rfl h
  | cSw rs1p _ uimm => cases hf; exact storeX_raises (ea := (fun s => s.eaScaled (wideReg rs1p) uimm 2)) rfl h
  | cFsw rs1p _ uimm => cases hf; exact storeF_raises (f := .s) (ea := (fun s => s.eaScaled (wideReg rs1p) uimm 2)) rfl _ rfl h
  | cSd rs1p _ uimm => cases hf; exact storeX_raises (ea := (fun s => s.eaScaled (wideReg rs1p) uimm 3)) rfl h
  | cFsdsp _ uimm => cases hf; exact storeF_raises (f := .d) (ea := (fun s => s.eaScaled 2 uimm 3)) rfl _ rfl h
  | cSqsp _ uimm => cases hf; exact storeX_raises (ea := (fun s => s.eaScaled 2 uimm 4)) rfl h
  | cSwsp _ uimm => cases hf; exact storeX_raises (ea := (fun s => s.eaScaled 2 uimm 2)) rfl h
  | cFswsp _ uimm => cases hf; exact storeF_raises (f := .s) (ea := (fun s => s.eaScaled 2 uimm 2)) rfl _ rfl h
  | cSdsp _ uimm => cases hf; exact storeX_raises (ea := (fun s => s.eaScaled 2 uimm 3)) rfl h
  | cSb rs1p _ uimm => cases hf; exact storeX_raises (ea := (fun s => s.eaScaled (wideReg rs1p) uimm 0)) rfl h
  | cSh rs1p _ uimm => cases hf; exact storeX_raises (ea := (fun s => s.eaScaled (wideReg rs1p) uimm 1)) rfl h
  | _ => cases hf

end Sys2Proof.Machine
end

