-- ==== Sys2Proof/Laws/Cases.lean ====
section
/-! SUPPORT. All that executing an instruction can do, said once: a chain of updates of registers and memory, then retirement,
an exception, or the beginning of a stall. Rules about every instruction follow from `exec_effect` by an argument over
the updates, with no case per instruction. -/

namespace Sys2Proof.Machine

/-- One update that an instruction can make before it ends. -/
inductive Update (i : Instr) : State → State → Prop
  | setX (s : State) (r : Reg) {n : Nat} (v : BitVec n) (hn : n ≤ s.cfg.bits) : Update i s (s.setX r v)
  | setF (s : State) (r : Reg) {w : Nat} (v : BitVec w) : Update i s (s.setF r (box s.cfg.flen v))
  | accrue (s : State) (flags : FpFlags) : Update i s (s.accrue flags)
  | noteRead (s : State) (ea n : Nat) : Update i s (s.noteRead ea n)
  | write (s : State) (ea n v : Nat) (h : i.mayStore = true) : Update i s (s.writeMem ea n v)
  | reserve (s : State) (a n : Nat) (h : i.isLrSc = true) : Update i s (s.reserve a n)
  | unreserve (s : State) (h : i.isLrSc = true) : Update i s s.unreserve
  | csrWrite (s : State) (a : BitVec 12) (v : BitVec s.cfg.bits) (h : i.isCsr = true) : Update i s (s.csrWrite a v)
  | syncFetch (s : State) : Update i s s.syncFetch

/-- Updates, one after another. -/
abbrev Updates (i : Instr) : State → State → Prop := Relation.ReflTransGen (Update i)

/-- Where a transfer of control of an instruction of `len` bytes can go: to an even address, and, where IALIGN is 32 and
the instruction is not compressed, to a multiple of 4. -/
def State.TargetOk (s : State) (len : Nat) (v : BitVec s.cfg.bits) : Prop :=
  (s.pc.toNat % 2 = 0 → v.toNat % 2 = 0) ∧ (s.cfg.ialign16 = true ∨ v.toNat % 4 = 0 ∨ len = 2)

/-- How an instruction ends. -/
inductive Ending (i : Instr) (s u : State) : State → Prop
  | retire : Ending i s u (u.retire i.len)
  | transfer (v : BitVec s.cfg.bits) (h : s.TargetOk i.len v) : Ending i s u (u.retireTo v)
  | raise (e : Exc) : Ending i s u (u.raise e i.len)
  | stall (h : u = s) : Ending i s u { s.tick with stalled := true }

/-- What an instruction does: it answers a next state, reached by updates and an ending. -/
def Effect (i : Instr) (s : State) (r : Result) : Prop := ∃ u t, r = .next t ∧ Updates i s u ∧ Ending i s u t

variable {i : Instr} {s : State} {len : Nat}

theorem effect_retire (hl : i.len = len) {u : State} (h : Updates i s u) : Effect i s (.next (u.retire len)) :=
  ⟨u, _, rfl, h, hl ▸ .retire⟩

theorem effect_raise (hl : i.len = len) {u : State} (h : Updates i s u) (e : Exc) : Effect i s (.next (u.raise e len)) :=
  ⟨u, _, rfl, h, hl ▸ .raise e⟩

theorem effect_raiseIllegal {u : State} (h : Updates i s u) : Effect i s (.next (u.raiseIllegal i)) :=
  ⟨u, _, rfl, h, .raise _⟩

theorem effect_transfer (hl : i.len = len) {u : State} (h : Updates i s u) (v : BitVec s.cfg.bits) (hv : s.TargetOk len v) :
    Effect i s (.next (u.retireTo v)) := ⟨u, _, rfl, h, .transfer v (hl ▸ hv)⟩

theorem updates_setX (r : Reg) {n : Nat} (v : BitVec n) (hn : n ≤ s.cfg.bits) : Updates i s (s.setX r v) :=
  .single (.setX s r v hn)

theorem effect_setX (hl : i.len = len) (r : Reg) (v : BitVec s.cfg.bits) : Effect i s (.next ((s.setX r v).retire len)) :=
  effect_retire hl (updates_setX r v le_rfl)

theorem effect_setF (hl : i.len = len) (r : Reg) {w : Nat} (v : BitVec w) :
    Effect i s (.next ((s.setF r (box s.cfg.flen v)).retire len)) := effect_retire hl (.single (.setF s r v))

/-! ## Targets -/

theorem even_of_low {n : Nat} (v : BitVec n) (h : v.getLsbD 0 = false) : v.toNat % 2 = 0 := by
  have : v.toNat.testBit 0 = false := h
  rw [Nat.testBit_zero] at this
  have := of_decide_eq_false this
  omega

theorem clear_even {n : Nat} (hn : 0 < n) (v : BitVec n) : (v &&& ~~~1).toNat % 2 = 0 :=
  even_of_low _ (by simp [hn])

theorem two_pow_even {n : Nat} (hn : 0 < n) : 2 ∣ 2 ^ n := dvd_pow_self 2 (Nat.ne_of_gt hn)

/-- The target of a pc-relative transfer is even where pc is. -/
theorem pcRel_even (s : State) {k : Nat} (off : BitVec k) (h : s.pc.toNat % 2 = 0) : (s.pcRel off).toNat % 2 = 0 := by
  have hb := bits_pos s.cfg
  have h2 : (2 : Nat) ∣ 2 ^ s.cfg.bits := two_pow_even hb
  have h3 : ((off ++ 0#1).signExtend s.cfg.bits).toNat % 2 = 0 := by
    refine even_of_low _ ?_
    rw [BitVec.getLsbD_signExtend]
    have : (off ++ 0#1).getLsbD 0 = false := by rw [BitVec.getLsbD_append]; simp
    simp [BitVec.getLsbD_eq_getElem] at *
    exact fun _ => this
  unfold State.pcRel State.readPc
  rw [BitVec.toNat_add, BitVec.toNat_setWidth, Nat.mod_mod_of_dvd _ h2, Nat.add_mod, Nat.mod_mod_of_dvd _ h2, h, h3]

theorem targetOk_of_aligned (v : BitVec s.cfg.bits) (he : s.pc.toNat % 2 = 0 → v.toNat % 2 = 0)
    (h : s.misalignedTarget v = false) : s.TargetOk len v := by
  refine ⟨he, ?_⟩
  unfold State.misalignedTarget at h
  simp only [Bool.and_eq_false_iff, Bool.not_eq_false', bne_eq_false_iff_eq] at h
  tauto

/-! ## The forms -/

theorem effect_jump (hl : i.len = len) (rd : Reg) (target : (s : State) → BitVec s.cfg.bits)
    (he : s.pc.toNat % 2 = 0 → (target s).toNat % 2 = 0) : Effect i s (jump len rd target s) := by
  unfold jump
  split
  · exact effect_raise hl .refl _
  · rename_i h
    exact effect_transfer hl (updates_setX rd _ le_rfl) _ (targetOk_of_aligned _ he (by simpa using h))

theorem effect_branch (hl : i.len = len) (rs1 rs2 : Reg) {k : Nat} (off : BitVec k)
    (cond : (n : Nat) → BitVec n → BitVec n → Bool) : Effect i s (branch len rs1 rs2 off cond s) := by
  unfold branch
  split
  · split
    · exact effect_raise hl .refl _
    · rename_i h
      exact effect_transfer hl .refl _ (targetOk_of_aligned _ (pcRel_even s off) (by simpa using h))
  · exact effect_retire hl .refl

theorem load_ok {mag : Bool} {ea n v : Nat} {u : State} (h : s.load mag ea n = .ok (v, u)) : u = s.noteRead ea n := by
  unfold State.load at h
  split at h
  · cases h
  · simp only [State.readMem, Except.ok.injEq, Prod.mk.injEq] at h; exact h.2.symm

theorem store_ok {mag : Bool} {ea n v : Nat} {u : State} (h : s.store mag ea n v = .ok u) : u = s.writeMem ea n v := by
  unfold State.store at h
  split at h
  · cases h
  · simpa using h.symm

theorem effect_loadX (hl : i.len = len) (n : Nat) (signed : Bool) (rd : Reg) (ea : State → Nat) :
    Effect i s (loadX len n signed rd ea s) := by
  unfold loadX
  split
  · exact effect_raise hl .refl _
  · rename_i v u h
    obtain rfl := load_ok h
    exact effect_retire hl (.tail (.single (.noteRead s _ _)) (.setX _ _ _ (by simp)))

theorem effect_storeX (hl : i.len = len) (hs : i.mayStore = true) (n : Nat) (rs2 : Reg) (ea : State → Nat) :
    Effect i s (storeX len n rs2 ea s) := by
  unfold storeX
  split
  · exact effect_raise hl .refl _
  · rename_i u h
    obtain rfl := store_ok h
    exact effect_retire hl (.single (.write s _ _ _ hs))

theorem effect_loadF (hl : i.len = len) (f : Fmt) (rd : Reg) (ea : State → Nat) :
    Effect i s (loadF len f rd ea s) := by
  unfold loadF
  split
  · exact effect_raise hl .refl _
  · rename_i v u h
    obtain rfl := load_ok h
    refine effect_retire hl (.tail (.single (.noteRead s (ea s) (f.width / 8))) ?_)
    have := Update.setF (i := i) (s.noteRead (ea s) (f.width / 8)) rd (BitVec.ofNat f.width v)
    simpa using this

theorem effect_storeF (hl : i.len = len) (hs : i.mayStore = true) (f : Fmt) (rs2 : Reg) (ea : State → Nat) :
    Effect i s (storeF len f rs2 ea s) := by
  unfold storeF
  split
  · exact effect_raise hl .refl _
  · rename_i u h
    obtain rfl := store_ok h
    exact effect_retire hl (.single (.write s _ _ _ hs))

theorem updates_setFp (rd : Reg) {w : Nat} (v : BitVec w) : Updates i s (s.setFp rd v) := by
  unfold State.setFp State.setPair
  split
  · split
    · exact updates_setX rd _ le_rfl
    · split
      · exact .refl
      · exact .tail (updates_setX rd _ le_rfl) (.setX _ _ _ (by simp))
  · exact .single (.setF s rd v)

theorem updates_putFp (f : Fmt) (rd : Reg) (r : BitVec f.width × FpFlags) : Updates i s (s.putFp f rd r) :=
  .tail (updates_setFp rd r.1) (.accrue _ r.2)

theorem updates_putX (rd : Reg) (v : BitVec s.cfg.bits) (flags : FpFlags) : Updates i s (s.putX rd v flags) :=
  .tail (updates_setX rd v le_rfl) (.accrue _ flags)

theorem effect_putFp (hl : i.len = 4) (f : Fmt) (rd : Reg) (r : BitVec f.width × FpFlags) :
    Effect i s (.next ((s.putFp f rd r).retire 4)) := effect_retire hl (updates_putFp f rd r)

theorem effect_setFp (hl : i.len = 4) (rd : Reg) {w : Nat} (v : BitVec w) :
    Effect i s (.next ((s.setFp rd v).retire 4)) := effect_retire hl (updates_setFp rd v)

theorem effect_putX (hl : i.len = 4) (rd : Reg) (v : BitVec s.cfg.bits) (flags : FpFlags) :
    Effect i s (.next ((s.putX rd v flags).retire 4)) := effect_retire hl (updates_putX rd v flags)

theorem effect_withMode (hl : i.len = 4) (rm : BitVec 3) (body : RoundingMode → State → State)
    (h : ∀ mode, Updates i s (body mode s)) : Effect i s (withMode i rm body s) := by
  unfold withMode
  split
  · exact effect_raiseIllegal .refl
  · exact effect_retire hl (h _)

theorem effect_fp1 (hl : i.len = 4) (f : Fmt) (rd rs1 : Reg) (rm : BitVec 3)
    (op : RoundingMode → Fp → BitVec f.width × FpFlags) : Effect i s (fp1 i f rd rs1 rm op s) :=
  effect_withMode hl rm _ fun _ => updates_putFp f rd _

theorem effect_fp2 (hl : i.len = 4) (f : Fmt) (rd rs1 rs2 : Reg) (rm : BitVec 3)
    (op : RoundingMode → Fp → Fp → BitVec f.width × FpFlags) : Effect i s (fp2 i f rd rs1 rs2 rm op s) :=
  effect_withMode hl rm _ fun _ => updates_putFp f rd _

theorem effect_fp3 (hl : i.len = 4) (f : Fmt) (rd rs1 rs2 rs3 : Reg) (rm : BitVec 3) (np na : Bool) :
    Effect i s (fp3 i f rd rs1 rs2 rs3 rm np na s) := effect_withMode hl rm _ fun _ => updates_putFp f rd _

theorem effect_fpToInt (hl : i.len = 4) (f : Fmt) (rd rs1 : Reg) (rm : BitVec 3) (w : Nat) (lo hi : Int) :
    Effect i s (fpToInt i f rd rs1 rm w lo hi s) := effect_withMode hl rm _ fun _ => updates_putX rd _ _

theorem effect_fpOfInt (hl : i.len = 4) (f : Fmt) (rd rs1 : Reg) (rm : BitVec 3) (w : Nat) (signed : Bool) :
    Effect i s (fpOfInt i f rd rs1 rm w signed s) := effect_withMode hl rm _ fun _ => updates_putFp f rd _

theorem effect_fpConvert (hl : i.len = 4) (dst src : Fmt) (rd rs1 : Reg) (rm : BitVec 3) :
    Effect i s (fpConvert i dst src rd rs1 rm s) := effect_withMode hl rm _ fun _ => updates_putFp dst rd _

theorem effect_fpRound (hl : i.len = 4) (f : Fmt) (exact : Bool) (rd rs1 : Reg) (rm : BitVec 3) :
    Effect i s (fpRound i f exact rd rs1 rm s) := effect_withMode hl rm _ fun _ => updates_putFp f rd _

theorem effect_csr (hl : i.len = 4) (hc : i.isCsr = true) (a : BitVec 12) (reads writes : Bool) (rd : Reg)
    (op : (n : Nat) → BitVec n → BitVec n → BitVec n) (src : (s : State) → BitVec s.cfg.bits) :
    Effect i s (csrAccess i a reads writes rd op src s) := by
  unfold csrAccess
  split
  · exact effect_raiseIllegal .refl
  · split
    · exact effect_raiseIllegal .refl
    · rename_i old _ _
      have h1 : Updates i s (if writes then s.csrWrite a (op s.cfg.bits old (src s)) else s) := by
        split
        · exact .single (.csrWrite s a _ hc)
        · exact .refl
      refine effect_retire hl ?_
      split
      · refine .tail h1 (.setX _ rd old ?_)
        split <;> simp
      · exact h1

theorem effect_loadReserved (hl : i.len = 4) (hc : i.isLrSc = true) (n : Nat) (rd rs1 : Reg) :
    Effect i s (loadReserved n rd rs1 s) := by
  unfold loadReserved
  split
  · exact effect_raise hl .refl _
  · split
    · refine effect_retire hl (.tail (.tail (.single (.noteRead s _ n)) (.reserve _ _ n hc)) (.setX _ rd _ ?_))
      simp
    · exact effect_raise hl .refl _

theorem effect_storeConditional (hl : i.len = 4) (hc : i.isLrSc = true) (hs : i.mayStore = true) (n : Nat)
    (rd rs1 rs2 : Reg) : Effect i s (storeConditional n rd rs1 rs2 s) := by
  unfold storeConditional
  split
  · exact effect_raise hl .refl _
  · split
    · split
      · exact effect_retire hl (.tail (.tail (.single (.write s _ _ _ hs)) (.unreserve _ hc)) (.setX _ rd _ (by simp)))
      · exact effect_retire hl (.tail (.single (.unreserve s hc)) (.setX _ rd _ (by simp)))
    · exact effect_raise hl .refl _

theorem effect_amo (hl : i.len = 4) (hs : i.mayStore = true) (n : Nat) (cls : AmoClass) (rd rs1 rs2 : Reg)
    (op : BitVec (8 * n) → BitVec (8 * n) → BitVec (8 * n)) : Effect i s (amo n cls rd rs1 rs2 op s) := by
  unfold amo
  split
  · exact effect_raise hl .refl _
  · split
    · refine effect_retire hl (.tail (.tail (.single (.noteRead s _ n)) (.write _ _ _ _ hs)) (.setX _ rd _ ?_))
      simp
    · exact effect_raise hl .refl _

theorem effect_wait (hl : i.len = 4) : Effect i s (waitReservation s) := by
  unfold waitReservation
  split
  · exact ⟨s, _, rfl, .refl, .stall rfl⟩
  · exact effect_retire hl .refl

theorem effect_cboManage (hl : i.len = 4) (enabled : Bool) (rs1 : Reg) : Effect i s (cboManage i enabled rs1 s) := by
  unfold cboManage
  split
  · split
    · exact effect_retire hl .refl
    · exact effect_raise hl .refl _
  · exact effect_raiseIllegal .refl

theorem effect_cboZero (hl : i.len = 4) (hs : i.mayStore = true) (rs1 : Reg) : Effect i s (cboZeroBlock i rs1 s) := by
  unfold cboZeroBlock
  split
  · split
    · exact effect_retire hl (.single (.write s _ _ _ hs))
    · exact effect_raise hl .refl _
  · exact effect_raiseIllegal .refl

theorem pushSlots_updates (hs : i.mayStore = true) {bits : Nat} (top : BitVec bits) (rs : List Reg) (k : Nat) (u : State)
    (h : Updates i s u) : Updates i s (pushSlots top k rs u).1 := by
  induction rs generalizing k u with
  | nil => exact h
  | cons r rest ih =>
    unfold pushSlots
    split
    · exact h
    · exact ih _ _ (.tail h (.write u _ _ _ hs))

theorem popSlots_updates {bits : Nat} (top : BitVec bits) (rs : List Reg) (k : Nat) (u : State)
    (h : Updates i s u) : Updates i s (popSlots top k rs u).1 := by
  induction rs generalizing k u with
  | nil => exact h
  | cons r rest ih =>
    unfold popSlots
    split
    · exact h
    · exact ih _ _ (.tail (.tail h (.noteRead u _ _)) (.setX _ _ _ (by simp)))

/-- No update changes the configuration. -/
theorem update_cfg {s t : State} (h : Update i s t) : t.cfg = s.cfg := by cases h <;> simp

theorem updates_cfg {s t : State} (h : Updates i s t) : t.cfg = s.cfg := by
  induction h with
  | refl => rfl
  | tail _ h ih => exact (update_cfg h).trans ih

theorem effect_push (hl : i.len = 2) (hs : i.mayStore = true) (rlist : BitVec 4) (spimm : BitVec 2) :
    Effect i s (push rlist spimm s) := by
  unfold push
  have := pushSlots_updates (i := i) (s := s) hs s.sp (regList rlist) 0 s .refl
  split
  · rename_i u e h; rw [h] at this; exact effect_raise hl this e
  · rename_i u h; rw [h] at this
    exact effect_retire hl (.tail this (.setX _ _ _ (by rw [updates_cfg this])))

theorem effect_pop (hl : i.len = 2) (rlist : BitVec 4) (spimm : BitVec 2) : Effect i s (pop rlist spimm s) := by
  unfold pop
  have := popSlots_updates (i := i) (s := s) (s.popTop rlist spimm) (regList rlist) 0 s .refl
  split
  · rename_i u e h; rw [h] at this; exact effect_raise hl this e
  · rename_i u h; rw [h] at this
    exact effect_retire hl (.tail this (.setX _ _ _ (by rw [updates_cfg this])))

theorem effect_popRet (hl : i.len = 2) (rlist : BitVec 4) (spimm : BitVec 2) (zero : Bool) :
    Effect i s (popRet rlist spimm zero s) := by
  unfold popRet
  have := popSlots_updates (i := i) (s := s) (s.popTop rlist spimm) (regList rlist) 0 s .refl
  split
  · rename_i u e h; rw [h] at this; exact effect_raise hl this e
  · rename_i u h; rw [h] at this
    have h2 : Updates i s (if zero then u.setX 10 (0 : BitVec s.cfg.bits) else u) := by
      split
      · exact .tail this (.setX _ _ _ (by rw [updates_cfg this]))
      · exact this
    exact effect_transfer hl (.tail h2 (.setX _ _ _ (by rw [updates_cfg h2]))) _
      ⟨fun _ => clear_even (bits_pos _) _, .inr (.inr rfl)⟩

theorem effect_moveTwo (hl : i.len = 2) (d1 d2 s1 s2 : Reg) : Effect i s (moveTwo d1 d2 s1 s2 s) :=
  effect_retire hl (.tail (updates_setX d1 _ le_rfl) (.setX _ _ _ (by simp)))

theorem effect_tableJump (hl : i.len = 2) (index : BitVec 8) (link : Bool) : Effect i s (tableJump i index link s) := by
  unfold tableJump
  split
  · split
    · refine effect_transfer hl ?_ _ ⟨fun _ => clear_even (bits_pos _) _, .inr (.inr rfl)⟩
      split
      · exact updates_setX _ _ le_rfl
      · exact .refl
    · exact effect_raise hl .refl _
  · exact effect_raiseIllegal .refl

end Sys2Proof.Machine
end

