-- ==== Sys2Proof/Laws/Effects.lean ====
section
/-! SUPPORT. Every instruction has an effect in the sense of Laws/Cases.lean: one lemma per constructor, by the lemma of its
form, and `exec_effect` for all. -/

namespace Sys2Proof.Machine

variable {s : State}

theorem execAddi_effect (rd : BitVec 5) (rs1 : BitVec 5) (imm : BitVec 12) :
    Effect (.addi rd rs1 imm) s (execAddi rd rs1 imm s) := effect_setX rfl _ _
theorem execSlti_effect (rd : BitVec 5) (rs1 : BitVec 5) (imm : BitVec 12) :
    Effect (.slti rd rs1 imm) s (execSlti rd rs1 imm s) := effect_setX rfl _ _
theorem execSltiu_effect (rd : BitVec 5) (rs1 : BitVec 5) (imm : BitVec 12) :
    Effect (.sltiu rd rs1 imm) s (execSltiu rd rs1 imm s) := effect_setX rfl _ _
theorem execXori_effect (rd : BitVec 5) (rs1 : BitVec 5) (imm : BitVec 12) :
    Effect (.xori rd rs1 imm) s (execXori rd rs1 imm s) := effect_setX rfl _ _
theorem execOri_effect (rd : BitVec 5) (rs1 : BitVec 5) (imm : BitVec 12) :
    Effect (.ori rd rs1 imm) s (execOri rd rs1 imm s) := effect_setX rfl _ _
theorem execAndi_effect (rd : BitVec 5) (rs1 : BitVec 5) (imm : BitVec 12) :
    Effect (.andi rd rs1 imm) s (execAndi rd rs1 imm s) := effect_setX rfl _ _
theorem execSlliRv32_effect (rd : BitVec 5) (rs1 : BitVec 5) (shamt : BitVec 5) :
    Effect (.slliRv32 rd rs1 shamt) s (execSlliRv32 rd rs1 shamt s) := effect_setX rfl _ _
theorem execSlliRv64_effect (rd : BitVec 5) (rs1 : BitVec 5) (shamt : BitVec 6) :
    Effect (.slliRv64 rd rs1 shamt) s (execSlliRv64 rd rs1 shamt s) := effect_setX rfl _ _
theorem execSlliRv128_effect (rd : BitVec 5) (rs1 : BitVec 5) (shamt : BitVec 7) :
    Effect (.slliRv128 rd rs1 shamt) s (execSlliRv128 rd rs1 shamt s) := effect_setX rfl _ _
theorem execSrliRv32_effect (rd : BitVec 5) (rs1 : BitVec 5) (shamt : BitVec 5) :
    Effect (.srliRv32 rd rs1 shamt) s (execSrliRv32 rd rs1 shamt s) := effect_setX rfl _ _
theorem execSrliRv64_effect (rd : BitVec 5) (rs1 : BitVec 5) (shamt : BitVec 6) :
    Effect (.srliRv64 rd rs1 shamt) s (execSrliRv64 rd rs1 shamt s) := effect_setX rfl _ _
theorem execSrliRv128_effect (rd : BitVec 5) (rs1 : BitVec 5) (shamt : BitVec 7) :
    Effect (.srliRv128 rd rs1 shamt) s (execSrliRv128 rd rs1 shamt s) := effect_setX rfl _ _
theorem execSraiRv32_effect (rd : BitVec 5) (rs1 : BitVec 5) (shamt : BitVec 5) :
    Effect (.sraiRv32 rd rs1 shamt) s (execSraiRv32 rd rs1 shamt s) := effect_setX rfl _ _
theorem execSraiRv64_effect (rd : BitVec 5) (rs1 : BitVec 5) (shamt : BitVec 6) :
    Effect (.sraiRv64 rd rs1 shamt) s (execSraiRv64 rd rs1 shamt s) := effect_setX rfl _ _
theorem execSraiRv128_effect (rd : BitVec 5) (rs1 : BitVec 5) (shamt : BitVec 7) :
    Effect (.sraiRv128 rd rs1 shamt) s (execSraiRv128 rd rs1 shamt s) := effect_setX rfl _ _
theorem execLui_effect (rd : BitVec 5) (imm : BitVec 20) : Effect (.lui rd imm) s (execLui rd imm s) := effect_setX rfl _ _
theorem execAuipc_effect (rd : BitVec 5) (imm : BitVec 20) : Effect (.auipc rd imm) s (execAuipc rd imm s) := effect_setX rfl _ _
theorem execAdd_effect (rd : BitVec 5) (rs1 : BitVec 5) (rs2 : BitVec 5) :
    Effect (.add rd rs1 rs2) s (execAdd rd rs1 rs2 s) := effect_setX rfl _ _
theorem execSub_effect (rd : BitVec 5) (rs1 : BitVec 5) (rs2 : BitVec 5) :
    Effect (.sub rd rs1 rs2) s (execSub rd rs1 rs2 s) := effect_setX rfl _ _
theorem execSll_effect (rd : BitVec 5) (rs1 : BitVec 5) (rs2 : BitVec 5) :
    Effect (.sll rd rs1 rs2) s (execSll rd rs1 rs2 s) := effect_setX rfl _ _
theorem execSlt_effect (rd : BitVec 5) (rs1 : BitVec 5) (rs2 : BitVec 5) :
    Effect (.slt rd rs1 rs2) s (execSlt rd rs1 rs2 s) := effect_setX rfl _ _
theorem execSltu_effect (rd : BitVec 5) (rs1 : BitVec 5) (rs2 : BitVec 5) :
    Effect (.sltu rd rs1 rs2) s (execSltu rd rs1 rs2 s) := effect_setX rfl _ _
theorem execXor_effect (rd : BitVec 5) (rs1 : BitVec 5) (rs2 : BitVec 5) :
    Effect (.xor rd rs1 rs2) s (execXor rd rs1 rs2 s) := effect_setX rfl _ _
theorem execSrl_effect (rd : BitVec 5) (rs1 : BitVec 5) (rs2 : BitVec 5) :
    Effect (.srl rd rs1 rs2) s (execSrl rd rs1 rs2 s) := effect_setX rfl _ _
theorem execSra_effect (rd : BitVec 5) (rs1 : BitVec 5) (rs2 : BitVec 5) :
    Effect (.sra rd rs1 rs2) s (execSra rd rs1 rs2 s) := effect_setX rfl _ _
theorem execOr_effect (rd : BitVec 5) (rs1 : BitVec 5) (rs2 : BitVec 5) :
    Effect (.or rd rs1 rs2) s (execOr rd rs1 rs2 s) := effect_setX rfl _ _
theorem execAnd_effect (rd : BitVec 5) (rs1 : BitVec 5) (rs2 : BitVec 5) :
    Effect (.and rd rs1 rs2) s (execAnd rd rs1 rs2 s) := effect_setX rfl _ _
theorem execJal_effect (rd : BitVec 5) (off : BitVec 20) : Effect (.jal rd off) s (execJal rd off s) := effect_jump rfl rd (fun s => s.pcRel off) (pcRel_even s off)
theorem execJalr_effect (rd : BitVec 5) (rs1 : BitVec 5) (imm : BitVec 12) :
    Effect (.jalr rd rs1 imm) s (execJalr rd rs1 imm s) := effect_jump rfl rd (fun s => s.jalrTarget rs1 imm) fun _ => clear_even (bits_pos _) _
theorem execBeq_effect (rs1 : BitVec 5) (rs2 : BitVec 5) (off : BitVec 12) :
    Effect (.beq rs1 rs2 off) s (execBeq rs1 rs2 off s) := effect_branch rfl _ _ _ _
theorem execBne_effect (rs1 : BitVec 5) (rs2 : BitVec 5) (off : BitVec 12) :
    Effect (.bne rs1 rs2 off) s (execBne rs1 rs2 off s) := effect_branch rfl _ _ _ _
theorem execBlt_effect (rs1 : BitVec 5) (rs2 : BitVec 5) (off : BitVec 12) :
    Effect (.blt rs1 rs2 off) s (execBlt rs1 rs2 off s) := effect_branch rfl _ _ _ _
theorem execBge_effect (rs1 : BitVec 5) (rs2 : BitVec 5) (off : BitVec 12) :
    Effect (.bge rs1 rs2 off) s (execBge rs1 rs2 off s) := effect_branch rfl _ _ _ _
theorem execBltu_effect (rs1 : BitVec 5) (rs2 : BitVec 5) (off : BitVec 12) :
    Effect (.bltu rs1 rs2 off) s (execBltu rs1 rs2 off s) := effect_branch rfl _ _ _ _
theorem execBgeu_effect (rs1 : BitVec 5) (rs2 : BitVec 5) (off : BitVec 12) :
    Effect (.bgeu rs1 rs2 off) s (execBgeu rs1 rs2 off s) := effect_branch rfl _ _ _ _
theorem execLb_effect (rd : BitVec 5) (rs1 : BitVec 5) (imm : BitVec 12) :
    Effect (.lb rd rs1 imm) s (execLb rd rs1 imm s) := effect_loadX rfl _ _ _ _
theorem execLh_effect (rd : BitVec 5) (rs1 : BitVec 5) (imm : BitVec 12) :
    Effect (.lh rd rs1 imm) s (execLh rd rs1 imm s) := effect_loadX rfl _ _ _ _
theorem execLw_effect (rd : BitVec 5) (rs1 : BitVec 5) (imm : BitVec 12) :
    Effect (.lw rd rs1 imm) s (execLw rd rs1 imm s) := effect_loadX rfl _ _ _ _
theorem execLbu_effect (rd : BitVec 5) (rs1 : BitVec 5) (imm : BitVec 12) :
    Effect (.lbu rd rs1 imm) s (execLbu rd rs1 imm s) := effect_loadX rfl _ _ _ _
theorem execLhu_effect (rd : BitVec 5) (rs1 : BitVec 5) (imm : BitVec 12) :
    Effect (.lhu rd rs1 imm) s (execLhu rd rs1 imm s) := effect_loadX rfl _ _ _ _
theorem execSb_effect (rs1 : BitVec 5) (rs2 : BitVec 5) (imm : BitVec 12) :
    Effect (.sb rs1 rs2 imm) s (execSb rs1 rs2 imm s) := effect_storeX rfl rfl _ _ _
theorem execSh_effect (rs1 : BitVec 5) (rs2 : BitVec 5) (imm : BitVec 12) :
    Effect (.sh rs1 rs2 imm) s (execSh rs1 rs2 imm s) := effect_storeX rfl rfl _ _ _
theorem execSw_effect (rs1 : BitVec 5) (rs2 : BitVec 5) (imm : BitVec 12) :
    Effect (.sw rs1 rs2 imm) s (execSw rs1 rs2 imm s) := effect_storeX rfl rfl _ _ _
theorem execFence_effect (fm : BitVec 4) (pred : BitVec 4) (succ : BitVec 4) (rs1 : BitVec 5) (rd : BitVec 5) :
    Effect (.fence fm pred succ rs1 rd) s (execFence fm pred succ rs1 rd s) := effect_retire rfl .refl
theorem execFenceTso_effect (rs1 : BitVec 5) (rd : BitVec 5) : Effect (.fenceTso rs1 rd) s (execFenceTso rs1 rd s) := effect_retire rfl .refl
theorem execPause_effect : Effect (.pause) s (execPause s) := effect_retire rfl .refl
theorem execEcall_effect : Effect (.ecall) s (execEcall s) := effect_raise rfl .refl _
theorem execEbreak_effect : Effect (.ebreak) s (execEbreak s) := effect_raise rfl .refl _
theorem execFenceI_effect (imm : BitVec 12) (rs1 : BitVec 5) (rd : BitVec 5) :
    Effect (.fenceI imm rs1 rd) s (execFenceI imm rs1 rd s) := effect_retire rfl (.single (.syncFetch s))
theorem execNtlP1_effect : Effect (.ntlP1) s (execNtlP1 s) := effect_retire rfl .refl
theorem execNtlPall_effect : Effect (.ntlPall) s (execNtlPall s) := effect_retire rfl .refl
theorem execNtlS1_effect : Effect (.ntlS1) s (execNtlS1 s) := effect_retire rfl .refl
theorem execNtlAll_effect : Effect (.ntlAll) s (execNtlAll s) := effect_retire rfl .refl
theorem execCNtlP1_effect : Effect (.cNtlP1) s (execCNtlP1 s) := effect_retire rfl .refl
theorem execCNtlPall_effect : Effect (.cNtlPall) s (execCNtlPall s) := effect_retire rfl .refl
theorem execCNtlS1_effect : Effect (.cNtlS1) s (execCNtlS1 s) := effect_retire rfl .refl
theorem execCNtlAll_effect : Effect (.cNtlAll) s (execCNtlAll s) := effect_retire rfl .refl
theorem execAddiw_effect (rd : BitVec 5) (rs1 : BitVec 5) (imm : BitVec 12) :
    Effect (.addiw rd rs1 imm) s (execAddiw rd rs1 imm s) := effect_setX rfl _ _
theorem execSlliw_effect (rd : BitVec 5) (rs1 : BitVec 5) (shamt : BitVec 5) :
    Effect (.slliw rd rs1 shamt) s (execSlliw rd rs1 shamt s) := effect_setX rfl _ _
theorem execSrliw_effect (rd : BitVec 5) (rs1 : BitVec 5) (shamt : BitVec 5) :
    Effect (.srliw rd rs1 shamt) s (execSrliw rd rs1 shamt s) := effect_setX rfl _ _
theorem execSraiw_effect (rd : BitVec 5) (rs1 : BitVec 5) (shamt : BitVec 5) :
    Effect (.sraiw rd rs1 shamt) s (execSraiw rd rs1 shamt s) := effect_setX rfl _ _
theorem execAddw_effect (rd : BitVec 5) (rs1 : BitVec 5) (rs2 : BitVec 5) :
    Effect (.addw rd rs1 rs2) s (execAddw rd rs1 rs2 s) := effect_setX rfl _ _
theorem execSubw_effect (rd : BitVec 5) (rs1 : BitVec 5) (rs2 : BitVec 5) :
    Effect (.subw rd rs1 rs2) s (execSubw rd rs1 rs2 s) := effect_setX rfl _ _
theorem execSllw_effect (rd : BitVec 5) (rs1 : BitVec 5) (rs2 : BitVec 5) :
    Effect (.sllw rd rs1 rs2) s (execSllw rd rs1 rs2 s) := effect_setX rfl _ _
theorem execSrlw_effect (rd : BitVec 5) (rs1 : BitVec 5) (rs2 : BitVec 5) :
    Effect (.srlw rd rs1 rs2) s (execSrlw rd rs1 rs2 s) := effect_setX rfl _ _
theorem execSraw_effect (rd : BitVec 5) (rs1 : BitVec 5) (rs2 : BitVec 5) :
    Effect (.sraw rd rs1 rs2) s (execSraw rd rs1 rs2 s) := effect_setX rfl _ _
theorem execLd_effect (rd : BitVec 5) (rs1 : BitVec 5) (imm : BitVec 12) :
    Effect (.ld rd rs1 imm) s (execLd rd rs1 imm s) := effect_loadX rfl _ _ _ _
theorem execLwu_effect (rd : BitVec 5) (rs1 : BitVec 5) (imm : BitVec 12) :
    Effect (.lwu rd rs1 imm) s (execLwu rd rs1 imm s) := effect_loadX rfl _ _ _ _
theorem execSd_effect (rs1 : BitVec 5) (rs2 : BitVec 5) (imm : BitVec 12) :
    Effect (.sd rs1 rs2 imm) s (execSd rs1 rs2 imm s) := effect_storeX rfl rfl _ _ _
theorem execMul_effect (rd : BitVec 5) (rs1 : BitVec 5) (rs2 : BitVec 5) :
    Effect (.mul rd rs1 rs2) s (execMul rd rs1 rs2 s) := effect_setX rfl _ _
theorem execMulh_effect (rd : BitVec 5) (rs1 : BitVec 5) (rs2 : BitVec 5) :
    Effect (.mulh rd rs1 rs2) s (execMulh rd rs1 rs2 s) := effect_setX rfl _ _
theorem execMulhsu_effect (rd : BitVec 5) (rs1 : BitVec 5) (rs2 : BitVec 5) :
    Effect (.mulhsu rd rs1 rs2) s (execMulhsu rd rs1 rs2 s) := effect_setX rfl _ _
theorem execMulhu_effect (rd : BitVec 5) (rs1 : BitVec 5) (rs2 : BitVec 5) :
    Effect (.mulhu rd rs1 rs2) s (execMulhu rd rs1 rs2 s) := effect_setX rfl _ _
theorem execDiv_effect (rd : BitVec 5) (rs1 : BitVec 5) (rs2 : BitVec 5) :
    Effect (.div rd rs1 rs2) s (execDiv rd rs1 rs2 s) := effect_setX rfl _ _
theorem execDivu_effect (rd : BitVec 5) (rs1 : BitVec 5) (rs2 : BitVec 5) :
    Effect (.divu rd rs1 rs2) s (execDivu rd rs1 rs2 s) := effect_setX rfl _ _
theorem execRem_effect (rd : BitVec 5) (rs1 : BitVec 5) (rs2 : BitVec 5) :
    Effect (.rem rd rs1 rs2) s (execRem rd rs1 rs2 s) := effect_setX rfl _ _
theorem execRemu_effect (rd : BitVec 5) (rs1 : BitVec 5) (rs2 : BitVec 5) :
    Effect (.remu rd rs1 rs2) s (execRemu rd rs1 rs2 s) := effect_setX rfl _ _
theorem execMulw_effect (rd : BitVec 5) (rs1 : BitVec 5) (rs2 : BitVec 5) :
    Effect (.mulw rd rs1 rs2) s (execMulw rd rs1 rs2 s) := effect_setX rfl _ _
theorem execDivw_effect (rd : BitVec 5) (rs1 : BitVec 5) (rs2 : BitVec 5) :
    Effect (.divw rd rs1 rs2) s (execDivw rd rs1 rs2 s) := effect_setX rfl _ _
theorem execDivuw_effect (rd : BitVec 5) (rs1 : BitVec 5) (rs2 : BitVec 5) :
    Effect (.divuw rd rs1 rs2) s (execDivuw rd rs1 rs2 s) := effect_setX rfl _ _
theorem execRemw_effect (rd : BitVec 5) (rs1 : BitVec 5) (rs2 : BitVec 5) :
    Effect (.remw rd rs1 rs2) s (execRemw rd rs1 rs2 s) := effect_setX rfl _ _
theorem execRemuw_effect (rd : BitVec 5) (rs1 : BitVec 5) (rs2 : BitVec 5) :
    Effect (.remuw rd rs1 rs2) s (execRemuw rd rs1 rs2 s) := effect_setX rfl _ _
theorem execLrW_effect (rd : BitVec 5) (rs1 : BitVec 5) (aq : BitVec 1) (rl : BitVec 1) :
    Effect (.lrW rd rs1 aq rl) s (execLrW rd rs1 aq rl s) := effect_loadReserved rfl rfl _ _ _
theorem execScW_effect (rd : BitVec 5) (rs1 : BitVec 5) (rs2 : BitVec 5) (aq : BitVec 1) (rl : BitVec 1) :
    Effect (.scW rd rs1 rs2 aq rl) s (execScW rd rs1 rs2 aq rl s) := effect_storeConditional rfl rfl rfl _ _ _ _
theorem execLrD_effect (rd : BitVec 5) (rs1 : BitVec 5) (aq : BitVec 1) (rl : BitVec 1) :
    Effect (.lrD rd rs1 aq rl) s (execLrD rd rs1 aq rl s) := effect_loadReserved rfl rfl _ _ _
theorem execScD_effect (rd : BitVec 5) (rs1 : BitVec 5) (rs2 : BitVec 5) (aq : BitVec 1) (rl : BitVec 1) :
    Effect (.scD rd rs1 rs2 aq rl) s (execScD rd rs1 rs2 aq rl s) := effect_storeConditional rfl rfl rfl _ _ _ _
theorem execAmoswapW_effect (rd : BitVec 5) (rs1 : BitVec 5) (rs2 : BitVec 5) (aq : BitVec 1) (rl : BitVec 1) :
    Effect (.amoswapW rd rs1 rs2 aq rl) s (execAmoswapW rd rs1 rs2 aq rl s) := effect_amo rfl rfl _ _ _ _ _ _
theorem execAmoswapD_effect (rd : BitVec 5) (rs1 : BitVec 5) (rs2 : BitVec 5) (aq : BitVec 1) (rl : BitVec 1) :
    Effect (.amoswapD rd rs1 rs2 aq rl) s (execAmoswapD rd rs1 rs2 aq rl s) := effect_amo rfl rfl _ _ _ _ _ _
theorem execAmoaddW_effect (rd : BitVec 5) (rs1 : BitVec 5) (rs2 : BitVec 5) (aq : BitVec 1) (rl : BitVec 1) :
    Effect (.amoaddW rd rs1 rs2 aq rl) s (execAmoaddW rd rs1 rs2 aq rl s) := effect_amo rfl rfl _ _ _ _ _ _
theorem execAmoaddD_effect (rd : BitVec 5) (rs1 : BitVec 5) (rs2 : BitVec 5) (aq : BitVec 1) (rl : BitVec 1) :
    Effect (.amoaddD rd rs1 rs2 aq rl) s (execAmoaddD rd rs1 rs2 aq rl s) := effect_amo rfl rfl _ _ _ _ _ _
theorem execAmoxorW_effect (rd : BitVec 5) (rs1 : BitVec 5) (rs2 : BitVec 5) (aq : BitVec 1) (rl : BitVec 1) :
    Effect (.amoxorW rd rs1 rs2 aq rl) s (execAmoxorW rd rs1 rs2 aq rl s) := effect_amo rfl rfl _ _ _ _ _ _
theorem execAmoxorD_effect (rd : BitVec 5) (rs1 : BitVec 5) (rs2 : BitVec 5) (aq : BitVec 1) (rl : BitVec 1) :
    Effect (.amoxorD rd rs1 rs2 aq rl) s (execAmoxorD rd rs1 rs2 aq rl s) := effect_amo rfl rfl _ _ _ _ _ _
theorem execAmoandW_effect (rd : BitVec 5) (rs1 : BitVec 5) (rs2 : BitVec 5) (aq : BitVec 1) (rl : BitVec 1) :
    Effect (.amoandW rd rs1 rs2 aq rl) s (execAmoandW rd rs1 rs2 aq rl s) := effect_amo rfl rfl _ _ _ _ _ _
theorem execAmoandD_effect (rd : BitVec 5) (rs1 : BitVec 5) (rs2 : BitVec 5) (aq : BitVec 1) (rl : BitVec 1) :
    Effect (.amoandD rd rs1 rs2 aq rl) s (execAmoandD rd rs1 rs2 aq rl s) := effect_amo rfl rfl _ _ _ _ _ _
theorem execAmoorW_effect (rd : BitVec 5) (rs1 : BitVec 5) (rs2 : BitVec 5) (aq : BitVec 1) (rl : BitVec 1) :
    Effect (.amoorW rd rs1 rs2 aq rl) s (execAmoorW rd rs1 rs2 aq rl s) := effect_amo rfl rfl _ _ _ _ _ _
theorem execAmoorD_effect (rd : BitVec 5) (rs1 : BitVec 5) (rs2 : BitVec 5) (aq : BitVec 1) (rl : BitVec 1) :
    Effect (.amoorD rd rs1 rs2 aq rl) s (execAmoorD rd rs1 rs2 aq rl s) := effect_amo rfl rfl _ _ _ _ _ _
theorem execAmominW_effect (rd : BitVec 5) (rs1 : BitVec 5) (rs2 : BitVec 5) (aq : BitVec 1) (rl : BitVec 1) :
    Effect (.amominW rd rs1 rs2 aq rl) s (execAmominW rd rs1 rs2 aq rl s) := effect_amo rfl rfl _ _ _ _ _ _
theorem execAmominD_effect (rd : BitVec 5) (rs1 : BitVec 5) (rs2 : BitVec 5) (aq : BitVec 1) (rl : BitVec 1) :
    Effect (.amominD rd rs1 rs2 aq rl) s (execAmominD rd rs1 rs2 aq rl s) := effect_amo rfl rfl _ _ _ _ _ _
theorem execAmomaxW_effect (rd : BitVec 5) (rs1 : BitVec 5) (rs2 : BitVec 5) (aq : BitVec 1) (rl : BitVec 1) :
    Effect (.amomaxW rd rs1 rs2 aq rl) s (execAmomaxW rd rs1 rs2 aq rl s) := effect_amo rfl rfl _ _ _ _ _ _
theorem execAmomaxD_effect (rd : BitVec 5) (rs1 : BitVec 5) (rs2 : BitVec 5) (aq : BitVec 1) (rl : BitVec 1) :
    Effect (.amomaxD rd rs1 rs2 aq rl) s (execAmomaxD rd rs1 rs2 aq rl s) := effect_amo rfl rfl _ _ _ _ _ _
theorem execAmominuW_effect (rd : BitVec 5) (rs1 : BitVec 5) (rs2 : BitVec 5) (aq : BitVec 1) (rl : BitVec 1) :
    Effect (.amominuW rd rs1 rs2 aq rl) s (execAmominuW rd rs1 rs2 aq rl s) := effect_amo rfl rfl _ _ _ _ _ _
theorem execAmominuD_effect (rd : BitVec 5) (rs1 : BitVec 5) (rs2 : BitVec 5) (aq : BitVec 1) (rl : BitVec 1) :
    Effect (.amominuD rd rs1 rs2 aq rl) s (execAmominuD rd rs1 rs2 aq rl s) := effect_amo rfl rfl _ _ _ _ _ _
theorem execAmomaxuW_effect (rd : BitVec 5) (rs1 : BitVec 5) (rs2 : BitVec 5) (aq : BitVec 1) (rl : BitVec 1) :
    Effect (.amomaxuW rd rs1 rs2 aq rl) s (execAmomaxuW rd rs1 rs2 aq rl s) := effect_amo rfl rfl _ _ _ _ _ _
theorem execAmomaxuD_effect (rd : BitVec 5) (rs1 : BitVec 5) (rs2 : BitVec 5) (aq : BitVec 1) (rl : BitVec 1) :
    Effect (.amomaxuD rd rs1 rs2 aq rl) s (execAmomaxuD rd rs1 rs2 aq rl s) := effect_amo rfl rfl _ _ _ _ _ _
theorem execCsrrw_effect (rd : BitVec 5) (rs1 : BitVec 5) (csr : BitVec 12) :
    Effect (.csrrw rd rs1 csr) s (execCsrrw rd rs1 csr s) := effect_csr rfl rfl _ _ _ _ _ _
theorem execCsrrs_effect (rd : BitVec 5) (rs1 : BitVec 5) (csr : BitVec 12) :
    Effect (.csrrs rd rs1 csr) s (execCsrrs rd rs1 csr s) := effect_csr rfl rfl _ _ _ _ _ _
theorem execCsrrc_effect (rd : BitVec 5) (rs1 : BitVec 5) (csr : BitVec 12) :
    Effect (.csrrc rd rs1 csr) s (execCsrrc rd rs1 csr s) := effect_csr rfl rfl _ _ _ _ _ _
theorem execCsrrwi_effect (rd : BitVec 5) (uimm : BitVec 5) (csr : BitVec 12) :
    Effect (.csrrwi rd uimm csr) s (execCsrrwi rd uimm csr s) := effect_csr rfl rfl _ _ _ _ _ _
theorem execCsrrsi_effect (rd : BitVec 5) (uimm : BitVec 5) (csr : BitVec 12) :
    Effect (.csrrsi rd uimm csr) s (execCsrrsi rd uimm csr s) := effect_csr rfl rfl _ _ _ _ _ _
theorem execCsrrci_effect (rd : BitVec 5) (uimm : BitVec 5) (csr : BitVec 12) :
    Effect (.csrrci rd uimm csr) s (execCsrrci rd uimm csr s) := effect_csr rfl rfl _ _ _ _ _ _
theorem execFlw_effect (rd : BitVec 5) (rs1 : BitVec 5) (imm : BitVec 12) :
    Effect (.flw rd rs1 imm) s (execFlw rd rs1 imm s) := effect_loadF rfl _ _ _
theorem execFsw_effect (rs1 : BitVec 5) (rs2 : BitVec 5) (imm : BitVec 12) :
    Effect (.fsw rs1 rs2 imm) s (execFsw rs1 rs2 imm s) := effect_storeF rfl rfl _ _ _
theorem execFmaddS_effect (rd : BitVec 5) (rs1 : BitVec 5) (rs2 : BitVec 5) (rs3 : BitVec 5) (rm : BitVec 3) :
    Effect (.fmaddS rd rs1 rs2 rs3 rm) s (execFmaddS rd rs1 rs2 rs3 rm s) := effect_fp3 rfl _ _ _ _ _ _ _ _
theorem execFmsubS_effect (rd : BitVec 5) (rs1 : BitVec 5) (rs2 : BitVec 5) (rs3 : BitVec 5) (rm : BitVec 3) :
    Effect (.fmsubS rd rs1 rs2 rs3 rm) s (execFmsubS rd rs1 rs2 rs3 rm s) := effect_fp3 rfl _ _ _ _ _ _ _ _
theorem execFnmsubS_effect (rd : BitVec 5) (rs1 : BitVec 5) (rs2 : BitVec 5) (rs3 : BitVec 5) (rm : BitVec 3) :
    Effect (.fnmsubS rd rs1 rs2 rs3 rm) s (execFnmsubS rd rs1 rs2 rs3 rm s) := effect_fp3 rfl _ _ _ _ _ _ _ _
theorem execFnmaddS_effect (rd : BitVec 5) (rs1 : BitVec 5) (rs2 : BitVec 5) (rs3 : BitVec 5) (rm : BitVec 3) :
    Effect (.fnmaddS rd rs1 rs2 rs3 rm) s (execFnmaddS rd rs1 rs2 rs3 rm s) := effect_fp3 rfl _ _ _ _ _ _ _ _
theorem execFaddS_effect (rd : BitVec 5) (rs1 : BitVec 5) (rs2 : BitVec 5) (rm : BitVec 3) :
    Effect (.faddS rd rs1 rs2 rm) s (execFaddS rd rs1 rs2 rm s) := effect_fp2 rfl _ _ _ _ _ _
theorem execFsubS_effect (rd : BitVec 5) (rs1 : BitVec 5) (rs2 : BitVec 5) (rm : BitVec 3) :
    Effect (.fsubS rd rs1 rs2 rm) s (execFsubS rd rs1 rs2 rm s) := effect_fp2 rfl _ _ _ _ _ _
theorem execFmulS_effect (rd : BitVec 5) (rs1 : BitVec 5) (rs2 : BitVec 5) (rm : BitVec 3) :
    Effect (.fmulS rd rs1 rs2 rm) s (execFmulS rd rs1 rs2 rm s) := effect_fp2 rfl _ _ _ _ _ _
theorem execFdivS_effect (rd : BitVec 5) (rs1 : BitVec 5) (rs2 : BitVec 5) (rm : BitVec 3) :
    Effect (.fdivS rd rs1 rs2 rm) s (execFdivS rd rs1 rs2 rm s) := effect_fp2 rfl _ _ _ _ _ _
theorem execFsqrtS_effect (rd : BitVec 5) (rs1 : BitVec 5) (rm : BitVec 3) :
    Effect (.fsqrtS rd rs1 rm) s (execFsqrtS rd rs1 rm s) := effect_fp1 rfl _ _ _ _ _
theorem execFsgnjS_effect (rd : BitVec 5) (rs1 : BitVec 5) (rs2 : BitVec 5) :
    Effect (.fsgnjS rd rs1 rs2) s (execFsgnjS rd rs1 rs2 s) := effect_putFp rfl _ _ _
theorem execFsgnjnS_effect (rd : BitVec 5) (rs1 : BitVec 5) (rs2 : BitVec 5) :
    Effect (.fsgnjnS rd rs1 rs2) s (execFsgnjnS rd rs1 rs2 s) := effect_putFp rfl _ _ _
theorem execFsgnjxS_effect (rd : BitVec 5) (rs1 : BitVec 5) (rs2 : BitVec 5) :
    Effect (.fsgnjxS rd rs1 rs2) s (execFsgnjxS rd rs1 rs2 s) := effect_putFp rfl _ _ _
theorem execFminS_effect (rd : BitVec 5) (rs1 : BitVec 5) (rs2 : BitVec 5) :
    Effect (.fminS rd rs1 rs2) s (execFminS rd rs1 rs2 s) := effect_putFp rfl _ _ _
theorem execFmaxS_effect (rd : BitVec 5) (rs1 : BitVec 5) (rs2 : BitVec 5) :
    Effect (.fmaxS rd rs1 rs2) s (execFmaxS rd rs1 rs2 s) := effect_putFp rfl _ _ _
theorem execFeqS_effect (rd : BitVec 5) (rs1 : BitVec 5) (rs2 : BitVec 5) :
    Effect (.feqS rd rs1 rs2) s (execFeqS rd rs1 rs2 s) := effect_putX rfl _ _ _
theorem execFltS_effect (rd : BitVec 5) (rs1 : BitVec 5) (rs2 : BitVec 5) :
    Effect (.fltS rd rs1 rs2) s (execFltS rd rs1 rs2 s) := effect_putX rfl _ _ _
theorem execFleS_effect (rd : BitVec 5) (rs1 : BitVec 5) (rs2 : BitVec 5) :
    Effect (.fleS rd rs1 rs2) s (execFleS rd rs1 rs2 s) := effect_putX rfl _ _ _
theorem execFclassS_effect (rd : BitVec 5) (rs1 : BitVec 5) : Effect (.fclassS rd rs1) s (execFclassS rd rs1 s) := effect_setX rfl _ _
theorem execFcvtWS_effect (rd : BitVec 5) (rs1 : BitVec 5) (rm : BitVec 3) :
    Effect (.fcvtWS rd rs1 rm) s (execFcvtWS rd rs1 rm s) := effect_fpToInt rfl _ _ _ _ _ _ _
theorem execFcvtSW_effect (rd : BitVec 5) (rs1 : BitVec 5) (rm : BitVec 3) :
    Effect (.fcvtSW rd rs1 rm) s (execFcvtSW rd rs1 rm s) := effect_fpOfInt rfl _ _ _ _ _ _
theorem execFcvtWuS_effect (rd : BitVec 5) (rs1 : BitVec 5) (rm : BitVec 3) :
    Effect (.fcvtWuS rd rs1 rm) s (execFcvtWuS rd rs1 rm s) := effect_fpToInt rfl _ _ _ _ _ _ _
theorem execFcvtSWu_effect (rd : BitVec 5) (rs1 : BitVec 5) (rm : BitVec 3) :
    Effect (.fcvtSWu rd rs1 rm) s (execFcvtSWu rd rs1 rm s) := effect_fpOfInt rfl _ _ _ _ _ _
theorem execFcvtLS_effect (rd : BitVec 5) (rs1 : BitVec 5) (rm : BitVec 3) :
    Effect (.fcvtLS rd rs1 rm) s (execFcvtLS rd rs1 rm s) := effect_fpToInt rfl _ _ _ _ _ _ _
theorem execFcvtSL_effect (rd : BitVec 5) (rs1 : BitVec 5) (rm : BitVec 3) :
    Effect (.fcvtSL rd rs1 rm) s (execFcvtSL rd rs1 rm s) := effect_fpOfInt rfl _ _ _ _ _ _
theorem execFcvtLuS_effect (rd : BitVec 5) (rs1 : BitVec 5) (rm : BitVec 3) :
    Effect (.fcvtLuS rd rs1 rm) s (execFcvtLuS rd rs1 rm s) := effect_fpToInt rfl _ _ _ _ _ _ _
theorem execFcvtSLu_effect (rd : BitVec 5) (rs1 : BitVec 5) (rm : BitVec 3) :
    Effect (.fcvtSLu rd rs1 rm) s (execFcvtSLu rd rs1 rm s) := effect_fpOfInt rfl _ _ _ _ _ _
theorem execFld_effect (rd : BitVec 5) (rs1 : BitVec 5) (imm : BitVec 12) :
    Effect (.fld rd rs1 imm) s (execFld rd rs1 imm s) := effect_loadF rfl _ _ _
theorem execFsd_effect (rs1 : BitVec 5) (rs2 : BitVec 5) (imm : BitVec 12) :
    Effect (.fsd rs1 rs2 imm) s (execFsd rs1 rs2 imm s) := effect_storeF rfl rfl _ _ _
theorem execFmaddD_effect (rd : BitVec 5) (rs1 : BitVec 5) (rs2 : BitVec 5) (rs3 : BitVec 5) (rm : BitVec 3) :
    Effect (.fmaddD rd rs1 rs2 rs3 rm) s (execFmaddD rd rs1 rs2 rs3 rm s) := effect_fp3 rfl _ _ _ _ _ _ _ _
theorem execFmsubD_effect (rd : BitVec 5) (rs1 : BitVec 5) (rs2 : BitVec 5) (rs3 : BitVec 5) (rm : BitVec 3) :
    Effect (.fmsubD rd rs1 rs2 rs3 rm) s (execFmsubD rd rs1 rs2 rs3 rm s) := effect_fp3 rfl _ _ _ _ _ _ _ _
theorem execFnmsubD_effect (rd : BitVec 5) (rs1 : BitVec 5) (rs2 : BitVec 5) (rs3 : BitVec 5) (rm : BitVec 3) :
    Effect (.fnmsubD rd rs1 rs2 rs3 rm) s (execFnmsubD rd rs1 rs2 rs3 rm s) := effect_fp3 rfl _ _ _ _ _ _ _ _
theorem execFnmaddD_effect (rd : BitVec 5) (rs1 : BitVec 5) (rs2 : BitVec 5) (rs3 : BitVec 5) (rm : BitVec 3) :
    Effect (.fnmaddD rd rs1 rs2 rs3 rm) s (execFnmaddD rd rs1 rs2 rs3 rm s) := effect_fp3 rfl _ _ _ _ _ _ _ _
theorem execFaddD_effect (rd : BitVec 5) (rs1 : BitVec 5) (rs2 : BitVec 5) (rm : BitVec 3) :
    Effect (.faddD rd rs1 rs2 rm) s (execFaddD rd rs1 rs2 rm s) := effect_fp2 rfl _ _ _ _ _ _
theorem execFsubD_effect (rd : BitVec 5) (rs1 : BitVec 5) (rs2 : BitVec 5) (rm : BitVec 3) :
    Effect (.fsubD rd rs1 rs2 rm) s (execFsubD rd rs1 rs2 rm s) := effect_fp2 rfl _ _ _ _ _ _
theorem execFmulD_effect (rd : BitVec 5) (rs1 : BitVec 5) (rs2 : BitVec 5) (rm : BitVec 3) :
    Effect (.fmulD rd rs1 rs2 rm) s (execFmulD rd rs1 rs2 rm s) := effect_fp2 rfl _ _ _ _ _ _
theorem execFdivD_effect (rd : BitVec 5) (rs1 : BitVec 5) (rs2 : BitVec 5) (rm : BitVec 3) :
    Effect (.fdivD rd rs1 rs2 rm) s (execFdivD rd rs1 rs2 rm s) := effect_fp2 rfl _ _ _ _ _ _
theorem execFsqrtD_effect (rd : BitVec 5) (rs1 : BitVec 5) (rm : BitVec 3) :
    Effect (.fsqrtD rd rs1 rm) s (execFsqrtD rd rs1 rm s) := effect_fp1 rfl _ _ _ _ _
theorem execFsgnjD_effect (rd : BitVec 5) (rs1 : BitVec 5) (rs2 : BitVec 5) :
    Effect (.fsgnjD rd rs1 rs2) s (execFsgnjD rd rs1 rs2 s) := effect_putFp rfl _ _ _
theorem execFsgnjnD_effect (rd : BitVec 5) (rs1 : BitVec 5) (rs2 : BitVec 5) :
    Effect (.fsgnjnD rd rs1 rs2) s (execFsgnjnD rd rs1 rs2 s) := effect_putFp rfl _ _ _
theorem execFsgnjxD_effect (rd : BitVec 5) (rs1 : BitVec 5) (rs2 : BitVec 5) :
    Effect (.fsgnjxD rd rs1 rs2) s (execFsgnjxD rd rs1 rs2 s) := effect_putFp rfl _ _ _
theorem execFminD_effect (rd : BitVec 5) (rs1 : BitVec 5) (rs2 : BitVec 5) :
    Effect (.fminD rd rs1 rs2) s (execFminD rd rs1 rs2 s) := effect_putFp rfl _ _ _
theorem execFmaxD_effect (rd : BitVec 5) (rs1 : BitVec 5) (rs2 : BitVec 5) :
    Effect (.fmaxD rd rs1 rs2) s (execFmaxD rd rs1 rs2 s) := effect_putFp rfl _ _ _
theorem execFeqD_effect (rd : BitVec 5) (rs1 : BitVec 5) (rs2 : BitVec 5) :
    Effect (.feqD rd rs1 rs2) s (execFeqD rd rs1 rs2 s) := effect_putX rfl _ _ _
theorem execFltD_effect (rd : BitVec 5) (rs1 : BitVec 5) (rs2 : BitVec 5) :
    Effect (.fltD rd rs1 rs2) s (execFltD rd rs1 rs2 s) := effect_putX rfl _ _ _
theorem execFleD_effect (rd : BitVec 5) (rs1 : BitVec 5) (rs2 : BitVec 5) :
    Effect (.fleD rd rs1 rs2) s (execFleD rd rs1 rs2 s) := effect_putX rfl _ _ _
theorem execFclassD_effect (rd : BitVec 5) (rs1 : BitVec 5) : Effect (.fclassD rd rs1) s (execFclassD rd rs1 s) := effect_setX rfl _ _
theorem execFcvtWD_effect (rd : BitVec 5) (rs1 : BitVec 5) (rm : BitVec 3) :
    Effect (.fcvtWD rd rs1 rm) s (execFcvtWD rd rs1 rm s) := effect_fpToInt rfl _ _ _ _ _ _ _
theorem execFcvtDW_effect (rd : BitVec 5) (rs1 : BitVec 5) (rm : BitVec 3) :
    Effect (.fcvtDW rd rs1 rm) s (execFcvtDW rd rs1 rm s) := effect_fpOfInt rfl _ _ _ _ _ _
theorem execFcvtWuD_effect (rd : BitVec 5) (rs1 : BitVec 5) (rm : BitVec 3) :
    Effect (.fcvtWuD rd rs1 rm) s (execFcvtWuD rd rs1 rm s) := effect_fpToInt rfl _ _ _ _ _ _ _
theorem execFcvtDWu_effect (rd : BitVec 5) (rs1 : BitVec 5) (rm : BitVec 3) :
    Effect (.fcvtDWu rd rs1 rm) s (execFcvtDWu rd rs1 rm s) := effect_fpOfInt rfl _ _ _ _ _ _
theorem execFcvtLD_effect (rd : BitVec 5) (rs1 : BitVec 5) (rm : BitVec 3) :
    Effect (.fcvtLD rd rs1 rm) s (execFcvtLD rd rs1 rm s) := effect_fpToInt rfl _ _ _ _ _ _ _
theorem execFcvtDL_effect (rd : BitVec 5) (rs1 : BitVec 5) (rm : BitVec 3) :
    Effect (.fcvtDL rd rs1 rm) s (execFcvtDL rd rs1 rm s) := effect_fpOfInt rfl _ _ _ _ _ _
theorem execFcvtLuD_effect (rd : BitVec 5) (rs1 : BitVec 5) (rm : BitVec 3) :
    Effect (.fcvtLuD rd rs1 rm) s (execFcvtLuD rd rs1 rm s) := effect_fpToInt rfl _ _ _ _ _ _ _
theorem execFcvtDLu_effect (rd : BitVec 5) (rs1 : BitVec 5) (rm : BitVec 3) :
    Effect (.fcvtDLu rd rs1 rm) s (execFcvtDLu rd rs1 rm s) := effect_fpOfInt rfl _ _ _ _ _ _
theorem execFlq_effect (rd : BitVec 5) (rs1 : BitVec 5) (imm : BitVec 12) :
    Effect (.flq rd rs1 imm) s (execFlq rd rs1 imm s) := effect_loadF rfl _ _ _
theorem execFsq_effect (rs1 : BitVec 5) (rs2 : BitVec 5) (imm : BitVec 12) :
    Effect (.fsq rs1 rs2 imm) s (execFsq rs1 rs2 imm s) := effect_storeF rfl rfl _ _ _
theorem execFmaddQ_effect (rd : BitVec 5) (rs1 : BitVec 5) (rs2 : BitVec 5) (rs3 : BitVec 5) (rm : BitVec 3) :
    Effect (.fmaddQ rd rs1 rs2 rs3 rm) s (execFmaddQ rd rs1 rs2 rs3 rm s) := effect_fp3 rfl _ _ _ _ _ _ _ _
theorem execFmsubQ_effect (rd : BitVec 5) (rs1 : BitVec 5) (rs2 : BitVec 5) (rs3 : BitVec 5) (rm : BitVec 3) :
    Effect (.fmsubQ rd rs1 rs2 rs3 rm) s (execFmsubQ rd rs1 rs2 rs3 rm s) := effect_fp3 rfl _ _ _ _ _ _ _ _
theorem execFnmsubQ_effect (rd : BitVec 5) (rs1 : BitVec 5) (rs2 : BitVec 5) (rs3 : BitVec 5) (rm : BitVec 3) :
    Effect (.fnmsubQ rd rs1 rs2 rs3 rm) s (execFnmsubQ rd rs1 rs2 rs3 rm s) := effect_fp3 rfl _ _ _ _ _ _ _ _
theorem execFnmaddQ_effect (rd : BitVec 5) (rs1 : BitVec 5) (rs2 : BitVec 5) (rs3 : BitVec 5) (rm : BitVec 3) :
    Effect (.fnmaddQ rd rs1 rs2 rs3 rm) s (execFnmaddQ rd rs1 rs2 rs3 rm s) := effect_fp3 rfl _ _ _ _ _ _ _ _
theorem execFaddQ_effect (rd : BitVec 5) (rs1 : BitVec 5) (rs2 : BitVec 5) (rm : BitVec 3) :
    Effect (.faddQ rd rs1 rs2 rm) s (execFaddQ rd rs1 rs2 rm s) := effect_fp2 rfl _ _ _ _ _ _
theorem execFsubQ_effect (rd : BitVec 5) (rs1 : BitVec 5) (rs2 : BitVec 5) (rm : BitVec 3) :
    Effect (.fsubQ rd rs1 rs2 rm) s (execFsubQ rd rs1 rs2 rm s) := effect_fp2 rfl _ _ _ _ _ _
theorem execFmulQ_effect (rd : BitVec 5) (rs1 : BitVec 5) (rs2 : BitVec 5) (rm : BitVec 3) :
    Effect (.fmulQ rd rs1 rs2 rm) s (execFmulQ rd rs1 rs2 rm s) := effect_fp2 rfl _ _ _ _ _ _
theorem execFdivQ_effect (rd : BitVec 5) (rs1 : BitVec 5) (rs2 : BitVec 5) (rm : BitVec 3) :
    Effect (.fdivQ rd rs1 rs2 rm) s (execFdivQ rd rs1 rs2 rm s) := effect_fp2 rfl _ _ _ _ _ _
theorem execFsqrtQ_effect (rd : BitVec 5) (rs1 : BitVec 5) (rm : BitVec 3) :
    Effect (.fsqrtQ rd rs1 rm) s (execFsqrtQ rd rs1 rm s) := effect_fp1 rfl _ _ _ _ _
theorem execFsgnjQ_effect (rd : BitVec 5) (rs1 : BitVec 5) (rs2 : BitVec 5) :
    Effect (.fsgnjQ rd rs1 rs2) s (execFsgnjQ rd rs1 rs2 s) := effect_putFp rfl _ _ _
theorem execFsgnjnQ_effect (rd : BitVec 5) (rs1 : BitVec 5) (rs2 : BitVec 5) :
    Effect (.fsgnjnQ rd rs1 rs2) s (execFsgnjnQ rd rs1 rs2 s) := effect_putFp rfl _ _ _
theorem execFsgnjxQ_effect (rd : BitVec 5) (rs1 : BitVec 5) (rs2 : BitVec 5) :
    Effect (.fsgnjxQ rd rs1 rs2) s (execFsgnjxQ rd rs1 rs2 s) := effect_putFp rfl _ _ _
theorem execFminQ_effect (rd : BitVec 5) (rs1 : BitVec 5) (rs2 : BitVec 5) :
    Effect (.fminQ rd rs1 rs2) s (execFminQ rd rs1 rs2 s) := effect_putFp rfl _ _ _
theorem execFmaxQ_effect (rd : BitVec 5) (rs1 : BitVec 5) (rs2 : BitVec 5) :
    Effect (.fmaxQ rd rs1 rs2) s (execFmaxQ rd rs1 rs2 s) := effect_putFp rfl _ _ _
theorem execFeqQ_effect (rd : BitVec 5) (rs1 : BitVec 5) (rs2 : BitVec 5) :
    Effect (.feqQ rd rs1 rs2) s (execFeqQ rd rs1 rs2 s) := effect_putX rfl _ _ _
theorem execFltQ_effect (rd : BitVec 5) (rs1 : BitVec 5) (rs2 : BitVec 5) :
    Effect (.fltQ rd rs1 rs2) s (execFltQ rd rs1 rs2 s) := effect_putX rfl _ _ _
theorem execFleQ_effect (rd : BitVec 5) (rs1 : BitVec 5) (rs2 : BitVec 5) :
    Effect (.fleQ rd rs1 rs2) s (execFleQ rd rs1 rs2 s) := effect_putX rfl _ _ _
theorem execFclassQ_effect (rd : BitVec 5) (rs1 : BitVec 5) : Effect (.fclassQ rd rs1) s (execFclassQ rd rs1 s) := effect_setX rfl _ _
theorem execFcvtWQ_effect (rd : BitVec 5) (rs1 : BitVec 5) (rm : BitVec 3) :
    Effect (.fcvtWQ rd rs1 rm) s (execFcvtWQ rd rs1 rm s) := effect_fpToInt rfl _ _ _ _ _ _ _
theorem execFcvtQW_effect (rd : BitVec 5) (rs1 : BitVec 5) (rm : BitVec 3) :
    Effect (.fcvtQW rd rs1 rm) s (execFcvtQW rd rs1 rm s) := effect_fpOfInt rfl _ _ _ _ _ _
theorem execFcvtWuQ_effect (rd : BitVec 5) (rs1 : BitVec 5) (rm : BitVec 3) :
    Effect (.fcvtWuQ rd rs1 rm) s (execFcvtWuQ rd rs1 rm s) := effect_fpToInt rfl _ _ _ _ _ _ _
theorem execFcvtQWu_effect (rd : BitVec 5) (rs1 : BitVec 5) (rm : BitVec 3) :
    Effect (.fcvtQWu rd rs1 rm) s (execFcvtQWu rd rs1 rm s) := effect_fpOfInt rfl _ _ _ _ _ _
theorem execFcvtLQ_effect (rd : BitVec 5) (rs1 : BitVec 5) (rm : BitVec 3) :
    Effect (.fcvtLQ rd rs1 rm) s (execFcvtLQ rd rs1 rm s) := effect_fpToInt rfl _ _ _ _ _ _ _
theorem execFcvtQL_effect (rd : BitVec 5) (rs1 : BitVec 5) (rm : BitVec 3) :
    Effect (.fcvtQL rd rs1 rm) s (execFcvtQL rd rs1 rm s) := effect_fpOfInt rfl _ _ _ _ _ _
theorem execFcvtLuQ_effect (rd : BitVec 5) (rs1 : BitVec 5) (rm : BitVec 3) :
    Effect (.fcvtLuQ rd rs1 rm) s (execFcvtLuQ rd rs1 rm s) := effect_fpToInt rfl _ _ _ _ _ _ _
theorem execFcvtQLu_effect (rd : BitVec 5) (rs1 : BitVec 5) (rm : BitVec 3) :
    Effect (.fcvtQLu rd rs1 rm) s (execFcvtQLu rd rs1 rm s) := effect_fpOfInt rfl _ _ _ _ _ _
theorem execFlh_effect (rd : BitVec 5) (rs1 : BitVec 5) (imm : BitVec 12) :
    Effect (.flh rd rs1 imm) s (execFlh rd rs1 imm s) := effect_loadF rfl _ _ _
theorem execFsh_effect (rs1 : BitVec 5) (rs2 : BitVec 5) (imm : BitVec 12) :
    Effect (.fsh rs1 rs2 imm) s (execFsh rs1 rs2 imm s) := effect_storeF rfl rfl _ _ _
theorem execFmaddH_effect (rd : BitVec 5) (rs1 : BitVec 5) (rs2 : BitVec 5) (rs3 : BitVec 5) (rm : BitVec 3) :
    Effect (.fmaddH rd rs1 rs2 rs3 rm) s (execFmaddH rd rs1 rs2 rs3 rm s) := effect_fp3 rfl _ _ _ _ _ _ _ _
theorem execFmsubH_effect (rd : BitVec 5) (rs1 : BitVec 5) (rs2 : BitVec 5) (rs3 : BitVec 5) (rm : BitVec 3) :
    Effect (.fmsubH rd rs1 rs2 rs3 rm) s (execFmsubH rd rs1 rs2 rs3 rm s) := effect_fp3 rfl _ _ _ _ _ _ _ _
theorem execFnmsubH_effect (rd : BitVec 5) (rs1 : BitVec 5) (rs2 : BitVec 5) (rs3 : BitVec 5) (rm : BitVec 3) :
    Effect (.fnmsubH rd rs1 rs2 rs3 rm) s (execFnmsubH rd rs1 rs2 rs3 rm s) := effect_fp3 rfl _ _ _ _ _ _ _ _
theorem execFnmaddH_effect (rd : BitVec 5) (rs1 : BitVec 5) (rs2 : BitVec 5) (rs3 : BitVec 5) (rm : BitVec 3) :
    Effect (.fnmaddH rd rs1 rs2 rs3 rm) s (execFnmaddH rd rs1 rs2 rs3 rm s) := effect_fp3 rfl _ _ _ _ _ _ _ _
theorem execFaddH_effect (rd : BitVec 5) (rs1 : BitVec 5) (rs2 : BitVec 5) (rm : BitVec 3) :
    Effect (.faddH rd rs1 rs2 rm) s (execFaddH rd rs1 rs2 rm s) := effect_fp2 rfl _ _ _ _ _ _
theorem execFsubH_effect (rd : BitVec 5) (rs1 : BitVec 5) (rs2 : BitVec 5) (rm : BitVec 3) :
    Effect (.fsubH rd rs1 rs2 rm) s (execFsubH rd rs1 rs2 rm s) := effect_fp2 rfl _ _ _ _ _ _
theorem execFmulH_effect (rd : BitVec 5) (rs1 : BitVec 5) (rs2 : BitVec 5) (rm : BitVec 3) :
    Effect (.fmulH rd rs1 rs2 rm) s (execFmulH rd rs1 rs2 rm s) := effect_fp2 rfl _ _ _ _ _ _
theorem execFdivH_effect (rd : BitVec 5) (rs1 : BitVec 5) (rs2 : BitVec 5) (rm : BitVec 3) :
    Effect (.fdivH rd rs1 rs2 rm) s (execFdivH rd rs1 rs2 rm s) := effect_fp2 rfl _ _ _ _ _ _
theorem execFsqrtH_effect (rd : BitVec 5) (rs1 : BitVec 5) (rm : BitVec 3) :
    Effect (.fsqrtH rd rs1 rm) s (execFsqrtH rd rs1 rm s) := effect_fp1 rfl _ _ _ _ _
theorem execFsgnjH_effect (rd : BitVec 5) (rs1 : BitVec 5) (rs2 : BitVec 5) :
    Effect (.fsgnjH rd rs1 rs2) s (execFsgnjH rd rs1 rs2 s) := effect_putFp rfl _ _ _
theorem execFsgnjnH_effect (rd : BitVec 5) (rs1 : BitVec 5) (rs2 : BitVec 5) :
    Effect (.fsgnjnH rd rs1 rs2) s (execFsgnjnH rd rs1 rs2 s) := effect_putFp rfl _ _ _
theorem execFsgnjxH_effect (rd : BitVec 5) (rs1 : BitVec 5) (rs2 : BitVec 5) :
    Effect (.fsgnjxH rd rs1 rs2) s (execFsgnjxH rd rs1 rs2 s) := effect_putFp rfl _ _ _
theorem execFminH_effect (rd : BitVec 5) (rs1 : BitVec 5) (rs2 : BitVec 5) :
    Effect (.fminH rd rs1 rs2) s (execFminH rd rs1 rs2 s) := effect_putFp rfl _ _ _
theorem execFmaxH_effect (rd : BitVec 5) (rs1 : BitVec 5) (rs2 : BitVec 5) :
    Effect (.fmaxH rd rs1 rs2) s (execFmaxH rd rs1 rs2 s) := effect_putFp rfl _ _ _
theorem execFeqH_effect (rd : BitVec 5) (rs1 : BitVec 5) (rs2 : BitVec 5) :
    Effect (.feqH rd rs1 rs2) s (execFeqH rd rs1 rs2 s) := effect_putX rfl _ _ _
theorem execFltH_effect (rd : BitVec 5) (rs1 : BitVec 5) (rs2 : BitVec 5) :
    Effect (.fltH rd rs1 rs2) s (execFltH rd rs1 rs2 s) := effect_putX rfl _ _ _
theorem execFleH_effect (rd : BitVec 5) (rs1 : BitVec 5) (rs2 : BitVec 5) :
    Effect (.fleH rd rs1 rs2) s (execFleH rd rs1 rs2 s) := effect_putX rfl _ _ _
theorem execFclassH_effect (rd : BitVec 5) (rs1 : BitVec 5) : Effect (.fclassH rd rs1) s (execFclassH rd rs1 s) := effect_setX rfl _ _
theorem execFcvtWH_effect (rd : BitVec 5) (rs1 : BitVec 5) (rm : BitVec 3) :
    Effect (.fcvtWH rd rs1 rm) s (execFcvtWH rd rs1 rm s) := effect_fpToInt rfl _ _ _ _ _ _ _
theorem execFcvtHW_effect (rd : BitVec 5) (rs1 : BitVec 5) (rm : BitVec 3) :
    Effect (.fcvtHW rd rs1 rm) s (execFcvtHW rd rs1 rm s) := effect_fpOfInt rfl _ _ _ _ _ _
theorem execFcvtWuH_effect (rd : BitVec 5) (rs1 : BitVec 5) (rm : BitVec 3) :
    Effect (.fcvtWuH rd rs1 rm) s (execFcvtWuH rd rs1 rm s) := effect_fpToInt rfl _ _ _ _ _ _ _
theorem execFcvtHWu_effect (rd : BitVec 5) (rs1 : BitVec 5) (rm : BitVec 3) :
    Effect (.fcvtHWu rd rs1 rm) s (execFcvtHWu rd rs1 rm s) := effect_fpOfInt rfl _ _ _ _ _ _
theorem execFcvtLH_effect (rd : BitVec 5) (rs1 : BitVec 5) (rm : BitVec 3) :
    Effect (.fcvtLH rd rs1 rm) s (execFcvtLH rd rs1 rm s) := effect_fpToInt rfl _ _ _ _ _ _ _
theorem execFcvtHL_effect (rd : BitVec 5) (rs1 : BitVec 5) (rm : BitVec 3) :
    Effect (.fcvtHL rd rs1 rm) s (execFcvtHL rd rs1 rm s) := effect_fpOfInt rfl _ _ _ _ _ _
theorem execFcvtLuH_effect (rd : BitVec 5) (rs1 : BitVec 5) (rm : BitVec 3) :
    Effect (.fcvtLuH rd rs1 rm) s (execFcvtLuH rd rs1 rm s) := effect_fpToInt rfl _ _ _ _ _ _ _
theorem execFcvtHLu_effect (rd : BitVec 5) (rs1 : BitVec 5) (rm : BitVec 3) :
    Effect (.fcvtHLu rd rs1 rm) s (execFcvtHLu rd rs1 rm s) := effect_fpOfInt rfl _ _ _ _ _ _
theorem execFmvXW_effect (rd : BitVec 5) (rs1 : BitVec 5) : Effect (.fmvXW rd rs1) s (execFmvXW rd rs1 s) := effect_setX rfl _ _
theorem execFmvWX_effect (rd : BitVec 5) (rs1 : BitVec 5) : Effect (.fmvWX rd rs1) s (execFmvWX rd rs1 s) := effect_setF rfl _ _
theorem execFmvXD_effect (rd : BitVec 5) (rs1 : BitVec 5) : Effect (.fmvXD rd rs1) s (execFmvXD rd rs1 s) := effect_setX rfl _ _
theorem execFmvDX_effect (rd : BitVec 5) (rs1 : BitVec 5) : Effect (.fmvDX rd rs1) s (execFmvDX rd rs1 s) := effect_setF rfl _ _
theorem execFmvXH_effect (rd : BitVec 5) (rs1 : BitVec 5) : Effect (.fmvXH rd rs1) s (execFmvXH rd rs1 s) := effect_setX rfl _ _
theorem execFmvHX_effect (rd : BitVec 5) (rs1 : BitVec 5) : Effect (.fmvHX rd rs1) s (execFmvHX rd rs1 s) := effect_setF rfl _ _
theorem execFcvtSD_effect (rd : BitVec 5) (rs1 : BitVec 5) (rm : BitVec 3) :
    Effect (.fcvtSD rd rs1 rm) s (execFcvtSD rd rs1 rm s) := effect_fpConvert rfl _ _ _ _ _
theorem execFcvtDS_effect (rd : BitVec 5) (rs1 : BitVec 5) (rm : BitVec 3) :
    Effect (.fcvtDS rd rs1 rm) s (execFcvtDS rd rs1 rm s) := effect_fpConvert rfl _ _ _ _ _
theorem execFcvtSQ_effect (rd : BitVec 5) (rs1 : BitVec 5) (rm : BitVec 3) :
    Effect (.fcvtSQ rd rs1 rm) s (execFcvtSQ rd rs1 rm s) := effect_fpConvert rfl _ _ _ _ _
theorem execFcvtQS_effect (rd : BitVec 5) (rs1 : BitVec 5) (rm : BitVec 3) :
    Effect (.fcvtQS rd rs1 rm) s (execFcvtQS rd rs1 rm s) := effect_fpConvert rfl _ _ _ _ _
theorem execFcvtDQ_effect (rd : BitVec 5) (rs1 : BitVec 5) (rm : BitVec 3) :
    Effect (.fcvtDQ rd rs1 rm) s (execFcvtDQ rd rs1 rm s) := effect_fpConvert rfl _ _ _ _ _
theorem execFcvtQD_effect (rd : BitVec 5) (rs1 : BitVec 5) (rm : BitVec 3) :
    Effect (.fcvtQD rd rs1 rm) s (execFcvtQD rd rs1 rm s) := effect_fpConvert rfl _ _ _ _ _
theorem execFcvtSH_effect (rd : BitVec 5) (rs1 : BitVec 5) (rm : BitVec 3) :
    Effect (.fcvtSH rd rs1 rm) s (execFcvtSH rd rs1 rm s) := effect_fpConvert rfl _ _ _ _ _
theorem execFcvtHS_effect (rd : BitVec 5) (rs1 : BitVec 5) (rm : BitVec 3) :
    Effect (.fcvtHS rd rs1 rm) s (execFcvtHS rd rs1 rm s) := effect_fpConvert rfl _ _ _ _ _
theorem execFcvtDH_effect (rd : BitVec 5) (rs1 : BitVec 5) (rm : BitVec 3) :
    Effect (.fcvtDH rd rs1 rm) s (execFcvtDH rd rs1 rm s) := effect_fpConvert rfl _ _ _ _ _
theorem execFcvtHD_effect (rd : BitVec 5) (rs1 : BitVec 5) (rm : BitVec 3) :
    Effect (.fcvtHD rd rs1 rm) s (execFcvtHD rd rs1 rm s) := effect_fpConvert rfl _ _ _ _ _
theorem execFcvtQH_effect (rd : BitVec 5) (rs1 : BitVec 5) (rm : BitVec 3) :
    Effect (.fcvtQH rd rs1 rm) s (execFcvtQH rd rs1 rm s) := effect_fpConvert rfl _ _ _ _ _
theorem execFcvtHQ_effect (rd : BitVec 5) (rs1 : BitVec 5) (rm : BitVec 3) :
    Effect (.fcvtHQ rd rs1 rm) s (execFcvtHQ rd rs1 rm s) := effect_fpConvert rfl _ _ _ _ _
theorem execFliS_effect (rd : BitVec 5) (idx : BitVec 5) : Effect (.fliS rd idx) s (execFliS rd idx s) := effect_setFp rfl _ _
theorem execFminmS_effect (rd : BitVec 5) (rs1 : BitVec 5) (rs2 : BitVec 5) :
    Effect (.fminmS rd rs1 rs2) s (execFminmS rd rs1 rs2 s) := effect_putFp rfl _ _ _
theorem execFmaxmS_effect (rd : BitVec 5) (rs1 : BitVec 5) (rs2 : BitVec 5) :
    Effect (.fmaxmS rd rs1 rs2) s (execFmaxmS rd rs1 rs2 s) := effect_putFp rfl _ _ _
theorem execFroundS_effect (rd : BitVec 5) (rs1 : BitVec 5) (rm : BitVec 3) :
    Effect (.froundS rd rs1 rm) s (execFroundS rd rs1 rm s) := effect_fpRound rfl _ _ _ _ _
theorem execFroundnxS_effect (rd : BitVec 5) (rs1 : BitVec 5) (rm : BitVec 3) :
    Effect (.froundnxS rd rs1 rm) s (execFroundnxS rd rs1 rm s) := effect_fpRound rfl _ _ _ _ _
theorem execFleqS_effect (rd : BitVec 5) (rs1 : BitVec 5) (rs2 : BitVec 5) :
    Effect (.fleqS rd rs1 rs2) s (execFleqS rd rs1 rs2 s) := effect_putX rfl _ _ _
theorem execFltqS_effect (rd : BitVec 5) (rs1 : BitVec 5) (rs2 : BitVec 5) :
    Effect (.fltqS rd rs1 rs2) s (execFltqS rd rs1 rs2 s) := effect_putX rfl _ _ _
theorem execFliD_effect (rd : BitVec 5) (idx : BitVec 5) : Effect (.fliD rd idx) s (execFliD rd idx s) := effect_setFp rfl _ _
theorem execFminmD_effect (rd : BitVec 5) (rs1 : BitVec 5) (rs2 : BitVec 5) :
    Effect (.fminmD rd rs1 rs2) s (execFminmD rd rs1 rs2 s) := effect_putFp rfl _ _ _
theorem execFmaxmD_effect (rd : BitVec 5) (rs1 : BitVec 5) (rs2 : BitVec 5) :
    Effect (.fmaxmD rd rs1 rs2) s (execFmaxmD rd rs1 rs2 s) := effect_putFp rfl _ _ _
theorem execFroundD_effect (rd : BitVec 5) (rs1 : BitVec 5) (rm : BitVec 3) :
    Effect (.froundD rd rs1 rm) s (execFroundD rd rs1 rm s) := effect_fpRound rfl _ _ _ _ _
theorem execFroundnxD_effect (rd : BitVec 5) (rs1 : BitVec 5) (rm : BitVec 3) :
    Effect (.froundnxD rd rs1 rm) s (execFroundnxD rd rs1 rm s) := effect_fpRound rfl _ _ _ _ _
theorem execFleqD_effect (rd : BitVec 5) (rs1 : BitVec 5) (rs2 : BitVec 5) :
    Effect (.fleqD rd rs1 rs2) s (execFleqD rd rs1 rs2 s) := effect_putX rfl _ _ _
theorem execFltqD_effect (rd : BitVec 5) (rs1 : BitVec 5) (rs2 : BitVec 5) :
    Effect (.fltqD rd rs1 rs2) s (execFltqD rd rs1 rs2 s) := effect_putX rfl _ _ _
theorem execFliH_effect (rd : BitVec 5) (idx : BitVec 5) : Effect (.fliH rd idx) s (execFliH rd idx s) := effect_setFp rfl _ _
theorem execFminmH_effect (rd : BitVec 5) (rs1 : BitVec 5) (rs2 : BitVec 5) :
    Effect (.fminmH rd rs1 rs2) s (execFminmH rd rs1 rs2 s) := effect_putFp rfl _ _ _
theorem execFmaxmH_effect (rd : BitVec 5) (rs1 : BitVec 5) (rs2 : BitVec 5) :
    Effect (.fmaxmH rd rs1 rs2) s (execFmaxmH rd rs1 rs2 s) := effect_putFp rfl _ _ _
theorem execFroundH_effect (rd : BitVec 5) (rs1 : BitVec 5) (rm : BitVec 3) :
    Effect (.froundH rd rs1 rm) s (execFroundH rd rs1 rm s) := effect_fpRound rfl _ _ _ _ _
theorem execFroundnxH_effect (rd : BitVec 5) (rs1 : BitVec 5) (rm : BitVec 3) :
    Effect (.froundnxH rd rs1 rm) s (execFroundnxH rd rs1 rm s) := effect_fpRound rfl _ _ _ _ _
theorem execFleqH_effect (rd : BitVec 5) (rs1 : BitVec 5) (rs2 : BitVec 5) :
    Effect (.fleqH rd rs1 rs2) s (execFleqH rd rs1 rs2 s) := effect_putX rfl _ _ _
theorem execFltqH_effect (rd : BitVec 5) (rs1 : BitVec 5) (rs2 : BitVec 5) :
    Effect (.fltqH rd rs1 rs2) s (execFltqH rd rs1 rs2 s) := effect_putX rfl _ _ _
theorem execFliQ_effect (rd : BitVec 5) (idx : BitVec 5) : Effect (.fliQ rd idx) s (execFliQ rd idx s) := effect_setFp rfl _ _
theorem execFminmQ_effect (rd : BitVec 5) (rs1 : BitVec 5) (rs2 : BitVec 5) :
    Effect (.fminmQ rd rs1 rs2) s (execFminmQ rd rs1 rs2 s) := effect_putFp rfl _ _ _
theorem execFmaxmQ_effect (rd : BitVec 5) (rs1 : BitVec 5) (rs2 : BitVec 5) :
    Effect (.fmaxmQ rd rs1 rs2) s (execFmaxmQ rd rs1 rs2 s) := effect_putFp rfl _ _ _
theorem execFroundQ_effect (rd : BitVec 5) (rs1 : BitVec 5) (rm : BitVec 3) :
    Effect (.froundQ rd rs1 rm) s (execFroundQ rd rs1 rm s) := effect_fpRound rfl _ _ _ _ _
theorem execFroundnxQ_effect (rd : BitVec 5) (rs1 : BitVec 5) (rm : BitVec 3) :
    Effect (.froundnxQ rd rs1 rm) s (execFroundnxQ rd rs1 rm s) := effect_fpRound rfl _ _ _ _ _
theorem execFleqQ_effect (rd : BitVec 5) (rs1 : BitVec 5) (rs2 : BitVec 5) :
    Effect (.fleqQ rd rs1 rs2) s (execFleqQ rd rs1 rs2 s) := effect_putX rfl _ _ _
theorem execFltqQ_effect (rd : BitVec 5) (rs1 : BitVec 5) (rs2 : BitVec 5) :
    Effect (.fltqQ rd rs1 rs2) s (execFltqQ rd rs1 rs2 s) := effect_putX rfl _ _ _
theorem execFcvtmodWD_effect (rd : BitVec 5) (rs1 : BitVec 5) : Effect (.fcvtmodWD rd rs1) s (execFcvtmodWD rd rs1 s) := effect_putX rfl _ _ _
theorem execFmvhXD_effect (rd : BitVec 5) (rs1 : BitVec 5) : Effect (.fmvhXD rd rs1) s (execFmvhXD rd rs1 s) := effect_setX rfl _ _
theorem execFmvpDX_effect (rd : BitVec 5) (rs1 : BitVec 5) (rs2 : BitVec 5) :
    Effect (.fmvpDX rd rs1 rs2) s (execFmvpDX rd rs1 rs2 s) := effect_setF rfl _ _
theorem execFmvhXQ_effect (rd : BitVec 5) (rs1 : BitVec 5) : Effect (.fmvhXQ rd rs1) s (execFmvhXQ rd rs1 s) := effect_setX rfl _ _
theorem execFmvpQX_effect (rd : BitVec 5) (rs1 : BitVec 5) (rs2 : BitVec 5) :
    Effect (.fmvpQX rd rs1 rs2) s (execFmvpQX rd rs1 rs2 s) := effect_setF rfl _ _
theorem execCboInval_effect (rs1 : BitVec 5) : Effect (.cboInval rs1) s (execCboInval rs1 s) := effect_cboManage rfl _ _
theorem execCboClean_effect (rs1 : BitVec 5) : Effect (.cboClean rs1) s (execCboClean rs1 s) := effect_cboManage rfl _ _
theorem execCboFlush_effect (rs1 : BitVec 5) : Effect (.cboFlush rs1) s (execCboFlush rs1 s) := effect_cboManage rfl _ _
theorem execCboZero_effect (rs1 : BitVec 5) : Effect (.cboZero rs1) s (execCboZero rs1 s) := effect_cboZero rfl rfl _
theorem execPrefetchI_effect (rs1 : BitVec 5) (off : BitVec 7) : Effect (.prefetchI rs1 off) s (execPrefetchI rs1 off s) := effect_retire rfl .refl
theorem execPrefetchR_effect (rs1 : BitVec 5) (off : BitVec 7) : Effect (.prefetchR rs1 off) s (execPrefetchR rs1 off s) := effect_retire rfl .refl
theorem execPrefetchW_effect (rs1 : BitVec 5) (off : BitVec 7) : Effect (.prefetchW rs1 off) s (execPrefetchW rs1 off s) := effect_retire rfl .refl
theorem execWrsNto_effect : Effect (.wrsNto) s (execWrsNto s) := effect_wait rfl
theorem execWrsSto_effect : Effect (.wrsSto) s (execWrsSto s) := effect_wait rfl
theorem execMopR0_effect (rd : BitVec 5) (rs1 : BitVec 5) : Effect (.mopR0 rd rs1) s (execMopR0 rd rs1 s) := effect_setX rfl _ _
theorem execMopR1_effect (rd : BitVec 5) (rs1 : BitVec 5) : Effect (.mopR1 rd rs1) s (execMopR1 rd rs1 s) := effect_setX rfl _ _
theorem execMopR2_effect (rd : BitVec 5) (rs1 : BitVec 5) : Effect (.mopR2 rd rs1) s (execMopR2 rd rs1 s) := effect_setX rfl _ _
theorem execMopR3_effect (rd : BitVec 5) (rs1 : BitVec 5) : Effect (.mopR3 rd rs1) s (execMopR3 rd rs1 s) := effect_setX rfl _ _
theorem execMopR4_effect (rd : BitVec 5) (rs1 : BitVec 5) : Effect (.mopR4 rd rs1) s (execMopR4 rd rs1 s) := effect_setX rfl _ _
theorem execMopR5_effect (rd : BitVec 5) (rs1 : BitVec 5) : Effect (.mopR5 rd rs1) s (execMopR5 rd rs1 s) := effect_setX rfl _ _
theorem execMopR6_effect (rd : BitVec 5) (rs1 : BitVec 5) : Effect (.mopR6 rd rs1) s (execMopR6 rd rs1 s) := effect_setX rfl _ _
theorem execMopR7_effect (rd : BitVec 5) (rs1 : BitVec 5) : Effect (.mopR7 rd rs1) s (execMopR7 rd rs1 s) := effect_setX rfl _ _
theorem execMopR8_effect (rd : BitVec 5) (rs1 : BitVec 5) : Effect (.mopR8 rd rs1) s (execMopR8 rd rs1 s) := effect_setX rfl _ _
theorem execMopR9_effect (rd : BitVec 5) (rs1 : BitVec 5) : Effect (.mopR9 rd rs1) s (execMopR9 rd rs1 s) := effect_setX rfl _ _
theorem execMopR10_effect (rd : BitVec 5) (rs1 : BitVec 5) : Effect (.mopR10 rd rs1) s (execMopR10 rd rs1 s) := effect_setX rfl _ _
theorem execMopR11_effect (rd : BitVec 5) (rs1 : BitVec 5) : Effect (.mopR11 rd rs1) s (execMopR11 rd rs1 s) := effect_setX rfl _ _
theorem execMopR12_effect (rd : BitVec 5) (rs1 : BitVec 5) : Effect (.mopR12 rd rs1) s (execMopR12 rd rs1 s) := effect_setX rfl _ _
theorem execMopR13_effect (rd : BitVec 5) (rs1 : BitVec 5) : Effect (.mopR13 rd rs1) s (execMopR13 rd rs1 s) := effect_setX rfl _ _
theorem execMopR14_effect (rd : BitVec 5) (rs1 : BitVec 5) : Effect (.mopR14 rd rs1) s (execMopR14 rd rs1 s) := effect_setX rfl _ _
theorem execMopR15_effect (rd : BitVec 5) (rs1 : BitVec 5) : Effect (.mopR15 rd rs1) s (execMopR15 rd rs1 s) := effect_setX rfl _ _
theorem execMopR16_effect (rd : BitVec 5) (rs1 : BitVec 5) : Effect (.mopR16 rd rs1) s (execMopR16 rd rs1 s) := effect_setX rfl _ _
theorem execMopR17_effect (rd : BitVec 5) (rs1 : BitVec 5) : Effect (.mopR17 rd rs1) s (execMopR17 rd rs1 s) := effect_setX rfl _ _
theorem execMopR18_effect (rd : BitVec 5) (rs1 : BitVec 5) : Effect (.mopR18 rd rs1) s (execMopR18 rd rs1 s) := effect_setX rfl _ _
theorem execMopR19_effect (rd : BitVec 5) (rs1 : BitVec 5) : Effect (.mopR19 rd rs1) s (execMopR19 rd rs1 s) := effect_setX rfl _ _
theorem execMopR20_effect (rd : BitVec 5) (rs1 : BitVec 5) : Effect (.mopR20 rd rs1) s (execMopR20 rd rs1 s) := effect_setX rfl _ _
theorem execMopR21_effect (rd : BitVec 5) (rs1 : BitVec 5) : Effect (.mopR21 rd rs1) s (execMopR21 rd rs1 s) := effect_setX rfl _ _
theorem execMopR22_effect (rd : BitVec 5) (rs1 : BitVec 5) : Effect (.mopR22 rd rs1) s (execMopR22 rd rs1 s) := effect_setX rfl _ _
theorem execMopR23_effect (rd : BitVec 5) (rs1 : BitVec 5) : Effect (.mopR23 rd rs1) s (execMopR23 rd rs1 s) := effect_setX rfl _ _
theorem execMopR24_effect (rd : BitVec 5) (rs1 : BitVec 5) : Effect (.mopR24 rd rs1) s (execMopR24 rd rs1 s) := effect_setX rfl _ _
theorem execMopR25_effect (rd : BitVec 5) (rs1 : BitVec 5) : Effect (.mopR25 rd rs1) s (execMopR25 rd rs1 s) := effect_setX rfl _ _
theorem execMopR26_effect (rd : BitVec 5) (rs1 : BitVec 5) : Effect (.mopR26 rd rs1) s (execMopR26 rd rs1 s) := effect_setX rfl _ _
theorem execMopR27_effect (rd : BitVec 5) (rs1 : BitVec 5) : Effect (.mopR27 rd rs1) s (execMopR27 rd rs1 s) := effect_setX rfl _ _
theorem execMopR28_effect (rd : BitVec 5) (rs1 : BitVec 5) : Effect (.mopR28 rd rs1) s (execMopR28 rd rs1 s) := effect_setX rfl _ _
theorem execMopR29_effect (rd : BitVec 5) (rs1 : BitVec 5) : Effect (.mopR29 rd rs1) s (execMopR29 rd rs1 s) := effect_setX rfl _ _
theorem execMopR30_effect (rd : BitVec 5) (rs1 : BitVec 5) : Effect (.mopR30 rd rs1) s (execMopR30 rd rs1 s) := effect_setX rfl _ _
theorem execMopR31_effect (rd : BitVec 5) (rs1 : BitVec 5) : Effect (.mopR31 rd rs1) s (execMopR31 rd rs1 s) := effect_setX rfl _ _
theorem execMopRr0_effect (rd : BitVec 5) (rs1 : BitVec 5) (rs2 : BitVec 5) :
    Effect (.mopRr0 rd rs1 rs2) s (execMopRr0 rd rs1 rs2 s) := effect_setX rfl _ _
theorem execMopRr1_effect (rd : BitVec 5) (rs1 : BitVec 5) (rs2 : BitVec 5) :
    Effect (.mopRr1 rd rs1 rs2) s (execMopRr1 rd rs1 rs2 s) := effect_setX rfl _ _
theorem execMopRr2_effect (rd : BitVec 5) (rs1 : BitVec 5) (rs2 : BitVec 5) :
    Effect (.mopRr2 rd rs1 rs2) s (execMopRr2 rd rs1 rs2 s) := effect_setX rfl _ _
theorem execMopRr3_effect (rd : BitVec 5) (rs1 : BitVec 5) (rs2 : BitVec 5) :
    Effect (.mopRr3 rd rs1 rs2) s (execMopRr3 rd rs1 rs2 s) := effect_setX rfl _ _
theorem execMopRr4_effect (rd : BitVec 5) (rs1 : BitVec 5) (rs2 : BitVec 5) :
    Effect (.mopRr4 rd rs1 rs2) s (execMopRr4 rd rs1 rs2 s) := effect_setX rfl _ _
theorem execMopRr5_effect (rd : BitVec 5) (rs1 : BitVec 5) (rs2 : BitVec 5) :
    Effect (.mopRr5 rd rs1 rs2) s (execMopRr5 rd rs1 rs2 s) := effect_setX rfl _ _
theorem execMopRr6_effect (rd : BitVec 5) (rs1 : BitVec 5) (rs2 : BitVec 5) :
    Effect (.mopRr6 rd rs1 rs2) s (execMopRr6 rd rs1 rs2 s) := effect_setX rfl _ _
theorem execMopRr7_effect (rd : BitVec 5) (rs1 : BitVec 5) (rs2 : BitVec 5) :
    Effect (.mopRr7 rd rs1 rs2) s (execMopRr7 rd rs1 rs2 s) := effect_setX rfl _ _
theorem execCIllegal_effect : Effect (.cIllegal) s (execCIllegal s) := effect_raise rfl .refl _
theorem execCAddi4spn_effect (rdp : BitVec 3) (nzuimm : BitVec 8) : Effect (.cAddi4spn rdp nzuimm) s (execCAddi4spn rdp nzuimm s) := effect_setX rfl _ _
theorem execCFld_effect (rdp : BitVec 3) (rs1p : BitVec 3) (uimm : BitVec 5) :
    Effect (.cFld rdp rs1p uimm) s (execCFld rdp rs1p uimm s) := effect_loadF rfl _ _ _
theorem execCLq_effect (rdp : BitVec 3) (rs1p : BitVec 3) (uimm : BitVec 5) :
    Effect (.cLq rdp rs1p uimm) s (execCLq rdp rs1p uimm s) := effect_loadX rfl _ _ _ _
theorem execCLw_effect (rdp : BitVec 3) (rs1p : BitVec 3) (uimm : BitVec 5) :
    Effect (.cLw rdp rs1p uimm) s (execCLw rdp rs1p uimm s) := effect_loadX rfl _ _ _ _
theorem execCFlw_effect (rdp : BitVec 3) (rs1p : BitVec 3) (uimm : BitVec 5) :
    Effect (.cFlw rdp rs1p uimm) s (execCFlw rdp rs1p uimm s) := effect_loadF rfl _ _ _
theorem execCLd_effect (rdp : BitVec 3) (rs1p : BitVec 3) (uimm : BitVec 5) :
    Effect (.cLd rdp rs1p uimm) s (execCLd rdp rs1p uimm s) := effect_loadX rfl _ _ _ _
theorem execCFsd_effect (rs1p : BitVec 3) (rs2p : BitVec 3) (uimm : BitVec 5) :
    Effect (.cFsd rs1p rs2p uimm) s (execCFsd rs1p rs2p uimm s) := effect_storeF rfl rfl _ _ _
theorem execCSq_effect (rs1p : BitVec 3) (rs2p : BitVec 3) (uimm : BitVec 5) :
    Effect (.cSq rs1p rs2p uimm) s (execCSq rs1p rs2p uimm s) := effect_storeX rfl rfl _ _ _
theorem execCSw_effect (rs1p : BitVec 3) (rs2p : BitVec 3) (uimm : BitVec 5) :
    Effect (.cSw rs1p rs2p uimm) s (execCSw rs1p rs2p uimm s) := effect_storeX rfl rfl _ _ _
theorem execCFsw_effect (rs1p : BitVec 3) (rs2p : BitVec 3) (uimm : BitVec 5) :
    Effect (.cFsw rs1p rs2p uimm) s (execCFsw rs1p rs2p uimm s) := effect_storeF rfl rfl _ _ _
theorem execCSd_effect (rs1p : BitVec 3) (rs2p : BitVec 3) (uimm : BitVec 5) :
    Effect (.cSd rs1p rs2p uimm) s (execCSd rs1p rs2p uimm s) := effect_storeX rfl rfl _ _ _
theorem execCNop_effect (imm : BitVec 6) : Effect (.cNop imm) s (execCNop imm s) := effect_retire rfl .refl
theorem execCAddi_effect (rd : BitVec 5) (imm : BitVec 6) : Effect (.cAddi rd imm) s (execCAddi rd imm s) := effect_setX rfl _ _
theorem execCJal_effect (off : BitVec 11) : Effect (.cJal off) s (execCJal off s) := effect_jump rfl 1 (fun s => s.pcRel off) (pcRel_even s off)
theorem execCAddiw_effect (rd : BitVec 5) (imm : BitVec 6) : Effect (.cAddiw rd imm) s (execCAddiw rd imm s) := effect_setX rfl _ _
theorem execCLi_effect (rd : BitVec 5) (imm : BitVec 6) : Effect (.cLi rd imm) s (execCLi rd imm s) := effect_setX rfl _ _
theorem execCAddi16sp_effect (nzimm : BitVec 6) : Effect (.cAddi16sp nzimm) s (execCAddi16sp nzimm s) := effect_setX rfl _ _
theorem execCLui_effect (rd : BitVec 5) (imm : BitVec 6) : Effect (.cLui rd imm) s (execCLui rd imm s) := effect_setX rfl _ _
theorem execCMop1_effect : Effect (.cMop1) s (execCMop1 s) := effect_retire rfl .refl
theorem execCMop3_effect : Effect (.cMop3) s (execCMop3 s) := effect_retire rfl .refl
theorem execCMop5_effect : Effect (.cMop5) s (execCMop5 s) := effect_retire rfl .refl
theorem execCMop7_effect : Effect (.cMop7) s (execCMop7 s) := effect_retire rfl .refl
theorem execCMop9_effect : Effect (.cMop9) s (execCMop9 s) := effect_retire rfl .refl
theorem execCMop11_effect : Effect (.cMop11) s (execCMop11 s) := effect_retire rfl .refl
theorem execCMop13_effect : Effect (.cMop13) s (execCMop13 s) := effect_retire rfl .refl
theorem execCMop15_effect : Effect (.cMop15) s (execCMop15 s) := effect_retire rfl .refl
theorem execCSrli_effect (rdp : BitVec 3) (shamt : BitVec 6) : Effect (.cSrli rdp shamt) s (execCSrli rdp shamt s) := effect_setX rfl _ _
theorem execCSrai_effect (rdp : BitVec 3) (shamt : BitVec 6) : Effect (.cSrai rdp shamt) s (execCSrai rdp shamt s) := effect_setX rfl _ _
theorem execCAndi_effect (rdp : BitVec 3) (imm : BitVec 6) : Effect (.cAndi rdp imm) s (execCAndi rdp imm s) := effect_setX rfl _ _
theorem execCSub_effect (rdp : BitVec 3) (rs2p : BitVec 3) : Effect (.cSub rdp rs2p) s (execCSub rdp rs2p s) := effect_setX rfl _ _
theorem execCXor_effect (rdp : BitVec 3) (rs2p : BitVec 3) : Effect (.cXor rdp rs2p) s (execCXor rdp rs2p s) := effect_setX rfl _ _
theorem execCOr_effect (rdp : BitVec 3) (rs2p : BitVec 3) : Effect (.cOr rdp rs2p) s (execCOr rdp rs2p s) := effect_setX rfl _ _
theorem execCAnd_effect (rdp : BitVec 3) (rs2p : BitVec 3) : Effect (.cAnd rdp rs2p) s (execCAnd rdp rs2p s) := effect_setX rfl _ _
theorem execCSubw_effect (rdp : BitVec 3) (rs2p : BitVec 3) : Effect (.cSubw rdp rs2p) s (execCSubw rdp rs2p s) := effect_setX rfl _ _
theorem execCAddw_effect (rdp : BitVec 3) (rs2p : BitVec 3) : Effect (.cAddw rdp rs2p) s (execCAddw rdp rs2p s) := effect_setX rfl _ _
theorem execCJ_effect (off : BitVec 11) : Effect (.cJ off) s (execCJ off s) := effect_jump rfl 0 (fun s => s.pcRel off) (pcRel_even s off)
theorem execCBeqz_effect (rs1p : BitVec 3) (off : BitVec 8) : Effect (.cBeqz rs1p off) s (execCBeqz rs1p off s) := effect_branch rfl _ _ _ _
theorem execCBnez_effect (rs1p : BitVec 3) (off : BitVec 8) : Effect (.cBnez rs1p off) s (execCBnez rs1p off s) := effect_branch rfl _ _ _ _
theorem execCSlli_effect (rd : BitVec 5) (shamt : BitVec 6) : Effect (.cSlli rd shamt) s (execCSlli rd shamt s) := effect_setX rfl _ _
theorem execCFldsp_effect (rd : BitVec 5) (uimm : BitVec 6) : Effect (.cFldsp rd uimm) s (execCFldsp rd uimm s) := effect_loadF rfl _ _ _
theorem execCLqsp_effect (rd : BitVec 5) (uimm : BitVec 6) : Effect (.cLqsp rd uimm) s (execCLqsp rd uimm s) := effect_loadX rfl _ _ _ _
theorem execCLwsp_effect (rd : BitVec 5) (uimm : BitVec 6) : Effect (.cLwsp rd uimm) s (execCLwsp rd uimm s) := effect_loadX rfl _ _ _ _
theorem execCFlwsp_effect (rd : BitVec 5) (uimm : BitVec 6) : Effect (.cFlwsp rd uimm) s (execCFlwsp rd uimm s) := effect_loadF rfl _ _ _
theorem execCLdsp_effect (rd : BitVec 5) (uimm : BitVec 6) : Effect (.cLdsp rd uimm) s (execCLdsp rd uimm s) := effect_loadX rfl _ _ _ _
theorem execCJr_effect (rs1 : BitVec 5) : Effect (.cJr rs1) s (execCJr rs1 s) := effect_jump rfl 0 (fun s => s.jalrTarget rs1 0) fun _ => clear_even (bits_pos _) _
theorem execCMv_effect (rd : BitVec 5) (rs2 : BitVec 5) : Effect (.cMv rd rs2) s (execCMv rd rs2 s) := effect_setX rfl _ _
theorem execCEbreak_effect : Effect (.cEbreak) s (execCEbreak s) := effect_raise rfl .refl _
theorem execCJalr_effect (rs1 : BitVec 5) : Effect (.cJalr rs1) s (execCJalr rs1 s) := effect_jump rfl 1 (fun s => s.jalrTarget rs1 0) fun _ => clear_even (bits_pos _) _
theorem execCAdd_effect (rd : BitVec 5) (rs2 : BitVec 5) : Effect (.cAdd rd rs2) s (execCAdd rd rs2 s) := effect_setX rfl _ _
theorem execCFsdsp_effect (rs2 : BitVec 5) (uimm : BitVec 6) : Effect (.cFsdsp rs2 uimm) s (execCFsdsp rs2 uimm s) := effect_storeF rfl rfl _ _ _
theorem execCSqsp_effect (rs2 : BitVec 5) (uimm : BitVec 6) : Effect (.cSqsp rs2 uimm) s (execCSqsp rs2 uimm s) := effect_storeX rfl rfl _ _ _
theorem execCSwsp_effect (rs2 : BitVec 5) (uimm : BitVec 6) : Effect (.cSwsp rs2 uimm) s (execCSwsp rs2 uimm s) := effect_storeX rfl rfl _ _ _
theorem execCFswsp_effect (rs2 : BitVec 5) (uimm : BitVec 6) : Effect (.cFswsp rs2 uimm) s (execCFswsp rs2 uimm s) := effect_storeF rfl rfl _ _ _
theorem execCSdsp_effect (rs2 : BitVec 5) (uimm : BitVec 6) : Effect (.cSdsp rs2 uimm) s (execCSdsp rs2 uimm s) := effect_storeX rfl rfl _ _ _
theorem execCLbu_effect (rdp : BitVec 3) (rs1p : BitVec 3) (uimm : BitVec 2) :
    Effect (.cLbu rdp rs1p uimm) s (execCLbu rdp rs1p uimm s) := effect_loadX rfl _ _ _ _
theorem execCLhu_effect (rdp : BitVec 3) (rs1p : BitVec 3) (uimm : BitVec 1) :
    Effect (.cLhu rdp rs1p uimm) s (execCLhu rdp rs1p uimm s) := effect_loadX rfl _ _ _ _
theorem execCLh_effect (rdp : BitVec 3) (rs1p : BitVec 3) (uimm : BitVec 1) :
    Effect (.cLh rdp rs1p uimm) s (execCLh rdp rs1p uimm s) := effect_loadX rfl _ _ _ _
theorem execCSb_effect (rs1p : BitVec 3) (rs2p : BitVec 3) (uimm : BitVec 2) :
    Effect (.cSb rs1p rs2p uimm) s (execCSb rs1p rs2p uimm s) := effect_storeX rfl rfl _ _ _
theorem execCSh_effect (rs1p : BitVec 3) (rs2p : BitVec 3) (uimm : BitVec 1) :
    Effect (.cSh rs1p rs2p uimm) s (execCSh rs1p rs2p uimm s) := effect_storeX rfl rfl _ _ _
theorem execCZextB_effect (rdp : BitVec 3) : Effect (.cZextB rdp) s (execCZextB rdp s) := effect_setX rfl _ _
theorem execCSextB_effect (rdp : BitVec 3) : Effect (.cSextB rdp) s (execCSextB rdp s) := effect_setX rfl _ _
theorem execCZextH_effect (rdp : BitVec 3) : Effect (.cZextH rdp) s (execCZextH rdp s) := effect_setX rfl _ _
theorem execCSextH_effect (rdp : BitVec 3) : Effect (.cSextH rdp) s (execCSextH rdp s) := effect_setX rfl _ _
theorem execCZextW_effect (rdp : BitVec 3) : Effect (.cZextW rdp) s (execCZextW rdp s) := effect_setX rfl _ _
theorem execCNot_effect (rdp : BitVec 3) : Effect (.cNot rdp) s (execCNot rdp s) := effect_setX rfl _ _
theorem execCMul_effect (rdp : BitVec 3) (rs2p : BitVec 3) : Effect (.cMul rdp rs2p) s (execCMul rdp rs2p s) := effect_setX rfl _ _
theorem execCmPush_effect (rlist : BitVec 4) (spimm : BitVec 2) : Effect (.cmPush rlist spimm) s (execCmPush rlist spimm s) := effect_push rfl rfl _ _
theorem execCmPop_effect (rlist : BitVec 4) (spimm : BitVec 2) : Effect (.cmPop rlist spimm) s (execCmPop rlist spimm s) := effect_pop rfl _ _
theorem execCmPopretz_effect (rlist : BitVec 4) (spimm : BitVec 2) : Effect (.cmPopretz rlist spimm) s (execCmPopretz rlist spimm s) := effect_popRet rfl _ _ _
theorem execCmPopret_effect (rlist : BitVec 4) (spimm : BitVec 2) : Effect (.cmPopret rlist spimm) s (execCmPopret rlist spimm s) := effect_popRet rfl _ _ _
theorem execCmMvsa01_effect (r1s : BitVec 3) (r2s : BitVec 3) : Effect (.cmMvsa01 r1s r2s) s (execCmMvsa01 r1s r2s s) := effect_moveTwo rfl _ _ _ _
theorem execCmMva01s_effect (r1s : BitVec 3) (r2s : BitVec 3) : Effect (.cmMva01s r1s r2s) s (execCmMva01s r1s r2s s) := effect_moveTwo rfl _ _ _ _
theorem execCmJt_effect (index : BitVec 5) : Effect (.cmJt index) s (execCmJt index s) := effect_tableJump rfl _ _
theorem execCmJalt_effect (index : BitVec 8) : Effect (.cmJalt index) s (execCmJalt index s) := effect_tableJump rfl _ _

/-- Executing any instruction in any state answers a next state: a chain of updates, then retirement, a transfer of
control, an exception, or the beginning of a stall. -/
theorem exec_effect (i : Instr) (s : State) : Effect i s (exec i s) := by
  cases i with
  | addi _ _ _ => exact execAddi_effect _ _ _
  | slti _ _ _ => exact execSlti_effect _ _ _
  | sltiu _ _ _ => exact execSltiu_effect _ _ _
  | xori _ _ _ => exact execXori_effect _ _ _
  | ori _ _ _ => exact execOri_effect _ _ _
  | andi _ _ _ => exact execAndi_effect _ _ _
  | slliRv32 _ _ _ => exact execSlliRv32_effect _ _ _
  | slliRv64 _ _ _ => exact execSlliRv64_effect _ _ _
  | slliRv128 _ _ _ => exact execSlliRv128_effect _ _ _
  | srliRv32 _ _ _ => exact execSrliRv32_effect _ _ _
  | srliRv64 _ _ _ => exact execSrliRv64_effect _ _ _
  | srliRv128 _ _ _ => exact execSrliRv128_effect _ _ _
  | sraiRv32 _ _ _ => exact execSraiRv32_effect _ _ _
  | sraiRv64 _ _ _ => exact execSraiRv64_effect _ _ _
  | sraiRv128 _ _ _ => exact execSraiRv128_effect _ _ _
  | lui _ _ => exact execLui_effect _ _
  | auipc _ _ => exact execAuipc_effect _ _
  | add _ _ _ => exact execAdd_effect _ _ _
  | sub _ _ _ => exact execSub_effect _ _ _
  | sll _ _ _ => exact execSll_effect _ _ _
  | slt _ _ _ => exact execSlt_effect _ _ _
  | sltu _ _ _ => exact execSltu_effect _ _ _
  | xor _ _ _ => exact execXor_effect _ _ _
  | srl _ _ _ => exact execSrl_effect _ _ _
  | sra _ _ _ => exact execSra_effect _ _ _
  | or _ _ _ => exact execOr_effect _ _ _
  | and _ _ _ => exact execAnd_effect _ _ _
  | jal _ _ => exact execJal_effect _ _
  | jalr _ _ _ => exact execJalr_effect _ _ _
  | beq _ _ _ => exact execBeq_effect _ _ _
  | bne _ _ _ => exact execBne_effect _ _ _
  | blt _ _ _ => exact execBlt_effect _ _ _
  | bge _ _ _ => exact execBge_effect _ _ _
  | bltu _ _ _ => exact execBltu_effect _ _ _
  | bgeu _ _ _ => exact execBgeu_effect _ _ _
  | lb _ _ _ => exact execLb_effect _ _ _
  | lh _ _ _ => exact execLh_effect _ _ _
  | lw _ _ _ => exact execLw_effect _ _ _
  | lbu _ _ _ => exact execLbu_effect _ _ _
  | lhu _ _ _ => exact execLhu_effect _ _ _
  | sb _ _ _ => exact execSb_effect _ _ _
  | sh _ _ _ => exact execSh_effect _ _ _
  | sw _ _ _ => exact execSw_effect _ _ _
  | fence _ _ _ _ _ => exact execFence_effect _ _ _ _ _
  | fenceTso _ _ => exact execFenceTso_effect _ _
  | pause => exact execPause_effect
  | ecall => exact execEcall_effect
  | ebreak => exact execEbreak_effect
  | fenceI _ _ _ => exact execFenceI_effect _ _ _
  | ntlP1 => exact execNtlP1_effect
  | ntlPall => exact execNtlPall_effect
  | ntlS1 => exact execNtlS1_effect
  | ntlAll => exact execNtlAll_effect
  | cNtlP1 => exact execCNtlP1_effect
  | cNtlPall => exact execCNtlPall_effect
  | cNtlS1 => exact execCNtlS1_effect
  | cNtlAll => exact execCNtlAll_effect
  | addiw _ _ _ => exact execAddiw_effect _ _ _
  | slliw _ _ _ => exact execSlliw_effect _ _ _
  | srliw _ _ _ => exact execSrliw_effect _ _ _
  | sraiw _ _ _ => exact execSraiw_effect _ _ _
  | addw _ _ _ => exact execAddw_effect _ _ _
  | subw _ _ _ => exact execSubw_effect _ _ _
  | sllw _ _ _ => exact execSllw_effect _ _ _
  | srlw _ _ _ => exact execSrlw_effect _ _ _
  | sraw _ _ _ => exact execSraw_effect _ _ _
  | ld _ _ _ => exact execLd_effect _ _ _
  | lwu _ _ _ => exact execLwu_effect _ _ _
  | sd _ _ _ => exact execSd_effect _ _ _
  | mul _ _ _ => exact execMul_effect _ _ _
  | mulh _ _ _ => exact execMulh_effect _ _ _
  | mulhsu _ _ _ => exact execMulhsu_effect _ _ _
  | mulhu _ _ _ => exact execMulhu_effect _ _ _
  | div _ _ _ => exact execDiv_effect _ _ _
  | divu _ _ _ => exact execDivu_effect _ _ _
  | rem _ _ _ => exact execRem_effect _ _ _
  | remu _ _ _ => exact execRemu_effect _ _ _
  | mulw _ _ _ => exact execMulw_effect _ _ _
  | divw _ _ _ => exact execDivw_effect _ _ _
  | divuw _ _ _ => exact execDivuw_effect _ _ _
  | remw _ _ _ => exact execRemw_effect _ _ _
  | remuw _ _ _ => exact execRemuw_effect _ _ _
  | lrW _ _ _ _ => exact execLrW_effect _ _ _ _
  | scW _ _ _ _ _ => exact execScW_effect _ _ _ _ _
  | lrD _ _ _ _ => exact execLrD_effect _ _ _ _
  | scD _ _ _ _ _ => exact execScD_effect _ _ _ _ _
  | amoswapW _ _ _ _ _ => exact execAmoswapW_effect _ _ _ _ _
  | amoswapD _ _ _ _ _ => exact execAmoswapD_effect _ _ _ _ _
  | amoaddW _ _ _ _ _ => exact execAmoaddW_effect _ _ _ _ _
  | amoaddD _ _ _ _ _ => exact execAmoaddD_effect _ _ _ _ _
  | amoxorW _ _ _ _ _ => exact execAmoxorW_effect _ _ _ _ _
  | amoxorD _ _ _ _ _ => exact execAmoxorD_effect _ _ _ _ _
  | amoandW _ _ _ _ _ => exact execAmoandW_effect _ _ _ _ _
  | amoandD _ _ _ _ _ => exact execAmoandD_effect _ _ _ _ _
  | amoorW _ _ _ _ _ => exact execAmoorW_effect _ _ _ _ _
  | amoorD _ _ _ _ _ => exact execAmoorD_effect _ _ _ _ _
  | amominW _ _ _ _ _ => exact execAmominW_effect _ _ _ _ _
  | amominD _ _ _ _ _ => exact execAmominD_effect _ _ _ _ _
  | amomaxW _ _ _ _ _ => exact execAmomaxW_effect _ _ _ _ _
  | amomaxD _ _ _ _ _ => exact execAmomaxD_effect _ _ _ _ _
  | amominuW _ _ _ _ _ => exact execAmominuW_effect _ _ _ _ _
  | amominuD _ _ _ _ _ => exact execAmominuD_effect _ _ _ _ _
  | amomaxuW _ _ _ _ _ => exact execAmomaxuW_effect _ _ _ _ _
  | amomaxuD _ _ _ _ _ => exact execAmomaxuD_effect _ _ _ _ _
  | csrrw _ _ _ => exact execCsrrw_effect _ _ _
  | csrrs _ _ _ => exact execCsrrs_effect _ _ _
  | csrrc _ _ _ => exact execCsrrc_effect _ _ _
  | csrrwi _ _ _ => exact execCsrrwi_effect _ _ _
  | csrrsi _ _ _ => exact execCsrrsi_effect _ _ _
  | csrrci _ _ _ => exact execCsrrci_effect _ _ _
  | flw _ _ _ => exact execFlw_effect _ _ _
  | fsw _ _ _ => exact execFsw_effect _ _ _
  | fmaddS _ _ _ _ _ => exact execFmaddS_effect _ _ _ _ _
  | fmsubS _ _ _ _ _ => exact execFmsubS_effect _ _ _ _ _
  | fnmsubS _ _ _ _ _ => exact execFnmsubS_effect _ _ _ _ _
  | fnmaddS _ _ _ _ _ => exact execFnmaddS_effect _ _ _ _ _
  | faddS _ _ _ _ => exact execFaddS_effect _ _ _ _
  | fsubS _ _ _ _ => exact execFsubS_effect _ _ _ _
  | fmulS _ _ _ _ => exact execFmulS_effect _ _ _ _
  | fdivS _ _ _ _ => exact execFdivS_effect _ _ _ _
  | fsqrtS _ _ _ => exact execFsqrtS_effect _ _ _
  | fsgnjS _ _ _ => exact execFsgnjS_effect _ _ _
  | fsgnjnS _ _ _ => exact execFsgnjnS_effect _ _ _
  | fsgnjxS _ _ _ => exact execFsgnjxS_effect _ _ _
  | fminS _ _ _ => exact execFminS_effect _ _ _
  | fmaxS _ _ _ => exact execFmaxS_effect _ _ _
  | feqS _ _ _ => exact execFeqS_effect _ _ _
  | fltS _ _ _ => exact execFltS_effect _ _ _
  | fleS _ _ _ => exact execFleS_effect _ _ _
  | fclassS _ _ => exact execFclassS_effect _ _
  | fcvtWS _ _ _ => exact execFcvtWS_effect _ _ _
  | fcvtSW _ _ _ => exact execFcvtSW_effect _ _ _
  | fcvtWuS _ _ _ => exact execFcvtWuS_effect _ _ _
  | fcvtSWu _ _ _ => exact execFcvtSWu_effect _ _ _
  | fcvtLS _ _ _ => exact execFcvtLS_effect _ _ _
  | fcvtSL _ _ _ => exact execFcvtSL_effect _ _ _
  | fcvtLuS _ _ _ => exact execFcvtLuS_effect _ _ _
  | fcvtSLu _ _ _ => exact execFcvtSLu_effect _ _ _
  | fld _ _ _ => exact execFld_effect _ _ _
  | fsd _ _ _ => exact execFsd_effect _ _ _
  | fmaddD _ _ _ _ _ => exact execFmaddD_effect _ _ _ _ _
  | fmsubD _ _ _ _ _ => exact execFmsubD_effect _ _ _ _ _
  | fnmsubD _ _ _ _ _ => exact execFnmsubD_effect _ _ _ _ _
  | fnmaddD _ _ _ _ _ => exact execFnmaddD_effect _ _ _ _ _
  | faddD _ _ _ _ => exact execFaddD_effect _ _ _ _
  | fsubD _ _ _ _ => exact execFsubD_effect _ _ _ _
  | fmulD _ _ _ _ => exact execFmulD_effect _ _ _ _
  | fdivD _ _ _ _ => exact execFdivD_effect _ _ _ _
  | fsqrtD _ _ _ => exact execFsqrtD_effect _ _ _
  | fsgnjD _ _ _ => exact execFsgnjD_effect _ _ _
  | fsgnjnD _ _ _ => exact execFsgnjnD_effect _ _ _
  | fsgnjxD _ _ _ => exact execFsgnjxD_effect _ _ _
  | fminD _ _ _ => exact execFminD_effect _ _ _
  | fmaxD _ _ _ => exact execFmaxD_effect _ _ _
  | feqD _ _ _ => exact execFeqD_effect _ _ _
  | fltD _ _ _ => exact execFltD_effect _ _ _
  | fleD _ _ _ => exact execFleD_effect _ _ _
  | fclassD _ _ => exact execFclassD_effect _ _
  | fcvtWD _ _ _ => exact execFcvtWD_effect _ _ _
  | fcvtDW _ _ _ => exact execFcvtDW_effect _ _ _
  | fcvtWuD _ _ _ => exact execFcvtWuD_effect _ _ _
  | fcvtDWu _ _ _ => exact execFcvtDWu_effect _ _ _
  | fcvtLD _ _ _ => exact execFcvtLD_effect _ _ _
  | fcvtDL _ _ _ => exact execFcvtDL_effect _ _ _
  | fcvtLuD _ _ _ => exact execFcvtLuD_effect _ _ _
  | fcvtDLu _ _ _ => exact execFcvtDLu_effect _ _ _
  | flq _ _ _ => exact execFlq_effect _ _ _
  | fsq _ _ _ => exact execFsq_effect _ _ _
  | fmaddQ _ _ _ _ _ => exact execFmaddQ_effect _ _ _ _ _
  | fmsubQ _ _ _ _ _ => exact execFmsubQ_effect _ _ _ _ _
  | fnmsubQ _ _ _ _ _ => exact execFnmsubQ_effect _ _ _ _ _
  | fnmaddQ _ _ _ _ _ => exact execFnmaddQ_effect _ _ _ _ _
  | faddQ _ _ _ _ => exact execFaddQ_effect _ _ _ _
  | fsubQ _ _ _ _ => exact execFsubQ_effect _ _ _ _
  | fmulQ _ _ _ _ => exact execFmulQ_effect _ _ _ _
  | fdivQ _ _ _ _ => exact execFdivQ_effect _ _ _ _
  | fsqrtQ _ _ _ => exact execFsqrtQ_effect _ _ _
  | fsgnjQ _ _ _ => exact execFsgnjQ_effect _ _ _
  | fsgnjnQ _ _ _ => exact execFsgnjnQ_effect _ _ _
  | fsgnjxQ _ _ _ => exact execFsgnjxQ_effect _ _ _
  | fminQ _ _ _ => exact execFminQ_effect _ _ _
  | fmaxQ _ _ _ => exact execFmaxQ_effect _ _ _
  | feqQ _ _ _ => exact execFeqQ_effect _ _ _
  | fltQ _ _ _ => exact execFltQ_effect _ _ _
  | fleQ _ _ _ => exact execFleQ_effect _ _ _
  | fclassQ _ _ => exact execFclassQ_effect _ _
  | fcvtWQ _ _ _ => exact execFcvtWQ_effect _ _ _
  | fcvtQW _ _ _ => exact execFcvtQW_effect _ _ _
  | fcvtWuQ _ _ _ => exact execFcvtWuQ_effect _ _ _
  | fcvtQWu _ _ _ => exact execFcvtQWu_effect _ _ _
  | fcvtLQ _ _ _ => exact execFcvtLQ_effect _ _ _
  | fcvtQL _ _ _ => exact execFcvtQL_effect _ _ _
  | fcvtLuQ _ _ _ => exact execFcvtLuQ_effect _ _ _
  | fcvtQLu _ _ _ => exact execFcvtQLu_effect _ _ _
  | flh _ _ _ => exact execFlh_effect _ _ _
  | fsh _ _ _ => exact execFsh_effect _ _ _
  | fmaddH _ _ _ _ _ => exact execFmaddH_effect _ _ _ _ _
  | fmsubH _ _ _ _ _ => exact execFmsubH_effect _ _ _ _ _
  | fnmsubH _ _ _ _ _ => exact execFnmsubH_effect _ _ _ _ _
  | fnmaddH _ _ _ _ _ => exact execFnmaddH_effect _ _ _ _ _
  | faddH _ _ _ _ => exact execFaddH_effect _ _ _ _
  | fsubH _ _ _ _ => exact execFsubH_effect _ _ _ _
  | fmulH _ _ _ _ => exact execFmulH_effect _ _ _ _
  | fdivH _ _ _ _ => exact execFdivH_effect _ _ _ _
  | fsqrtH _ _ _ => exact execFsqrtH_effect _ _ _
  | fsgnjH _ _ _ => exact execFsgnjH_effect _ _ _
  | fsgnjnH _ _ _ => exact execFsgnjnH_effect _ _ _
  | fsgnjxH _ _ _ => exact execFsgnjxH_effect _ _ _
  | fminH _ _ _ => exact execFminH_effect _ _ _
  | fmaxH _ _ _ => exact execFmaxH_effect _ _ _
  | feqH _ _ _ => exact execFeqH_effect _ _ _
  | fltH _ _ _ => exact execFltH_effect _ _ _
  | fleH _ _ _ => exact execFleH_effect _ _ _
  | fclassH _ _ => exact execFclassH_effect _ _
  | fcvtWH _ _ _ => exact execFcvtWH_effect _ _ _
  | fcvtHW _ _ _ => exact execFcvtHW_effect _ _ _
  | fcvtWuH _ _ _ => exact execFcvtWuH_effect _ _ _
  | fcvtHWu _ _ _ => exact execFcvtHWu_effect _ _ _
  | fcvtLH _ _ _ => exact execFcvtLH_effect _ _ _
  | fcvtHL _ _ _ => exact execFcvtHL_effect _ _ _
  | fcvtLuH _ _ _ => exact execFcvtLuH_effect _ _ _
  | fcvtHLu _ _ _ => exact execFcvtHLu_effect _ _ _
  | fmvXW _ _ => exact execFmvXW_effect _ _
  | fmvWX _ _ => exact execFmvWX_effect _ _
  | fmvXD _ _ => exact execFmvXD_effect _ _
  | fmvDX _ _ => exact execFmvDX_effect _ _
  | fmvXH _ _ => exact execFmvXH_effect _ _
  | fmvHX _ _ => exact execFmvHX_effect _ _
  | fcvtSD _ _ _ => exact execFcvtSD_effect _ _ _
  | fcvtDS _ _ _ => exact execFcvtDS_effect _ _ _
  | fcvtSQ _ _ _ => exact execFcvtSQ_effect _ _ _
  | fcvtQS _ _ _ => exact execFcvtQS_effect _ _ _
  | fcvtDQ _ _ _ => exact execFcvtDQ_effect _ _ _
  | fcvtQD _ _ _ => exact execFcvtQD_effect _ _ _
  | fcvtSH _ _ _ => exact execFcvtSH_effect _ _ _
  | fcvtHS _ _ _ => exact execFcvtHS_effect _ _ _
  | fcvtDH _ _ _ => exact execFcvtDH_effect _ _ _
  | fcvtHD _ _ _ => exact execFcvtHD_effect _ _ _
  | fcvtQH _ _ _ => exact execFcvtQH_effect _ _ _
  | fcvtHQ _ _ _ => exact execFcvtHQ_effect _ _ _
  | fliS _ _ => exact execFliS_effect _ _
  | fminmS _ _ _ => exact execFminmS_effect _ _ _
  | fmaxmS _ _ _ => exact execFmaxmS_effect _ _ _
  | froundS _ _ _ => exact execFroundS_effect _ _ _
  | froundnxS _ _ _ => exact execFroundnxS_effect _ _ _
  | fleqS _ _ _ => exact execFleqS_effect _ _ _
  | fltqS _ _ _ => exact execFltqS_effect _ _ _
  | fliD _ _ => exact execFliD_effect _ _
  | fminmD _ _ _ => exact execFminmD_effect _ _ _
  | fmaxmD _ _ _ => exact execFmaxmD_effect _ _ _
  | froundD _ _ _ => exact execFroundD_effect _ _ _
  | froundnxD _ _ _ => exact execFroundnxD_effect _ _ _
  | fleqD _ _ _ => exact execFleqD_effect _ _ _
  | fltqD _ _ _ => exact execFltqD_effect _ _ _
  | fliH _ _ => exact execFliH_effect _ _
  | fminmH _ _ _ => exact execFminmH_effect _ _ _
  | fmaxmH _ _ _ => exact execFmaxmH_effect _ _ _
  | froundH _ _ _ => exact execFroundH_effect _ _ _
  | froundnxH _ _ _ => exact execFroundnxH_effect _ _ _
  | fleqH _ _ _ => exact execFleqH_effect _ _ _
  | fltqH _ _ _ => exact execFltqH_effect _ _ _
  | fliQ _ _ => exact execFliQ_effect _ _
  | fminmQ _ _ _ => exact execFminmQ_effect _ _ _
  | fmaxmQ _ _ _ => exact execFmaxmQ_effect _ _ _
  | froundQ _ _ _ => exact execFroundQ_effect _ _ _
  | froundnxQ _ _ _ => exact execFroundnxQ_effect _ _ _
  | fleqQ _ _ _ => exact execFleqQ_effect _ _ _
  | fltqQ _ _ _ => exact execFltqQ_effect _ _ _
  | fcvtmodWD _ _ => exact execFcvtmodWD_effect _ _
  | fmvhXD _ _ => exact execFmvhXD_effect _ _
  | fmvpDX _ _ _ => exact execFmvpDX_effect _ _ _
  | fmvhXQ _ _ => exact execFmvhXQ_effect _ _
  | fmvpQX _ _ _ => exact execFmvpQX_effect _ _ _
  | cboInval _ => exact execCboInval_effect _
  | cboClean _ => exact execCboClean_effect _
  | cboFlush _ => exact execCboFlush_effect _
  | cboZero _ => exact execCboZero_effect _
  | prefetchI _ _ => exact execPrefetchI_effect _ _
  | prefetchR _ _ => exact execPrefetchR_effect _ _
  | prefetchW _ _ => exact execPrefetchW_effect _ _
  | wrsNto => exact execWrsNto_effect
  | wrsSto => exact execWrsSto_effect
  | mopR0 _ _ => exact execMopR0_effect _ _
  | mopR1 _ _ => exact execMopR1_effect _ _
  | mopR2 _ _ => exact execMopR2_effect _ _
  | mopR3 _ _ => exact execMopR3_effect _ _
  | mopR4 _ _ => exact execMopR4_effect _ _
  | mopR5 _ _ => exact execMopR5_effect _ _
  | mopR6 _ _ => exact execMopR6_effect _ _
  | mopR7 _ _ => exact execMopR7_effect _ _
  | mopR8 _ _ => exact execMopR8_effect _ _
  | mopR9 _ _ => exact execMopR9_effect _ _
  | mopR10 _ _ => exact execMopR10_effect _ _
  | mopR11 _ _ => exact execMopR11_effect _ _
  | mopR12 _ _ => exact execMopR12_effect _ _
  | mopR13 _ _ => exact execMopR13_effect _ _
  | mopR14 _ _ => exact execMopR14_effect _ _
  | mopR15 _ _ => exact execMopR15_effect _ _
  | mopR16 _ _ => exact execMopR16_effect _ _
  | mopR17 _ _ => exact execMopR17_effect _ _
  | mopR18 _ _ => exact execMopR18_effect _ _
  | mopR19 _ _ => exact execMopR19_effect _ _
  | mopR20 _ _ => exact execMopR20_effect _ _
  | mopR21 _ _ => exact execMopR21_effect _ _
  | mopR22 _ _ => exact execMopR22_effect _ _
  | mopR23 _ _ => exact execMopR23_effect _ _
  | mopR24 _ _ => exact execMopR24_effect _ _
  | mopR25 _ _ => exact execMopR25_effect _ _
  | mopR26 _ _ => exact execMopR26_effect _ _
  | mopR27 _ _ => exact execMopR27_effect _ _
  | mopR28 _ _ => exact execMopR28_effect _ _
  | mopR29 _ _ => exact execMopR29_effect _ _
  | mopR30 _ _ => exact execMopR30_effect _ _
  | mopR31 _ _ => exact execMopR31_effect _ _
  | mopRr0 _ _ _ => exact execMopRr0_effect _ _ _
  | mopRr1 _ _ _ => exact execMopRr1_effect _ _ _
  | mopRr2 _ _ _ => exact execMopRr2_effect _ _ _
  | mopRr3 _ _ _ => exact execMopRr3_effect _ _ _
  | mopRr4 _ _ _ => exact execMopRr4_effect _ _ _
  | mopRr5 _ _ _ => exact execMopRr5_effect _ _ _
  | mopRr6 _ _ _ => exact execMopRr6_effect _ _ _
  | mopRr7 _ _ _ => exact execMopRr7_effect _ _ _
  | cIllegal => exact execCIllegal_effect
  | cAddi4spn _ _ => exact execCAddi4spn_effect _ _
  | cFld _ _ _ => exact execCFld_effect _ _ _
  | cLq _ _ _ => exact execCLq_effect _ _ _
  | cLw _ _ _ => exact execCLw_effect _ _ _
  | cFlw _ _ _ => exact execCFlw_effect _ _ _
  | cLd _ _ _ => exact execCLd_effect _ _ _
  | cFsd _ _ _ => exact execCFsd_effect _ _ _
  | cSq _ _ _ => exact execCSq_effect _ _ _
  | cSw _ _ _ => exact execCSw_effect _ _ _
  | cFsw _ _ _ => exact execCFsw_effect _ _ _
  | cSd _ _ _ => exact execCSd_effect _ _ _
  | cNop _ => exact execCNop_effect _
  | cAddi _ _ => exact execCAddi_effect _ _
  | cJal _ => exact execCJal_effect _
  | cAddiw _ _ => exact execCAddiw_effect _ _
  | cLi _ _ => exact execCLi_effect _ _
  | cAddi16sp _ => exact execCAddi16sp_effect _
  | cLui _ _ => exact execCLui_effect _ _
  | cMop1 => exact execCMop1_effect
  | cMop3 => exact execCMop3_effect
  | cMop5 => exact execCMop5_effect
  | cMop7 => exact execCMop7_effect
  | cMop9 => exact execCMop9_effect
  | cMop11 => exact execCMop11_effect
  | cMop13 => exact execCMop13_effect
  | cMop15 => exact execCMop15_effect
  | cSrli _ _ => exact execCSrli_effect _ _
  | cSrai _ _ => exact execCSrai_effect _ _
  | cAndi _ _ => exact execCAndi_effect _ _
  | cSub _ _ => exact execCSub_effect _ _
  | cXor _ _ => exact execCXor_effect _ _
  | cOr _ _ => exact execCOr_effect _ _
  | cAnd _ _ => exact execCAnd_effect _ _
  | cSubw _ _ => exact execCSubw_effect _ _
  | cAddw _ _ => exact execCAddw_effect _ _
  | cJ _ => exact execCJ_effect _
  | cBeqz _ _ => exact execCBeqz_effect _ _
  | cBnez _ _ => exact execCBnez_effect _ _
  | cSlli _ _ => exact execCSlli_effect _ _
  | cFldsp _ _ => exact execCFldsp_effect _ _
  | cLqsp _ _ => exact execCLqsp_effect _ _
  | cLwsp _ _ => exact execCLwsp_effect _ _
  | cFlwsp _ _ => exact execCFlwsp_effect _ _
  | cLdsp _ _ => exact execCLdsp_effect _ _
  | cJr _ => exact execCJr_effect _
  | cMv _ _ => exact execCMv_effect _ _
  | cEbreak => exact execCEbreak_effect
  | cJalr _ => exact execCJalr_effect _
  | cAdd _ _ => exact execCAdd_effect _ _
  | cFsdsp _ _ => exact execCFsdsp_effect _ _
  | cSqsp _ _ => exact execCSqsp_effect _ _
  | cSwsp _ _ => exact execCSwsp_effect _ _
  | cFswsp _ _ => exact execCFswsp_effect _ _
  | cSdsp _ _ => exact execCSdsp_effect _ _
  | cLbu _ _ _ => exact execCLbu_effect _ _ _
  | cLhu _ _ _ => exact execCLhu_effect _ _ _
  | cLh _ _ _ => exact execCLh_effect _ _ _
  | cSb _ _ _ => exact execCSb_effect _ _ _
  | cSh _ _ _ => exact execCSh_effect _ _ _
  | cZextB _ => exact execCZextB_effect _
  | cSextB _ => exact execCSextB_effect _
  | cZextH _ => exact execCZextH_effect _
  | cSextH _ => exact execCSextH_effect _
  | cZextW _ => exact execCZextW_effect _
  | cNot _ => exact execCNot_effect _
  | cMul _ _ => exact execCMul_effect _ _
  | cmPush _ _ => exact execCmPush_effect _ _
  | cmPop _ _ => exact execCmPop_effect _ _
  | cmPopretz _ _ => exact execCmPopretz_effect _ _
  | cmPopret _ _ => exact execCmPopret_effect _ _
  | cmMvsa01 _ _ => exact execCmMvsa01_effect _ _
  | cmMva01s _ _ => exact execCmMva01s_effect _ _
  | cmJt _ => exact execCmJt_effect _
  | cmJalt _ => exact execCmJalt_effect _

end Sys2Proof.Machine
end

