-- ==== Sys2Proof/Laws/Trap.lean ====
section
/-! SUPPORT. Taking an exception: what a fatal trap and a serviced one keep, and the cases of a step. -/

namespace Sys2Proof.Machine

/-! ## The environment's service -/

/-- A property of states that register writes of the hart's widths, stores and the control parts keep, a service keeps. -/
theorem serve_induct {P : State → Prop} {s : State} (v : Service) (h : P s)
    (hx : ∀ t r (c : Cell), P t → P (t.setX r (c.setWidth s.cfg.bits)))
    (hf : ∀ t r (c : Cell), P t → P (t.setF r ((c.setWidth s.cfg.flen).setWidth 128)))
    (hm : ∀ t w, P t → P (State.putBytes t w)) (hc : ∀ t, P t → P (t.serveControl v)) : P (s.serve v) := by
  have fold : ∀ {α : Type} (g : State → α → State) (l : List α) (t : State), (∀ t a, P t → P (g t a)) → P t →
      P (l.foldl g t) := by
    intro α g l; induction l with
    | nil => exact fun t _ h => h
    | cons a l ih => exact fun t hg h => ih _ hg (hg t a h)
  exact hc _ (fold _ _ _ hm (fold _ _ _ (fun t p => hf t p.1 p.2) (fold _ _ _ (fun t p => hx t p.1 p.2) h)))

/-- A service leaves the configuration, pc, instret, and whether the hart is stalled or terminated. -/
theorem serve_rest (s : State) (v : Service) :
    (s.serve v).cfg = s.cfg ∧ (s.serve v).pc = s.pc ∧ (s.serve v).instret = s.instret ∧
      (s.serve v).stalled = s.stalled ∧ (s.serve v).halted = s.halted :=
  serve_induct (P := fun t => t.cfg = s.cfg ∧ t.pc = s.pc ∧ t.instret = s.instret ∧ t.stalled = s.stalled ∧
      t.halted = s.halted) v ⟨rfl, rfl, rfl, rfl, rfl⟩ (fun t r c h => by simpa using h) (fun t r c h => by simpa using h)
    (fun t w h => by simpa using h) fun t h => by simpa using h

/-- A service that does nothing. -/
def Service.nothing : Service :=
  { terminate := false, retry := false, resume := none, xWrites := [], fWrites := [], stores := [], frm := none,
    fflags := none, jvt := none, reservation := none, io := [], syncFetch := false }

theorem serve_nothing (s : State) : s.serve Service.nothing = s := by
  simp [State.serve, State.serveControl, Service.nothing]

/-! ## raise -/

/-- The outcomes of raising an exception: the hart ends; or, after a service, it resumes after the instruction or at an
aligned address of the environment's choice, the instruction having retired or not; or it stays at the instruction. -/
theorem raise_cases (s : State) (e : Exc) (len : Nat) :
    s.raise e len = s.terminate e ∨ (∃ v, s.raise e len = (s.serve v).tick) ∨
      ∃ v, s.raise e len = { (s.serve v).tick with pc := (s.serviceTarget len v).setWidth 128 } ∨
        s.raise e len = (s.serve v).retireTo (s.serviceTarget len v) := by
  unfold State.raise
  split
  · exact .inl rfl
  · unfold State.resume
    split
    · exact .inl rfl
    · exact .inr (.inr ⟨_, .inl rfl⟩)
  · unfold State.emulate
    split
    · exact .inr (.inl ⟨_, rfl⟩)
    · exact .inr (.inr ⟨_, .inr rfl⟩)
  · exact .inl rfl

/-- Where a hart goes on after a service is aligned to IALIGN, or it is after the instruction. -/
theorem serviceTarget_cases (s : State) (len : Nat) (v : Service) :
    s.serviceTarget len v = s.nextPc len ∨ ∃ a, s.serviceTarget len v = s.alignPc a := by
  unfold State.serviceTarget
  split
  · exact .inr ⟨_, rfl⟩
  · exact .inl rfl

/-- With a fatal policy the environment's action is fatal, whatever the state. -/
theorem trapAction_fatal {s : State} {e : Exc} (h : s.cfg.trapAction e = .fatal) : s.trapAction e = .fatal := by
  unfold State.trapAction; rw [h]

/-- TRAP ends the hart or serves the exception: a request by a requested trap, any other exception by an invisible one. -/
theorem trapAction_cases (s : State) (e : Exc) : s.trapAction e = .fatal ∨ s.trapAction e = e.served := by
  unfold State.trapAction
  split
  · exact .inl rfl
  · exact .inr rfl
  · exact .inr rfl
  · split
    · exact .inl rfl
    · exact .inr rfl
    · exact .inr rfl
    · exact .inl rfl

/-- A request to the environment ends the hart, or the environment returns from it by a resumption: the instruction that
made it never retires. -/
theorem raise_request {e : Exc} (s : State) (len : Nat) (h : e.isRequest = true) :
    s.raise e len = s.terminate e ∨ s.raise e len = s.resume e len (Config.service s e) := by
  have hs : e.served = .requested := if_pos h
  rcases trapAction_cases s e with ha | ha
  · exact .inl (by unfold State.raise; rw [ha])
  · exact .inr (by unfold State.raise; rw [ha, hs])

/-- An interrupt ends the hart, or it is handled transparently: only time has passed, and it is no longer pending. -/
theorem takeInterrupt_cases (s : State) :
    s.takeInterrupt = s.terminate (.interrupt s.interruptCause) ∨ s.takeInterrupt = { s.tick with interruptPending := false } := by
  unfold State.takeInterrupt
  split
  · exact .inl rfl
  · exact .inr rfl
  · exact .inr rfl
  · exact .inl rfl

/-- Where the environment's action is fatal the hart ends. -/
theorem raise_fatal {s : State} {e : Exc} (h : s.trapAction e = .fatal) (len : Nat) : s.raise e len = s.terminate e := by
  unfold State.raise; rw [h]

/-- Whatever the environment does, an exception leaves the configuration, and instret, or adds one to it where the
environment has completed the instruction. -/
theorem raise_rest (s : State) (e : Exc) (len : Nat) :
    (s.raise e len).cfg = s.cfg ∧ ((s.raise e len).instret = s.instret ∨ (s.raise e len).instret = s.instret + 1) := by
  rcases raise_cases s e len with h | ⟨v, h⟩ | ⟨v, h | h⟩ <;> rw [h]
  · exact ⟨rfl, .inl rfl⟩
  all_goals obtain ⟨h1, -, h3, -, -⟩ := serve_rest s v
  · exact ⟨h1, .inl h3⟩
  · exact ⟨h1, .inl h3⟩
  · exact ⟨h1, .inr (by rw [State.retireTo]; show (s.serve v).instret + 1 = _; rw [h3])⟩

/-! ## The step -/

/-- Everything a step can do: it faults on a terminated hart; a stalled hart waits or retires its instruction; an
interrupt is taken; the decoded instruction is executed; or bits that decode to none, or a fetch that is not permitted,
raise. -/
theorem step_cases {s t : State} (h : step s = .next t) :
    (s.stalled = true ∧ (t = s.tick ∨ t = ({ s with stalled := false } : State).retire 4)) ∨ t = s.takeInterrupt ∨
      (∃ w i, (s.fetch = .bits16 w ∨ s.fetch = .bits32 w) ∧ decode s.cfg w = .ok i ∧ exec i s = .next t) ∨
      (∃ w e, s.fetch = .bits16 w ∧ t = s.raise e 2) ∨ ∃ e, t = s.raise e 4 := by
  unfold step at h
  split at h
  · cases h
  · unfold runHart at h
    split at h
    · unfold stallStep at h
      split at h <;> cases h
      · exact .inl ⟨‹_›, .inl rfl⟩
      · exact .inl ⟨‹_›, .inr rfl⟩
    · split at h
      · cases h; exact .inr (.inl rfl)
      · unfold fetchAndExecute execBits at h
        split at h
        · split at h
          · exact .inr (.inr (.inl ⟨_, _, .inl ‹_›, ‹_›, h⟩))
          · cases h; exact .inr (.inr (.inr (.inl ⟨_, _, ‹_›, rfl⟩)))
        · split at h
          · exact .inr (.inr (.inl ⟨_, _, .inr ‹_›, ‹_›, h⟩))
          · cases h; exact .inr (.inr (.inr (.inr ⟨_, rfl⟩)))
        · cases h; exact .inr (.inr (.inr (.inr ⟨_, rfl⟩)))

end Sys2Proof.Machine
end

