-- ==== Sys2Proof/Tests/Slice0.lean ====
section
/-! SUPPORT. Tests: what WellFormed refuses, every constructor's word written out from the spec's encoding, single steps with
results from the spec's vectors, and a witness that meets the hypotheses of each statement. -/

namespace Sys2Proof.Tests

open Sys2Proof.Machine

/-! ## WellFormed: an ill-formed term for each check -/

/-- RV64E. -/
def configE : Config := { configReset with embedded := true }
/-- RV32 with Zfinx, Zdinx and Zhinx. -/
def configFinx32 : Config :=
  { configReset with
    xlen := .rv32
    ext := { m := true, zmmul := true, a := true, zicsr := true, zfinx := true, zdinx := true, zhinx := true, zhinxmin := true } }
/-- RV64I alone: no 16-bit instructions. -/
def configBare : Config := { configReset with ext := { zicsr := true } }

theorem test_configs_legal :
    ∀ c ∈ [configReset, configZc64, config32, config128, configE, configFinx32, configBare], c.legal = true := by decide

/-- A module without one it requires (00_scope.md R10; 49_zc.md R701). -/
theorem test_legal_requires : ∀ e ∈ ([
    { m := true }, { f := true }, { zicsr := true, d := true }, { zicsr := true, f := true, q := true },
    { zicsr := true, f := true, zfh := true }, { zfhmin := true }, { zfa := true }, { zfinx := true },
    { zicsr := true, zdinx := true }, { zicsr := true, zhinx := true }, { zhinxmin := true },
    { zicntr := true }, { zihpm := true }, { zcmop := true }, { c := true },
    { zicsr := true, f := true, d := true, c := true, zca := true }, { zca := true, zcd := true }, { zcb := true },
    { zcmp := true }, { zca := true, zcmt := true }, { zca := true, zce := true }] : List ExtSet),
    ({ configReset with ext := e } : Config).legal = false := by decide

/-- Zhinx asks for Zfinx alone (00_scope.md R10; 48_zfinx_zfa_cmo_zawrs.md R645). -/
theorem test_legal_zhinx :
    ({ configReset with ext := { zicsr := true, zfinx := true, zhinx := true } } : Config).legal = true := by decide

/-- Zcf is part of C and F, and of Zce and F, on RV32 (49_zc.md R701). -/
theorem test_legal_requires_zcf : ∀ e ∈ ([
    { zicsr := true, f := true, c := true, zca := true },
    { zicsr := true, f := true, zca := true, zcb := true, zcmp := true, zcmt := true, zce := true },
    { zca := true, zcf := true }] : List ExtSet),
    ({ configReset with xlen := .rv32, ext := e } : Config).legal = false := by decide

/-- Modules that exclude each other, and modules that an XLEN does not have (00_scope.md R11; 49_zc.md R701, R704). -/
theorem test_legal_excludes :
    ({ configReset with ext := { zicsr := true, f := true, zfinx := true } } : Config).legal = false ∧
    ({ configReset with ext := { extFull64 with zcmp := true } } : Config).legal = false ∧
    ({ configReset with ext := { extFull64 with zcmt := true } } : Config).legal = false ∧
    ({ configReset with ext := { extFull64 with zcf := true } } : Config).legal = false ∧
    (∀ e ∈ ([{ zca := true, zcb := true }, { m := true, zmmul := true }, { a := true }, { zicsr := true }] : List ExtSet),
      ({ config128 with ext := e } : Config).legal = false) ∧
    ({ config128 with embedded := true } : Config).legal = false := by decide

/-- Regions whose ends are not block boundaries, a granule that is no power of two, and a load fault by request. -/
theorem test_legal_memory_and_traps :
    ({ configReset with regions := [{ base := 0x1020, size := 0x1000 }] } : Config).legal = false ∧
    ({ configReset with regions := [{ base := 0, size := 0x1010 }] } : Config).legal = false ∧
    ({ configReset with ext := { zicboz := true }, regions := [{ base := 0x20, size := 0x40 }] } : Config).legal = false ∧
    ({ configReset with regions := [{ base := 0, size := 0x1000, mag := some 12 }] } : Config).legal = false ∧
    ({ configReset with trap := { loadAccessFault := .requested } } : Config).legal = false := by decide

/-- The request of ECALL, EBREAK or C.EBREAK is served by a requested trap alone (40_rv32i.md R276; 60_exceptions.md R751). -/
theorem test_legal_requests :
    ({ configReset with trap := { environmentCall := .invisible } } : Config).legal = false ∧
    ({ configReset with trap := { breakpoint := .invisible } } : Config).legal = false ∧
    ({ configReset with trap := { environmentCall := .requested, breakpoint := .requested } } : Config).legal = true := by decide

/-- Registers an E base does not have (41_zifencei_hints_rv32e.md R305; 49_zc.md R703, R720). -/
theorem test_wf_embedded : ∀ i ∈ ([
    .add 16 1 2, .add 1 16 2, .add 1 2 16, .lw 16 1 0, .sw 1 16 0, .jal 16 0, .csrrw 1 16 1, .fmvXW 16 0, .cMv 16 1,
    .cAdd 1 16, .cLwsp 16 0, .cSwsp 16 0, .lrW 1 16 0 0, .amoaddW 1 2 16 0 0, .cboZero 16, .mopR0 16 0] : List Instr),
    i.wf configE = false := by decide
theorem test_wf_embedded_zcmp : ∀ i ∈ ([.cmPush 7 0, .cmPop 15 0, .cmMvsa01 0 2, .cmMva01s 7 0] : List Instr),
    i.wf { configZc64 with embedded := true } = false := by decide

/-- An odd register for a pair (48_zfinx_zfa_cmo_zawrs.md R643). -/
theorem test_wf_pairs : ∀ i ∈ ([
    .faddD 1 2 4 0, .faddD 2 1 4 0, .faddD 2 4 1 0, .fmaddD 2 4 6 1 0, .fsgnjD 1 2 2, .feqD 1 3 2, .fcvtWD 1 3 0,
    .fcvtDW 3 1 0, .fcvtDS 3 1 0] : List Instr), i.wf configFinx32 = false := by decide

/-- Instructions of extensions that the configuration lacks. -/
theorem test_wf_extensions : ∀ i ∈ ([
    .mul 1 2 3, .lrW 1 2 0 0, .fenceI 0 0 0, .pause, .ntlP1, .flw 1 2 0, .fld 1 2 0, .flq 1 2 0, .flh 1 2 0, .faddS 1 2 3 0,
    .faddD 1 2 3 0, .faddQ 1 2 3 0, .faddH 1 2 3 0, .fcvtSH 1 2 0, .fcvtDH 1 2 0, .fcvtQH 1 2 0, .fliS 1 2, .fliD 1 2,
    .fliH 1 2, .fliQ 1 2, .cboInval 1, .cboZero 1, .prefetchR 1 0, .wrsNto, .mopR0 1 2, .mopRr0 1 2 3, .cNop 0, .cMop1,
    .cLbu 0 0 0, .cMul 0 0, .cmPush 4 0, .cmJt 0, .cFld 0 0 0, .cFlw 0 0 0, .cSextB 0, .cZextW 0] : List Instr),
    i.wf configBare = false := by decide
theorem test_wf_csr_extension : (Instr.csrrw 1 2 3).wf { configReset with ext := {} } = false := by decide

/-- Instructions that the XLEN lacks. -/
theorem test_wf_xlen :
    (∀ i ∈ ([.slliRv64 1 2 3, .slliRv128 1 2 3, .ld 1 2 0, .sd 1 2 0, .lwu 1 2 0, .addiw 1 2 0, .addw 1 2 3, .mulw 1 2 3,
      .lrD 1 2 0 0, .amoaddD 1 2 3 0 0, .fcvtLS 1 2 0, .fcvtDL 1 2 0, .fmvXD 1 2, .cLd 0 0 0, .cAddiw 1 0, .cLq 0 0 0,
      .cSubw 0 0, .cSdsp 1 0, .fmvhXQ 1 2] : List Instr), i.wf config32 = false) ∧
    (∀ i ∈ ([.slliRv32 1 2 3, .srliRv128 1 2 3, .cJal 0, .cFlw 0 0 0, .cFlwsp 1 0, .cLqsp 1 0, .cSqsp 1 0, .fmvhXD 1 2,
      .fmvpDX 1 2 3] : List Instr), i.wf configReset = false) ∧
    (∀ i ∈ ([.sraiRv64 1 2 3, .cFld 0 0 0, .cFsdsp 1 0, .cZextW 0] : List Instr), i.wf config128 = false) := by decide

/-- Reserved values of fields. -/
theorem test_wf_reserved :
    (∀ i ∈ ([.cAddi4spn 0 0, .cAddi 0 1, .cAddi16sp 0, .cLui 2 1, .cLui 1 0, .cLwsp 0 0, .cJr 0, .cJalr 0,
      .cMv 1 0, .cAdd 1 0] : List Instr), i.wf config32 = false) ∧
    (∀ i ∈ ([.cSrli 0 32, .cSrai 0 32, .cSlli 1 32] : List Instr), i.wf config32 = false) ∧
    (∀ i ∈ ([.cAddiw 0 0, .cLdsp 0 0] : List Instr), i.wf configReset = false) ∧
    (Instr.cLqsp 0 0).wf config128 = false ∧
    (∀ i ∈ ([.cmPush 3 0, .cmPop 0 0, .cmPopret 1 0, .cmPopretz 2 0, .cmMvsa01 5 5, .cmJalt 31] : List Instr),
      i.wf configZc64 = false) := by decide

/-- Bits that are those of a more specific row. -/
theorem test_wf_specific : ∀ i ∈ ([
    .add 0 0 2, .add 0 0 5, .cAdd 0 2, .cAdd 0 5, .ori 0 3 0, .ori 0 3 0x021, .ori 0 3 0x043, .fence 8 3 3 1 2,
    .fence 0 1 0 0 0] : List Instr), i.wf configReset = false := by decide
theorem test_wf_not_specific : ∀ i ∈ ([
    .add 0 0 1, .add 0 0 6, .add 1 0 2, .cAdd 0 6, .ori 1 3 0, .ori 0 3 2, .fence 0 3 3 0 0, .fence 0 1 0 1 0] : List Instr),
    i.wf configReset = true := by decide

/-! ## Decoding: the word of every constructor, written out from the fields of opcode_table.json -/

theorem test_decode_I_reset_0 :
    decode configReset (0b101100101110#12 ++ 0b01100#5 ++ 0b000#3 ++ 0b10011#5 ++ 0b0010011#7) = .ok (.addi 0b10011 0b01100 0b101100101110) ∧
    decode configReset (0b101100101110#12 ++ 0b01100#5 ++ 0b010#3 ++ 0b10011#5 ++ 0b0010011#7) = .ok (.slti 0b10011 0b01100 0b101100101110) ∧
    decode configReset (0b101100101110#12 ++ 0b01100#5 ++ 0b011#3 ++ 0b10011#5 ++ 0b0010011#7) = .ok (.sltiu 0b10011 0b01100 0b101100101110) ∧
    decode configReset (0b101100101110#12 ++ 0b01100#5 ++ 0b100#3 ++ 0b10011#5 ++ 0b0010011#7) = .ok (.xori 0b10011 0b01100 0b101100101110) ∧
    decode configReset (0b101100101110#12 ++ 0b01100#5 ++ 0b110#3 ++ 0b10011#5 ++ 0b0010011#7) = .ok (.ori 0b10011 0b01100 0b101100101110) ∧
    decode configReset (0b101100101110#12 ++ 0b01100#5 ++ 0b111#3 ++ 0b10011#5 ++ 0b0010011#7) = .ok (.andi 0b10011 0b01100 0b101100101110) ∧
    decode configReset (0b000000#6 ++ 0b101100#6 ++ 0b01100#5 ++ 0b001#3 ++ 0b10011#5 ++ 0b0010011#7) = .ok (.slliRv64 0b10011 0b01100 0b101100) ∧
    decode configReset (0b000000#6 ++ 0b101100#6 ++ 0b01100#5 ++ 0b101#3 ++ 0b10011#5 ++ 0b0010011#7) = .ok (.srliRv64 0b10011 0b01100 0b101100) ∧
    decode configReset (0b010000#6 ++ 0b101100#6 ++ 0b01100#5 ++ 0b101#3 ++ 0b10011#5 ++ 0b0010011#7) = .ok (.sraiRv64 0b10011 0b01100 0b101100) ∧
    decode configReset (0b10110010111000100110#20 ++ 0b10011#5 ++ 0b0110111#7) = .ok (.lui 0b10011 0b10110010111000100110) ∧
    decode configReset (0b10110010111000100110#20 ++ 0b10011#5 ++ 0b0010111#7) = .ok (.auipc 0b10011 0b10110010111000100110) ∧
    decode configReset (0b0000000#7 ++ 0b11001#5 ++ 0b01100#5 ++ 0b000#3 ++ 0b10011#5 ++ 0b0110011#7) = .ok (.add 0b10011 0b01100 0b11001) ∧
    decode configReset (0b0100000#7 ++ 0b11001#5 ++ 0b01100#5 ++ 0b000#3 ++ 0b10011#5 ++ 0b0110011#7) = .ok (.sub 0b10011 0b01100 0b11001) ∧
    decode configReset (0b0000000#7 ++ 0b11001#5 ++ 0b01100#5 ++ 0b001#3 ++ 0b10011#5 ++ 0b0110011#7) = .ok (.sll 0b10011 0b01100 0b11001) ∧
    decode configReset (0b0000000#7 ++ 0b11001#5 ++ 0b01100#5 ++ 0b010#3 ++ 0b10011#5 ++ 0b0110011#7) = .ok (.slt 0b10011 0b01100 0b11001) ∧
    decode configReset (0b0000000#7 ++ 0b11001#5 ++ 0b01100#5 ++ 0b011#3 ++ 0b10011#5 ++ 0b0110011#7) = .ok (.sltu 0b10011 0b01100 0b11001) :=
  ⟨rfl, rfl, rfl, rfl, rfl, rfl, rfl, rfl, rfl, rfl, rfl, rfl, rfl, rfl, rfl, rfl⟩

theorem test_decode_I_reset_1 :
    decode configReset (0b0000000#7 ++ 0b11001#5 ++ 0b01100#5 ++ 0b100#3 ++ 0b10011#5 ++ 0b0110011#7) = .ok (.xor 0b10011 0b01100 0b11001) ∧
    decode configReset (0b0000000#7 ++ 0b11001#5 ++ 0b01100#5 ++ 0b101#3 ++ 0b10011#5 ++ 0b0110011#7) = .ok (.srl 0b10011 0b01100 0b11001) ∧
    decode configReset (0b0100000#7 ++ 0b11001#5 ++ 0b01100#5 ++ 0b101#3 ++ 0b10011#5 ++ 0b0110011#7) = .ok (.sra 0b10011 0b01100 0b11001) ∧
    decode configReset (0b0000000#7 ++ 0b11001#5 ++ 0b01100#5 ++ 0b110#3 ++ 0b10011#5 ++ 0b0110011#7) = .ok (.or 0b10011 0b01100 0b11001) ∧
    decode configReset (0b0000000#7 ++ 0b11001#5 ++ 0b01100#5 ++ 0b111#3 ++ 0b10011#5 ++ 0b0110011#7) = .ok (.and 0b10011 0b01100 0b11001) ∧
    decode configReset (0b1#1 ++ 0b1000100110#10 ++ 0b1#1 ++ 0b01100101#8 ++ 0b10011#5 ++ 0b1101111#7) = .ok (.jal 0b10011 0b10110010111000100110) ∧
    decode configReset (0b101100101110#12 ++ 0b01100#5 ++ 0b000#3 ++ 0b10011#5 ++ 0b1100111#7) = .ok (.jalr 0b10011 0b01100 0b101100101110) ∧
    decode configReset (0b1#1 ++ 0b110010#6 ++ 0b11001#5 ++ 0b01100#5 ++ 0b000#3 ++ 0b1110#4 ++ 0b0#1 ++ 0b1100011#7) = .ok (.beq 0b01100 0b11001 0b101100101110) ∧
    decode configReset (0b1#1 ++ 0b110010#6 ++ 0b11001#5 ++ 0b01100#5 ++ 0b001#3 ++ 0b1110#4 ++ 0b0#1 ++ 0b1100011#7) = .ok (.bne 0b01100 0b11001 0b101100101110) ∧
    decode configReset (0b1#1 ++ 0b110010#6 ++ 0b11001#5 ++ 0b01100#5 ++ 0b100#3 ++ 0b1110#4 ++ 0b0#1 ++ 0b1100011#7) = .ok (.blt 0b01100 0b11001 0b101100101110) ∧
    decode configReset (0b1#1 ++ 0b110010#6 ++ 0b11001#5 ++ 0b01100#5 ++ 0b101#3 ++ 0b1110#4 ++ 0b0#1 ++ 0b1100011#7) = .ok (.bge 0b01100 0b11001 0b101100101110) ∧
    decode configReset (0b1#1 ++ 0b110010#6 ++ 0b11001#5 ++ 0b01100#5 ++ 0b110#3 ++ 0b1110#4 ++ 0b0#1 ++ 0b1100011#7) = .ok (.bltu 0b01100 0b11001 0b101100101110) ∧
    decode configReset (0b1#1 ++ 0b110010#6 ++ 0b11001#5 ++ 0b01100#5 ++ 0b111#3 ++ 0b1110#4 ++ 0b0#1 ++ 0b1100011#7) = .ok (.bgeu 0b01100 0b11001 0b101100101110) ∧
    decode configReset (0b101100101110#12 ++ 0b01100#5 ++ 0b000#3 ++ 0b10011#5 ++ 0b0000011#7) = .ok (.lb 0b10011 0b01100 0b101100101110) ∧
    decode configReset (0b101100101110#12 ++ 0b01100#5 ++ 0b001#3 ++ 0b10011#5 ++ 0b0000011#7) = .ok (.lh 0b10011 0b01100 0b101100101110) ∧
    decode configReset (0b101100101110#12 ++ 0b01100#5 ++ 0b010#3 ++ 0b10011#5 ++ 0b0000011#7) = .ok (.lw 0b10011 0b01100 0b101100101110) :=
  ⟨rfl, rfl, rfl, rfl, rfl, rfl, rfl, rfl, rfl, rfl, rfl, rfl, rfl, rfl, rfl, rfl⟩

theorem test_decode_I_reset_2 :
    decode configReset (0b101100101110#12 ++ 0b01100#5 ++ 0b100#3 ++ 0b10011#5 ++ 0b0000011#7) = .ok (.lbu 0b10011 0b01100 0b101100101110) ∧
    decode configReset (0b101100101110#12 ++ 0b01100#5 ++ 0b101#3 ++ 0b10011#5 ++ 0b0000011#7) = .ok (.lhu 0b10011 0b01100 0b101100101110) ∧
    decode configReset (0b1011001#7 ++ 0b11001#5 ++ 0b01100#5 ++ 0b000#3 ++ 0b01110#5 ++ 0b0100011#7) = .ok (.sb 0b01100 0b11001 0b101100101110) ∧
    decode configReset (0b1011001#7 ++ 0b11001#5 ++ 0b01100#5 ++ 0b001#3 ++ 0b01110#5 ++ 0b0100011#7) = .ok (.sh 0b01100 0b11001 0b101100101110) ∧
    decode configReset (0b1011001#7 ++ 0b11001#5 ++ 0b01100#5 ++ 0b010#3 ++ 0b01110#5 ++ 0b0100011#7) = .ok (.sw 0b01100 0b11001 0b101100101110) ∧
    decode configReset (0b0110#4 ++ 0b1010#4 ++ 0b0101#4 ++ 0b01100#5 ++ 0b000#3 ++ 0b10011#5 ++ 0b0001111#7) = .ok (.fence 0b0110 0b1010 0b0101 0b01100 0b10011) ∧
    decode configReset (0b1000001#7 ++ 0b10011#5 ++ 0b01100#5 ++ 0b000#3 ++ 0b10011#5 ++ 0b0001111#7) = .ok (.fenceTso 0b01100 0b10011) ∧
    decode configReset (0b0000000#7 ++ 0b00000#5 ++ 0b00000#5 ++ 0b000#3 ++ 0b00000#5 ++ 0b1110011#7) = .ok (.ecall) ∧
    decode configReset (0b0000000#7 ++ 0b00001#5 ++ 0b00000#5 ++ 0b000#3 ++ 0b00000#5 ++ 0b1110011#7) = .ok (.ebreak) ∧
    decode configReset (0b101100101110#12 ++ 0b01100#5 ++ 0b000#3 ++ 0b10011#5 ++ 0b0011011#7) = .ok (.addiw 0b10011 0b01100 0b101100101110) ∧
    decode configReset (0b0000000#7 ++ 0b10110#5 ++ 0b01100#5 ++ 0b001#3 ++ 0b10011#5 ++ 0b0011011#7) = .ok (.slliw 0b10011 0b01100 0b10110) ∧
    decode configReset (0b0000000#7 ++ 0b10110#5 ++ 0b01100#5 ++ 0b101#3 ++ 0b10011#5 ++ 0b0011011#7) = .ok (.srliw 0b10011 0b01100 0b10110) ∧
    decode configReset (0b0100000#7 ++ 0b10110#5 ++ 0b01100#5 ++ 0b101#3 ++ 0b10011#5 ++ 0b0011011#7) = .ok (.sraiw 0b10011 0b01100 0b10110) ∧
    decode configReset (0b0000000#7 ++ 0b11001#5 ++ 0b01100#5 ++ 0b000#3 ++ 0b10011#5 ++ 0b0111011#7) = .ok (.addw 0b10011 0b01100 0b11001) ∧
    decode configReset (0b0100000#7 ++ 0b11001#5 ++ 0b01100#5 ++ 0b000#3 ++ 0b10011#5 ++ 0b0111011#7) = .ok (.subw 0b10011 0b01100 0b11001) ∧
    decode configReset (0b0000000#7 ++ 0b11001#5 ++ 0b01100#5 ++ 0b001#3 ++ 0b10011#5 ++ 0b0111011#7) = .ok (.sllw 0b10011 0b01100 0b11001) :=
  ⟨rfl, rfl, rfl, rfl, rfl, rfl, rfl, rfl, rfl, rfl, rfl, rfl, rfl, rfl, rfl, rfl⟩

theorem test_decode_I_reset_3 :
    decode configReset (0b0000000#7 ++ 0b11001#5 ++ 0b01100#5 ++ 0b101#3 ++ 0b10011#5 ++ 0b0111011#7) = .ok (.srlw 0b10011 0b01100 0b11001) ∧
    decode configReset (0b0100000#7 ++ 0b11001#5 ++ 0b01100#5 ++ 0b101#3 ++ 0b10011#5 ++ 0b0111011#7) = .ok (.sraw 0b10011 0b01100 0b11001) ∧
    decode configReset (0b101100101110#12 ++ 0b01100#5 ++ 0b011#3 ++ 0b10011#5 ++ 0b0000011#7) = .ok (.ld 0b10011 0b01100 0b101100101110) ∧
    decode configReset (0b101100101110#12 ++ 0b01100#5 ++ 0b110#3 ++ 0b10011#5 ++ 0b0000011#7) = .ok (.lwu 0b10011 0b01100 0b101100101110) ∧
    decode configReset (0b1011001#7 ++ 0b11001#5 ++ 0b01100#5 ++ 0b011#3 ++ 0b01110#5 ++ 0b0100011#7) = .ok (.sd 0b01100 0b11001 0b101100101110) :=
  ⟨rfl, rfl, rfl, rfl, rfl⟩

theorem test_decode_I_32 :
    decode config32 (0b0000000#7 ++ 0b10110#5 ++ 0b01100#5 ++ 0b001#3 ++ 0b10011#5 ++ 0b0010011#7) = .ok (.slliRv32 0b10011 0b01100 0b10110) ∧
    decode config32 (0b0000000#7 ++ 0b10110#5 ++ 0b01100#5 ++ 0b101#3 ++ 0b10011#5 ++ 0b0010011#7) = .ok (.srliRv32 0b10011 0b01100 0b10110) ∧
    decode config32 (0b0100000#7 ++ 0b10110#5 ++ 0b01100#5 ++ 0b101#3 ++ 0b10011#5 ++ 0b0010011#7) = .ok (.sraiRv32 0b10011 0b01100 0b10110) :=
  ⟨rfl, rfl, rfl⟩

theorem test_decode_I_128 :
    decode config128 (0b00000#5 ++ 0b1011001#7 ++ 0b01100#5 ++ 0b001#3 ++ 0b10011#5 ++ 0b0010011#7) = .ok (.slliRv128 0b10011 0b01100 0b1011001) ∧
    decode config128 (0b00000#5 ++ 0b1011001#7 ++ 0b01100#5 ++ 0b101#3 ++ 0b10011#5 ++ 0b0010011#7) = .ok (.srliRv128 0b10011 0b01100 0b1011001) ∧
    decode config128 (0b01000#5 ++ 0b1011001#7 ++ 0b01100#5 ++ 0b101#3 ++ 0b10011#5 ++ 0b0010011#7) = .ok (.sraiRv128 0b10011 0b01100 0b1011001) :=
  ⟨rfl, rfl, rfl⟩

theorem test_decode_Zihintpause_reset :
    decode configReset (0b0000000#7 ++ 0b10000#5 ++ 0b00000#5 ++ 0b000#3 ++ 0b00000#5 ++ 0b0001111#7) = .ok (.pause) :=
  rfl

theorem test_decode_Zifencei_reset :
    decode configReset (0b101100101110#12 ++ 0b01100#5 ++ 0b001#3 ++ 0b10011#5 ++ 0b0001111#7) = .ok (.fenceI 0b101100101110 0b01100 0b10011) :=
  rfl

theorem test_decode_Zihintntl_reset :
    decode configReset (0b0000000#7 ++ 0b00010#5 ++ 0b00000#5 ++ 0b000#3 ++ 0b00000#5 ++ 0b0110011#7) = .ok (.ntlP1) ∧
    decode configReset (0b0000000#7 ++ 0b00011#5 ++ 0b00000#5 ++ 0b000#3 ++ 0b00000#5 ++ 0b0110011#7) = .ok (.ntlPall) ∧
    decode configReset (0b0000000#7 ++ 0b00100#5 ++ 0b00000#5 ++ 0b000#3 ++ 0b00000#5 ++ 0b0110011#7) = .ok (.ntlS1) ∧
    decode configReset (0b0000000#7 ++ 0b00101#5 ++ 0b00000#5 ++ 0b000#3 ++ 0b00000#5 ++ 0b0110011#7) = .ok (.ntlAll) :=
  ⟨rfl, rfl, rfl, rfl⟩

theorem test_decode_ZihintntlZca_reset :
    decode configReset (0#16 ++ 0b100#3 ++ 0b10000000010#11 ++ 0b10#2) = .ok (.cNtlP1) ∧
    decode configReset (0#16 ++ 0b100#3 ++ 0b10000000011#11 ++ 0b10#2) = .ok (.cNtlPall) ∧
    decode configReset (0#16 ++ 0b100#3 ++ 0b10000000100#11 ++ 0b10#2) = .ok (.cNtlS1) ∧
    decode configReset (0#16 ++ 0b100#3 ++ 0b10000000101#11 ++ 0b10#2) = .ok (.cNtlAll) :=
  ⟨rfl, rfl, rfl, rfl⟩

theorem test_decode_MZmmul_reset :
    decode configReset (0b0000001#7 ++ 0b11001#5 ++ 0b01100#5 ++ 0b000#3 ++ 0b10011#5 ++ 0b0110011#7) = .ok (.mul 0b10011 0b01100 0b11001) ∧
    decode configReset (0b0000001#7 ++ 0b11001#5 ++ 0b01100#5 ++ 0b001#3 ++ 0b10011#5 ++ 0b0110011#7) = .ok (.mulh 0b10011 0b01100 0b11001) ∧
    decode configReset (0b0000001#7 ++ 0b11001#5 ++ 0b01100#5 ++ 0b010#3 ++ 0b10011#5 ++ 0b0110011#7) = .ok (.mulhsu 0b10011 0b01100 0b11001) ∧
    decode configReset (0b0000001#7 ++ 0b11001#5 ++ 0b01100#5 ++ 0b011#3 ++ 0b10011#5 ++ 0b0110011#7) = .ok (.mulhu 0b10011 0b01100 0b11001) ∧
    decode configReset (0b0000001#7 ++ 0b11001#5 ++ 0b01100#5 ++ 0b000#3 ++ 0b10011#5 ++ 0b0111011#7) = .ok (.mulw 0b10011 0b01100 0b11001) :=
  ⟨rfl, rfl, rfl, rfl, rfl⟩

theorem test_decode_M_reset :
    decode configReset (0b0000001#7 ++ 0b11001#5 ++ 0b01100#5 ++ 0b100#3 ++ 0b10011#5 ++ 0b0110011#7) = .ok (.div 0b10011 0b01100 0b11001) ∧
    decode configReset (0b0000001#7 ++ 0b11001#5 ++ 0b01100#5 ++ 0b101#3 ++ 0b10011#5 ++ 0b0110011#7) = .ok (.divu 0b10011 0b01100 0b11001) ∧
    decode configReset (0b0000001#7 ++ 0b11001#5 ++ 0b01100#5 ++ 0b110#3 ++ 0b10011#5 ++ 0b0110011#7) = .ok (.rem 0b10011 0b01100 0b11001) ∧
    decode configReset (0b0000001#7 ++ 0b11001#5 ++ 0b01100#5 ++ 0b111#3 ++ 0b10011#5 ++ 0b0110011#7) = .ok (.remu 0b10011 0b01100 0b11001) ∧
    decode configReset (0b0000001#7 ++ 0b11001#5 ++ 0b01100#5 ++ 0b100#3 ++ 0b10011#5 ++ 0b0111011#7) = .ok (.divw 0b10011 0b01100 0b11001) ∧
    decode configReset (0b0000001#7 ++ 0b11001#5 ++ 0b01100#5 ++ 0b101#3 ++ 0b10011#5 ++ 0b0111011#7) = .ok (.divuw 0b10011 0b01100 0b11001) ∧
    decode configReset (0b0000001#7 ++ 0b11001#5 ++ 0b01100#5 ++ 0b110#3 ++ 0b10011#5 ++ 0b0111011#7) = .ok (.remw 0b10011 0b01100 0b11001) ∧
    decode configReset (0b0000001#7 ++ 0b11001#5 ++ 0b01100#5 ++ 0b111#3 ++ 0b10011#5 ++ 0b0111011#7) = .ok (.remuw 0b10011 0b01100 0b11001) :=
  ⟨rfl, rfl, rfl, rfl, rfl, rfl, rfl, rfl⟩

theorem test_decode_A_reset_0 :
    decode configReset (0b00010#5 ++ 0b1#1 ++ 0b0#1 ++ 0b00000#5 ++ 0b01100#5 ++ 0b010#3 ++ 0b10011#5 ++ 0b0101111#7) = .ok (.lrW 0b10011 0b01100 0b1 0b0) ∧
    decode configReset (0b00011#5 ++ 0b1#1 ++ 0b0#1 ++ 0b11001#5 ++ 0b01100#5 ++ 0b010#3 ++ 0b10011#5 ++ 0b0101111#7) = .ok (.scW 0b10011 0b01100 0b11001 0b1 0b0) ∧
    decode configReset (0b00010#5 ++ 0b1#1 ++ 0b0#1 ++ 0b00000#5 ++ 0b01100#5 ++ 0b011#3 ++ 0b10011#5 ++ 0b0101111#7) = .ok (.lrD 0b10011 0b01100 0b1 0b0) ∧
    decode configReset (0b00011#5 ++ 0b1#1 ++ 0b0#1 ++ 0b11001#5 ++ 0b01100#5 ++ 0b011#3 ++ 0b10011#5 ++ 0b0101111#7) = .ok (.scD 0b10011 0b01100 0b11001 0b1 0b0) ∧
    decode configReset (0b00001#5 ++ 0b1#1 ++ 0b0#1 ++ 0b11001#5 ++ 0b01100#5 ++ 0b010#3 ++ 0b10011#5 ++ 0b0101111#7) = .ok (.amoswapW 0b10011 0b01100 0b11001 0b1 0b0) ∧
    decode configReset (0b00001#5 ++ 0b1#1 ++ 0b0#1 ++ 0b11001#5 ++ 0b01100#5 ++ 0b011#3 ++ 0b10011#5 ++ 0b0101111#7) = .ok (.amoswapD 0b10011 0b01100 0b11001 0b1 0b0) ∧
    decode configReset (0b00000#5 ++ 0b1#1 ++ 0b0#1 ++ 0b11001#5 ++ 0b01100#5 ++ 0b010#3 ++ 0b10011#5 ++ 0b0101111#7) = .ok (.amoaddW 0b10011 0b01100 0b11001 0b1 0b0) ∧
    decode configReset (0b00000#5 ++ 0b1#1 ++ 0b0#1 ++ 0b11001#5 ++ 0b01100#5 ++ 0b011#3 ++ 0b10011#5 ++ 0b0101111#7) = .ok (.amoaddD 0b10011 0b01100 0b11001 0b1 0b0) ∧
    decode configReset (0b00100#5 ++ 0b1#1 ++ 0b0#1 ++ 0b11001#5 ++ 0b01100#5 ++ 0b010#3 ++ 0b10011#5 ++ 0b0101111#7) = .ok (.amoxorW 0b10011 0b01100 0b11001 0b1 0b0) ∧
    decode configReset (0b00100#5 ++ 0b1#1 ++ 0b0#1 ++ 0b11001#5 ++ 0b01100#5 ++ 0b011#3 ++ 0b10011#5 ++ 0b0101111#7) = .ok (.amoxorD 0b10011 0b01100 0b11001 0b1 0b0) ∧
    decode configReset (0b01100#5 ++ 0b1#1 ++ 0b0#1 ++ 0b11001#5 ++ 0b01100#5 ++ 0b010#3 ++ 0b10011#5 ++ 0b0101111#7) = .ok (.amoandW 0b10011 0b01100 0b11001 0b1 0b0) ∧
    decode configReset (0b01100#5 ++ 0b1#1 ++ 0b0#1 ++ 0b11001#5 ++ 0b01100#5 ++ 0b011#3 ++ 0b10011#5 ++ 0b0101111#7) = .ok (.amoandD 0b10011 0b01100 0b11001 0b1 0b0) ∧
    decode configReset (0b01000#5 ++ 0b1#1 ++ 0b0#1 ++ 0b11001#5 ++ 0b01100#5 ++ 0b010#3 ++ 0b10011#5 ++ 0b0101111#7) = .ok (.amoorW 0b10011 0b01100 0b11001 0b1 0b0) ∧
    decode configReset (0b01000#5 ++ 0b1#1 ++ 0b0#1 ++ 0b11001#5 ++ 0b01100#5 ++ 0b011#3 ++ 0b10011#5 ++ 0b0101111#7) = .ok (.amoorD 0b10011 0b01100 0b11001 0b1 0b0) ∧
    decode configReset (0b10000#5 ++ 0b1#1 ++ 0b0#1 ++ 0b11001#5 ++ 0b01100#5 ++ 0b010#3 ++ 0b10011#5 ++ 0b0101111#7) = .ok (.amominW 0b10011 0b01100 0b11001 0b1 0b0) ∧
    decode configReset (0b10000#5 ++ 0b1#1 ++ 0b0#1 ++ 0b11001#5 ++ 0b01100#5 ++ 0b011#3 ++ 0b10011#5 ++ 0b0101111#7) = .ok (.amominD 0b10011 0b01100 0b11001 0b1 0b0) :=
  ⟨rfl, rfl, rfl, rfl, rfl, rfl, rfl, rfl, rfl, rfl, rfl, rfl, rfl, rfl, rfl, rfl⟩

theorem test_decode_A_reset_1 :
    decode configReset (0b10100#5 ++ 0b1#1 ++ 0b0#1 ++ 0b11001#5 ++ 0b01100#5 ++ 0b010#3 ++ 0b10011#5 ++ 0b0101111#7) = .ok (.amomaxW 0b10011 0b01100 0b11001 0b1 0b0) ∧
    decode configReset (0b10100#5 ++ 0b1#1 ++ 0b0#1 ++ 0b11001#5 ++ 0b01100#5 ++ 0b011#3 ++ 0b10011#5 ++ 0b0101111#7) = .ok (.amomaxD 0b10011 0b01100 0b11001 0b1 0b0) ∧
    decode configReset (0b11000#5 ++ 0b1#1 ++ 0b0#1 ++ 0b11001#5 ++ 0b01100#5 ++ 0b010#3 ++ 0b10011#5 ++ 0b0101111#7) = .ok (.amominuW 0b10011 0b01100 0b11001 0b1 0b0) ∧
    decode configReset (0b11000#5 ++ 0b1#1 ++ 0b0#1 ++ 0b11001#5 ++ 0b01100#5 ++ 0b011#3 ++ 0b10011#5 ++ 0b0101111#7) = .ok (.amominuD 0b10011 0b01100 0b11001 0b1 0b0) ∧
    decode configReset (0b11100#5 ++ 0b1#1 ++ 0b0#1 ++ 0b11001#5 ++ 0b01100#5 ++ 0b010#3 ++ 0b10011#5 ++ 0b0101111#7) = .ok (.amomaxuW 0b10011 0b01100 0b11001 0b1 0b0) ∧
    decode configReset (0b11100#5 ++ 0b1#1 ++ 0b0#1 ++ 0b11001#5 ++ 0b01100#5 ++ 0b011#3 ++ 0b10011#5 ++ 0b0101111#7) = .ok (.amomaxuD 0b10011 0b01100 0b11001 0b1 0b0) :=
  ⟨rfl, rfl, rfl, rfl, rfl, rfl⟩

theorem test_decode_Zicsr_reset :
    decode configReset (0b110000000001#12 ++ 0b01100#5 ++ 0b001#3 ++ 0b10011#5 ++ 0b1110011#7) = .ok (.csrrw 0b10011 0b01100 0b110000000001) ∧
    decode configReset (0b110000000001#12 ++ 0b01100#5 ++ 0b010#3 ++ 0b10011#5 ++ 0b1110011#7) = .ok (.csrrs 0b10011 0b01100 0b110000000001) ∧
    decode configReset (0b110000000001#12 ++ 0b01100#5 ++ 0b011#3 ++ 0b10011#5 ++ 0b1110011#7) = .ok (.csrrc 0b10011 0b01100 0b110000000001) ∧
    decode configReset (0b110000000001#12 ++ 0b10110#5 ++ 0b101#3 ++ 0b10011#5 ++ 0b1110011#7) = .ok (.csrrwi 0b10011 0b10110 0b110000000001) ∧
    decode configReset (0b110000000001#12 ++ 0b10110#5 ++ 0b110#3 ++ 0b10011#5 ++ 0b1110011#7) = .ok (.csrrsi 0b10011 0b10110 0b110000000001) ∧
    decode configReset (0b110000000001#12 ++ 0b10110#5 ++ 0b111#3 ++ 0b10011#5 ++ 0b1110011#7) = .ok (.csrrci 0b10011 0b10110 0b110000000001) :=
  ⟨rfl, rfl, rfl, rfl, rfl, rfl⟩

theorem test_decode_F_reset_0 :
    decode configReset (0b101100101110#12 ++ 0b01100#5 ++ 0b010#3 ++ 0b10011#5 ++ 0b0000111#7) = .ok (.flw 0b10011 0b01100 0b101100101110) ∧
    decode configReset (0b1011001#7 ++ 0b11001#5 ++ 0b01100#5 ++ 0b010#3 ++ 0b01110#5 ++ 0b0100111#7) = .ok (.fsw 0b01100 0b11001 0b101100101110) ∧
    decode configReset (0b00110#5 ++ 0b00#2 ++ 0b11001#5 ++ 0b01100#5 ++ 0b010#3 ++ 0b10011#5 ++ 0b1000011#7) = .ok (.fmaddS 0b10011 0b01100 0b11001 0b00110 0b010) ∧
    decode configReset (0b00110#5 ++ 0b00#2 ++ 0b11001#5 ++ 0b01100#5 ++ 0b010#3 ++ 0b10011#5 ++ 0b1000111#7) = .ok (.fmsubS 0b10011 0b01100 0b11001 0b00110 0b010) ∧
    decode configReset (0b00110#5 ++ 0b00#2 ++ 0b11001#5 ++ 0b01100#5 ++ 0b010#3 ++ 0b10011#5 ++ 0b1001011#7) = .ok (.fnmsubS 0b10011 0b01100 0b11001 0b00110 0b010) ∧
    decode configReset (0b00110#5 ++ 0b00#2 ++ 0b11001#5 ++ 0b01100#5 ++ 0b010#3 ++ 0b10011#5 ++ 0b1001111#7) = .ok (.fnmaddS 0b10011 0b01100 0b11001 0b00110 0b010) ∧
    decode configReset (0b0000000#7 ++ 0b11001#5 ++ 0b01100#5 ++ 0b010#3 ++ 0b10011#5 ++ 0b1010011#7) = .ok (.faddS 0b10011 0b01100 0b11001 0b010) ∧
    decode configReset (0b0000100#7 ++ 0b11001#5 ++ 0b01100#5 ++ 0b010#3 ++ 0b10011#5 ++ 0b1010011#7) = .ok (.fsubS 0b10011 0b01100 0b11001 0b010) ∧
    decode configReset (0b0001000#7 ++ 0b11001#5 ++ 0b01100#5 ++ 0b010#3 ++ 0b10011#5 ++ 0b1010011#7) = .ok (.fmulS 0b10011 0b01100 0b11001 0b010) ∧
    decode configReset (0b0001100#7 ++ 0b11001#5 ++ 0b01100#5 ++ 0b010#3 ++ 0b10011#5 ++ 0b1010011#7) = .ok (.fdivS 0b10011 0b01100 0b11001 0b010) ∧
    decode configReset (0b0101100#7 ++ 0b00000#5 ++ 0b01100#5 ++ 0b010#3 ++ 0b10011#5 ++ 0b1010011#7) = .ok (.fsqrtS 0b10011 0b01100 0b010) ∧
    decode configReset (0b0010000#7 ++ 0b11001#5 ++ 0b01100#5 ++ 0b000#3 ++ 0b10011#5 ++ 0b1010011#7) = .ok (.fsgnjS 0b10011 0b01100 0b11001) ∧
    decode configReset (0b0010000#7 ++ 0b11001#5 ++ 0b01100#5 ++ 0b001#3 ++ 0b10011#5 ++ 0b1010011#7) = .ok (.fsgnjnS 0b10011 0b01100 0b11001) ∧
    decode configReset (0b0010000#7 ++ 0b11001#5 ++ 0b01100#5 ++ 0b010#3 ++ 0b10011#5 ++ 0b1010011#7) = .ok (.fsgnjxS 0b10011 0b01100 0b11001) ∧
    decode configReset (0b0010100#7 ++ 0b11001#5 ++ 0b01100#5 ++ 0b000#3 ++ 0b10011#5 ++ 0b1010011#7) = .ok (.fminS 0b10011 0b01100 0b11001) ∧
    decode configReset (0b0010100#7 ++ 0b11001#5 ++ 0b01100#5 ++ 0b001#3 ++ 0b10011#5 ++ 0b1010011#7) = .ok (.fmaxS 0b10011 0b01100 0b11001) :=
  ⟨rfl, rfl, rfl, rfl, rfl, rfl, rfl, rfl, rfl, rfl, rfl, rfl, rfl, rfl, rfl, rfl⟩

theorem test_decode_F_reset_1 :
    decode configReset (0b1010000#7 ++ 0b11001#5 ++ 0b01100#5 ++ 0b010#3 ++ 0b10011#5 ++ 0b1010011#7) = .ok (.feqS 0b10011 0b01100 0b11001) ∧
    decode configReset (0b1010000#7 ++ 0b11001#5 ++ 0b01100#5 ++ 0b001#3 ++ 0b10011#5 ++ 0b1010011#7) = .ok (.fltS 0b10011 0b01100 0b11001) ∧
    decode configReset (0b1010000#7 ++ 0b11001#5 ++ 0b01100#5 ++ 0b000#3 ++ 0b10011#5 ++ 0b1010011#7) = .ok (.fleS 0b10011 0b01100 0b11001) ∧
    decode configReset (0b1110000#7 ++ 0b00000#5 ++ 0b01100#5 ++ 0b001#3 ++ 0b10011#5 ++ 0b1010011#7) = .ok (.fclassS 0b10011 0b01100) ∧
    decode configReset (0b1100000#7 ++ 0b00000#5 ++ 0b01100#5 ++ 0b010#3 ++ 0b10011#5 ++ 0b1010011#7) = .ok (.fcvtWS 0b10011 0b01100 0b010) ∧
    decode configReset (0b1101000#7 ++ 0b00000#5 ++ 0b01100#5 ++ 0b010#3 ++ 0b10011#5 ++ 0b1010011#7) = .ok (.fcvtSW 0b10011 0b01100 0b010) ∧
    decode configReset (0b1100000#7 ++ 0b00001#5 ++ 0b01100#5 ++ 0b010#3 ++ 0b10011#5 ++ 0b1010011#7) = .ok (.fcvtWuS 0b10011 0b01100 0b010) ∧
    decode configReset (0b1101000#7 ++ 0b00001#5 ++ 0b01100#5 ++ 0b010#3 ++ 0b10011#5 ++ 0b1010011#7) = .ok (.fcvtSWu 0b10011 0b01100 0b010) ∧
    decode configReset (0b1100000#7 ++ 0b00010#5 ++ 0b01100#5 ++ 0b010#3 ++ 0b10011#5 ++ 0b1010011#7) = .ok (.fcvtLS 0b10011 0b01100 0b010) ∧
    decode configReset (0b1101000#7 ++ 0b00010#5 ++ 0b01100#5 ++ 0b010#3 ++ 0b10011#5 ++ 0b1010011#7) = .ok (.fcvtSL 0b10011 0b01100 0b010) ∧
    decode configReset (0b1100000#7 ++ 0b00011#5 ++ 0b01100#5 ++ 0b010#3 ++ 0b10011#5 ++ 0b1010011#7) = .ok (.fcvtLuS 0b10011 0b01100 0b010) ∧
    decode configReset (0b1101000#7 ++ 0b00011#5 ++ 0b01100#5 ++ 0b010#3 ++ 0b10011#5 ++ 0b1010011#7) = .ok (.fcvtSLu 0b10011 0b01100 0b010) ∧
    decode configReset (0b1110000#7 ++ 0b00000#5 ++ 0b01100#5 ++ 0b000#3 ++ 0b10011#5 ++ 0b1010011#7) = .ok (.fmvXW 0b10011 0b01100) ∧
    decode configReset (0b1111000#7 ++ 0b00000#5 ++ 0b01100#5 ++ 0b000#3 ++ 0b10011#5 ++ 0b1010011#7) = .ok (.fmvWX 0b10011 0b01100) :=
  ⟨rfl, rfl, rfl, rfl, rfl, rfl, rfl, rfl, rfl, rfl, rfl, rfl, rfl, rfl⟩

theorem test_decode_D_reset_0 :
    decode configReset (0b101100101110#12 ++ 0b01100#5 ++ 0b011#3 ++ 0b10011#5 ++ 0b0000111#7) = .ok (.fld 0b10011 0b01100 0b101100101110) ∧
    decode configReset (0b1011001#7 ++ 0b11001#5 ++ 0b01100#5 ++ 0b011#3 ++ 0b01110#5 ++ 0b0100111#7) = .ok (.fsd 0b01100 0b11001 0b101100101110) ∧
    decode configReset (0b00110#5 ++ 0b01#2 ++ 0b11001#5 ++ 0b01100#5 ++ 0b010#3 ++ 0b10011#5 ++ 0b1000011#7) = .ok (.fmaddD 0b10011 0b01100 0b11001 0b00110 0b010) ∧
    decode configReset (0b00110#5 ++ 0b01#2 ++ 0b11001#5 ++ 0b01100#5 ++ 0b010#3 ++ 0b10011#5 ++ 0b1000111#7) = .ok (.fmsubD 0b10011 0b01100 0b11001 0b00110 0b010) ∧
    decode configReset (0b00110#5 ++ 0b01#2 ++ 0b11001#5 ++ 0b01100#5 ++ 0b010#3 ++ 0b10011#5 ++ 0b1001011#7) = .ok (.fnmsubD 0b10011 0b01100 0b11001 0b00110 0b010) ∧
    decode configReset (0b00110#5 ++ 0b01#2 ++ 0b11001#5 ++ 0b01100#5 ++ 0b010#3 ++ 0b10011#5 ++ 0b1001111#7) = .ok (.fnmaddD 0b10011 0b01100 0b11001 0b00110 0b010) ∧
    decode configReset (0b0000001#7 ++ 0b11001#5 ++ 0b01100#5 ++ 0b010#3 ++ 0b10011#5 ++ 0b1010011#7) = .ok (.faddD 0b10011 0b01100 0b11001 0b010) ∧
    decode configReset (0b0000101#7 ++ 0b11001#5 ++ 0b01100#5 ++ 0b010#3 ++ 0b10011#5 ++ 0b1010011#7) = .ok (.fsubD 0b10011 0b01100 0b11001 0b010) ∧
    decode configReset (0b0001001#7 ++ 0b11001#5 ++ 0b01100#5 ++ 0b010#3 ++ 0b10011#5 ++ 0b1010011#7) = .ok (.fmulD 0b10011 0b01100 0b11001 0b010) ∧
    decode configReset (0b0001101#7 ++ 0b11001#5 ++ 0b01100#5 ++ 0b010#3 ++ 0b10011#5 ++ 0b1010011#7) = .ok (.fdivD 0b10011 0b01100 0b11001 0b010) ∧
    decode configReset (0b0101101#7 ++ 0b00000#5 ++ 0b01100#5 ++ 0b010#3 ++ 0b10011#5 ++ 0b1010011#7) = .ok (.fsqrtD 0b10011 0b01100 0b010) ∧
    decode configReset (0b0010001#7 ++ 0b11001#5 ++ 0b01100#5 ++ 0b000#3 ++ 0b10011#5 ++ 0b1010011#7) = .ok (.fsgnjD 0b10011 0b01100 0b11001) ∧
    decode configReset (0b0010001#7 ++ 0b11001#5 ++ 0b01100#5 ++ 0b001#3 ++ 0b10011#5 ++ 0b1010011#7) = .ok (.fsgnjnD 0b10011 0b01100 0b11001) ∧
    decode configReset (0b0010001#7 ++ 0b11001#5 ++ 0b01100#5 ++ 0b010#3 ++ 0b10011#5 ++ 0b1010011#7) = .ok (.fsgnjxD 0b10011 0b01100 0b11001) ∧
    decode configReset (0b0010101#7 ++ 0b11001#5 ++ 0b01100#5 ++ 0b000#3 ++ 0b10011#5 ++ 0b1010011#7) = .ok (.fminD 0b10011 0b01100 0b11001) ∧
    decode configReset (0b0010101#7 ++ 0b11001#5 ++ 0b01100#5 ++ 0b001#3 ++ 0b10011#5 ++ 0b1010011#7) = .ok (.fmaxD 0b10011 0b01100 0b11001) :=
  ⟨rfl, rfl, rfl, rfl, rfl, rfl, rfl, rfl, rfl, rfl, rfl, rfl, rfl, rfl, rfl, rfl⟩

theorem test_decode_D_reset_1 :
    decode configReset (0b1010001#7 ++ 0b11001#5 ++ 0b01100#5 ++ 0b010#3 ++ 0b10011#5 ++ 0b1010011#7) = .ok (.feqD 0b10011 0b01100 0b11001) ∧
    decode configReset (0b1010001#7 ++ 0b11001#5 ++ 0b01100#5 ++ 0b001#3 ++ 0b10011#5 ++ 0b1010011#7) = .ok (.fltD 0b10011 0b01100 0b11001) ∧
    decode configReset (0b1010001#7 ++ 0b11001#5 ++ 0b01100#5 ++ 0b000#3 ++ 0b10011#5 ++ 0b1010011#7) = .ok (.fleD 0b10011 0b01100 0b11001) ∧
    decode configReset (0b1110001#7 ++ 0b00000#5 ++ 0b01100#5 ++ 0b001#3 ++ 0b10011#5 ++ 0b1010011#7) = .ok (.fclassD 0b10011 0b01100) ∧
    decode configReset (0b1100001#7 ++ 0b00000#5 ++ 0b01100#5 ++ 0b010#3 ++ 0b10011#5 ++ 0b1010011#7) = .ok (.fcvtWD 0b10011 0b01100 0b010) ∧
    decode configReset (0b1101001#7 ++ 0b00000#5 ++ 0b01100#5 ++ 0b010#3 ++ 0b10011#5 ++ 0b1010011#7) = .ok (.fcvtDW 0b10011 0b01100 0b010) ∧
    decode configReset (0b1100001#7 ++ 0b00001#5 ++ 0b01100#5 ++ 0b010#3 ++ 0b10011#5 ++ 0b1010011#7) = .ok (.fcvtWuD 0b10011 0b01100 0b010) ∧
    decode configReset (0b1101001#7 ++ 0b00001#5 ++ 0b01100#5 ++ 0b010#3 ++ 0b10011#5 ++ 0b1010011#7) = .ok (.fcvtDWu 0b10011 0b01100 0b010) ∧
    decode configReset (0b1100001#7 ++ 0b00010#5 ++ 0b01100#5 ++ 0b010#3 ++ 0b10011#5 ++ 0b1010011#7) = .ok (.fcvtLD 0b10011 0b01100 0b010) ∧
    decode configReset (0b1101001#7 ++ 0b00010#5 ++ 0b01100#5 ++ 0b010#3 ++ 0b10011#5 ++ 0b1010011#7) = .ok (.fcvtDL 0b10011 0b01100 0b010) ∧
    decode configReset (0b1100001#7 ++ 0b00011#5 ++ 0b01100#5 ++ 0b010#3 ++ 0b10011#5 ++ 0b1010011#7) = .ok (.fcvtLuD 0b10011 0b01100 0b010) ∧
    decode configReset (0b1101001#7 ++ 0b00011#5 ++ 0b01100#5 ++ 0b010#3 ++ 0b10011#5 ++ 0b1010011#7) = .ok (.fcvtDLu 0b10011 0b01100 0b010) ∧
    decode configReset (0b1110001#7 ++ 0b00000#5 ++ 0b01100#5 ++ 0b000#3 ++ 0b10011#5 ++ 0b1010011#7) = .ok (.fmvXD 0b10011 0b01100) ∧
    decode configReset (0b1111001#7 ++ 0b00000#5 ++ 0b01100#5 ++ 0b000#3 ++ 0b10011#5 ++ 0b1010011#7) = .ok (.fmvDX 0b10011 0b01100) ∧
    decode configReset (0b0100000#7 ++ 0b00001#5 ++ 0b01100#5 ++ 0b010#3 ++ 0b10011#5 ++ 0b1010011#7) = .ok (.fcvtSD 0b10011 0b01100 0b010) ∧
    decode configReset (0b0100001#7 ++ 0b00000#5 ++ 0b01100#5 ++ 0b010#3 ++ 0b10011#5 ++ 0b1010011#7) = .ok (.fcvtDS 0b10011 0b01100 0b010) :=
  ⟨rfl, rfl, rfl, rfl, rfl, rfl, rfl, rfl, rfl, rfl, rfl, rfl, rfl, rfl, rfl, rfl⟩

theorem test_decode_Q_reset_0 :
    decode configReset (0b101100101110#12 ++ 0b01100#5 ++ 0b100#3 ++ 0b10011#5 ++ 0b0000111#7) = .ok (.flq 0b10011 0b01100 0b101100101110) ∧
    decode configReset (0b1011001#7 ++ 0b11001#5 ++ 0b01100#5 ++ 0b100#3 ++ 0b01110#5 ++ 0b0100111#7) = .ok (.fsq 0b01100 0b11001 0b101100101110) ∧
    decode configReset (0b00110#5 ++ 0b11#2 ++ 0b11001#5 ++ 0b01100#5 ++ 0b010#3 ++ 0b10011#5 ++ 0b1000011#7) = .ok (.fmaddQ 0b10011 0b01100 0b11001 0b00110 0b010) ∧
    decode configReset (0b00110#5 ++ 0b11#2 ++ 0b11001#5 ++ 0b01100#5 ++ 0b010#3 ++ 0b10011#5 ++ 0b1000111#7) = .ok (.fmsubQ 0b10011 0b01100 0b11001 0b00110 0b010) ∧
    decode configReset (0b00110#5 ++ 0b11#2 ++ 0b11001#5 ++ 0b01100#5 ++ 0b010#3 ++ 0b10011#5 ++ 0b1001011#7) = .ok (.fnmsubQ 0b10011 0b01100 0b11001 0b00110 0b010) ∧
    decode configReset (0b00110#5 ++ 0b11#2 ++ 0b11001#5 ++ 0b01100#5 ++ 0b010#3 ++ 0b10011#5 ++ 0b1001111#7) = .ok (.fnmaddQ 0b10011 0b01100 0b11001 0b00110 0b010) ∧
    decode configReset (0b0000011#7 ++ 0b11001#5 ++ 0b01100#5 ++ 0b010#3 ++ 0b10011#5 ++ 0b1010011#7) = .ok (.faddQ 0b10011 0b01100 0b11001 0b010) ∧
    decode configReset (0b0000111#7 ++ 0b11001#5 ++ 0b01100#5 ++ 0b010#3 ++ 0b10011#5 ++ 0b1010011#7) = .ok (.fsubQ 0b10011 0b01100 0b11001 0b010) ∧
    decode configReset (0b0001011#7 ++ 0b11001#5 ++ 0b01100#5 ++ 0b010#3 ++ 0b10011#5 ++ 0b1010011#7) = .ok (.fmulQ 0b10011 0b01100 0b11001 0b010) ∧
    decode configReset (0b0001111#7 ++ 0b11001#5 ++ 0b01100#5 ++ 0b010#3 ++ 0b10011#5 ++ 0b1010011#7) = .ok (.fdivQ 0b10011 0b01100 0b11001 0b010) ∧
    decode configReset (0b0101111#7 ++ 0b00000#5 ++ 0b01100#5 ++ 0b010#3 ++ 0b10011#5 ++ 0b1010011#7) = .ok (.fsqrtQ 0b10011 0b01100 0b010) ∧
    decode configReset (0b0010011#7 ++ 0b11001#5 ++ 0b01100#5 ++ 0b000#3 ++ 0b10011#5 ++ 0b1010011#7) = .ok (.fsgnjQ 0b10011 0b01100 0b11001) ∧
    decode configReset (0b0010011#7 ++ 0b11001#5 ++ 0b01100#5 ++ 0b001#3 ++ 0b10011#5 ++ 0b1010011#7) = .ok (.fsgnjnQ 0b10011 0b01100 0b11001) ∧
    decode configReset (0b0010011#7 ++ 0b11001#5 ++ 0b01100#5 ++ 0b010#3 ++ 0b10011#5 ++ 0b1010011#7) = .ok (.fsgnjxQ 0b10011 0b01100 0b11001) ∧
    decode configReset (0b0010111#7 ++ 0b11001#5 ++ 0b01100#5 ++ 0b000#3 ++ 0b10011#5 ++ 0b1010011#7) = .ok (.fminQ 0b10011 0b01100 0b11001) ∧
    decode configReset (0b0010111#7 ++ 0b11001#5 ++ 0b01100#5 ++ 0b001#3 ++ 0b10011#5 ++ 0b1010011#7) = .ok (.fmaxQ 0b10011 0b01100 0b11001) :=
  ⟨rfl, rfl, rfl, rfl, rfl, rfl, rfl, rfl, rfl, rfl, rfl, rfl, rfl, rfl, rfl, rfl⟩

theorem test_decode_Q_reset_1 :
    decode configReset (0b1010011#7 ++ 0b11001#5 ++ 0b01100#5 ++ 0b010#3 ++ 0b10011#5 ++ 0b1010011#7) = .ok (.feqQ 0b10011 0b01100 0b11001) ∧
    decode configReset (0b1010011#7 ++ 0b11001#5 ++ 0b01100#5 ++ 0b001#3 ++ 0b10011#5 ++ 0b1010011#7) = .ok (.fltQ 0b10011 0b01100 0b11001) ∧
    decode configReset (0b1010011#7 ++ 0b11001#5 ++ 0b01100#5 ++ 0b000#3 ++ 0b10011#5 ++ 0b1010011#7) = .ok (.fleQ 0b10011 0b01100 0b11001) ∧
    decode configReset (0b1110011#7 ++ 0b00000#5 ++ 0b01100#5 ++ 0b001#3 ++ 0b10011#5 ++ 0b1010011#7) = .ok (.fclassQ 0b10011 0b01100) ∧
    decode configReset (0b1100011#7 ++ 0b00000#5 ++ 0b01100#5 ++ 0b010#3 ++ 0b10011#5 ++ 0b1010011#7) = .ok (.fcvtWQ 0b10011 0b01100 0b010) ∧
    decode configReset (0b1101011#7 ++ 0b00000#5 ++ 0b01100#5 ++ 0b010#3 ++ 0b10011#5 ++ 0b1010011#7) = .ok (.fcvtQW 0b10011 0b01100 0b010) ∧
    decode configReset (0b1100011#7 ++ 0b00001#5 ++ 0b01100#5 ++ 0b010#3 ++ 0b10011#5 ++ 0b1010011#7) = .ok (.fcvtWuQ 0b10011 0b01100 0b010) ∧
    decode configReset (0b1101011#7 ++ 0b00001#5 ++ 0b01100#5 ++ 0b010#3 ++ 0b10011#5 ++ 0b1010011#7) = .ok (.fcvtQWu 0b10011 0b01100 0b010) ∧
    decode configReset (0b1100011#7 ++ 0b00010#5 ++ 0b01100#5 ++ 0b010#3 ++ 0b10011#5 ++ 0b1010011#7) = .ok (.fcvtLQ 0b10011 0b01100 0b010) ∧
    decode configReset (0b1101011#7 ++ 0b00010#5 ++ 0b01100#5 ++ 0b010#3 ++ 0b10011#5 ++ 0b1010011#7) = .ok (.fcvtQL 0b10011 0b01100 0b010) ∧
    decode configReset (0b1100011#7 ++ 0b00011#5 ++ 0b01100#5 ++ 0b010#3 ++ 0b10011#5 ++ 0b1010011#7) = .ok (.fcvtLuQ 0b10011 0b01100 0b010) ∧
    decode configReset (0b1101011#7 ++ 0b00011#5 ++ 0b01100#5 ++ 0b010#3 ++ 0b10011#5 ++ 0b1010011#7) = .ok (.fcvtQLu 0b10011 0b01100 0b010) ∧
    decode configReset (0b0100000#7 ++ 0b00011#5 ++ 0b01100#5 ++ 0b010#3 ++ 0b10011#5 ++ 0b1010011#7) = .ok (.fcvtSQ 0b10011 0b01100 0b010) ∧
    decode configReset (0b0100011#7 ++ 0b00000#5 ++ 0b01100#5 ++ 0b010#3 ++ 0b10011#5 ++ 0b1010011#7) = .ok (.fcvtQS 0b10011 0b01100 0b010) ∧
    decode configReset (0b0100001#7 ++ 0b00011#5 ++ 0b01100#5 ++ 0b010#3 ++ 0b10011#5 ++ 0b1010011#7) = .ok (.fcvtDQ 0b10011 0b01100 0b010) ∧
    decode configReset (0b0100011#7 ++ 0b00001#5 ++ 0b01100#5 ++ 0b010#3 ++ 0b10011#5 ++ 0b1010011#7) = .ok (.fcvtQD 0b10011 0b01100 0b010) :=
  ⟨rfl, rfl, rfl, rfl, rfl, rfl, rfl, rfl, rfl, rfl, rfl, rfl, rfl, rfl, rfl, rfl⟩

theorem test_decode_ZfhZfhmin_reset :
    decode configReset (0b101100101110#12 ++ 0b01100#5 ++ 0b001#3 ++ 0b10011#5 ++ 0b0000111#7) = .ok (.flh 0b10011 0b01100 0b101100101110) ∧
    decode configReset (0b1011001#7 ++ 0b11001#5 ++ 0b01100#5 ++ 0b001#3 ++ 0b01110#5 ++ 0b0100111#7) = .ok (.fsh 0b01100 0b11001 0b101100101110) ∧
    decode configReset (0b1110010#7 ++ 0b00000#5 ++ 0b01100#5 ++ 0b000#3 ++ 0b10011#5 ++ 0b1010011#7) = .ok (.fmvXH 0b10011 0b01100) ∧
    decode configReset (0b1111010#7 ++ 0b00000#5 ++ 0b01100#5 ++ 0b000#3 ++ 0b10011#5 ++ 0b1010011#7) = .ok (.fmvHX 0b10011 0b01100) ∧
    decode configReset (0b0100000#7 ++ 0b00010#5 ++ 0b01100#5 ++ 0b010#3 ++ 0b10011#5 ++ 0b1010011#7) = .ok (.fcvtSH 0b10011 0b01100 0b010) ∧
    decode configReset (0b0100010#7 ++ 0b00000#5 ++ 0b01100#5 ++ 0b010#3 ++ 0b10011#5 ++ 0b1010011#7) = .ok (.fcvtHS 0b10011 0b01100 0b010) :=
  ⟨rfl, rfl, rfl, rfl, rfl, rfl⟩

theorem test_decode_Zfh_reset_0 :
    decode configReset (0b00110#5 ++ 0b10#2 ++ 0b11001#5 ++ 0b01100#5 ++ 0b010#3 ++ 0b10011#5 ++ 0b1000011#7) = .ok (.fmaddH 0b10011 0b01100 0b11001 0b00110 0b010) ∧
    decode configReset (0b00110#5 ++ 0b10#2 ++ 0b11001#5 ++ 0b01100#5 ++ 0b010#3 ++ 0b10011#5 ++ 0b1000111#7) = .ok (.fmsubH 0b10011 0b01100 0b11001 0b00110 0b010) ∧
    decode configReset (0b00110#5 ++ 0b10#2 ++ 0b11001#5 ++ 0b01100#5 ++ 0b010#3 ++ 0b10011#5 ++ 0b1001011#7) = .ok (.fnmsubH 0b10011 0b01100 0b11001 0b00110 0b010) ∧
    decode configReset (0b00110#5 ++ 0b10#2 ++ 0b11001#5 ++ 0b01100#5 ++ 0b010#3 ++ 0b10011#5 ++ 0b1001111#7) = .ok (.fnmaddH 0b10011 0b01100 0b11001 0b00110 0b010) ∧
    decode configReset (0b0000010#7 ++ 0b11001#5 ++ 0b01100#5 ++ 0b010#3 ++ 0b10011#5 ++ 0b1010011#7) = .ok (.faddH 0b10011 0b01100 0b11001 0b010) ∧
    decode configReset (0b0000110#7 ++ 0b11001#5 ++ 0b01100#5 ++ 0b010#3 ++ 0b10011#5 ++ 0b1010011#7) = .ok (.fsubH 0b10011 0b01100 0b11001 0b010) ∧
    decode configReset (0b0001010#7 ++ 0b11001#5 ++ 0b01100#5 ++ 0b010#3 ++ 0b10011#5 ++ 0b1010011#7) = .ok (.fmulH 0b10011 0b01100 0b11001 0b010) ∧
    decode configReset (0b0001110#7 ++ 0b11001#5 ++ 0b01100#5 ++ 0b010#3 ++ 0b10011#5 ++ 0b1010011#7) = .ok (.fdivH 0b10011 0b01100 0b11001 0b010) ∧
    decode configReset (0b0101110#7 ++ 0b00000#5 ++ 0b01100#5 ++ 0b010#3 ++ 0b10011#5 ++ 0b1010011#7) = .ok (.fsqrtH 0b10011 0b01100 0b010) ∧
    decode configReset (0b0010010#7 ++ 0b11001#5 ++ 0b01100#5 ++ 0b000#3 ++ 0b10011#5 ++ 0b1010011#7) = .ok (.fsgnjH 0b10011 0b01100 0b11001) ∧
    decode configReset (0b0010010#7 ++ 0b11001#5 ++ 0b01100#5 ++ 0b001#3 ++ 0b10011#5 ++ 0b1010011#7) = .ok (.fsgnjnH 0b10011 0b01100 0b11001) ∧
    decode configReset (0b0010010#7 ++ 0b11001#5 ++ 0b01100#5 ++ 0b010#3 ++ 0b10011#5 ++ 0b1010011#7) = .ok (.fsgnjxH 0b10011 0b01100 0b11001) ∧
    decode configReset (0b0010110#7 ++ 0b11001#5 ++ 0b01100#5 ++ 0b000#3 ++ 0b10011#5 ++ 0b1010011#7) = .ok (.fminH 0b10011 0b01100 0b11001) ∧
    decode configReset (0b0010110#7 ++ 0b11001#5 ++ 0b01100#5 ++ 0b001#3 ++ 0b10011#5 ++ 0b1010011#7) = .ok (.fmaxH 0b10011 0b01100 0b11001) ∧
    decode configReset (0b1010010#7 ++ 0b11001#5 ++ 0b01100#5 ++ 0b010#3 ++ 0b10011#5 ++ 0b1010011#7) = .ok (.feqH 0b10011 0b01100 0b11001) ∧
    decode configReset (0b1010010#7 ++ 0b11001#5 ++ 0b01100#5 ++ 0b001#3 ++ 0b10011#5 ++ 0b1010011#7) = .ok (.fltH 0b10011 0b01100 0b11001) :=
  ⟨rfl, rfl, rfl, rfl, rfl, rfl, rfl, rfl, rfl, rfl, rfl, rfl, rfl, rfl, rfl, rfl⟩

theorem test_decode_Zfh_reset_1 :
    decode configReset (0b1010010#7 ++ 0b11001#5 ++ 0b01100#5 ++ 0b000#3 ++ 0b10011#5 ++ 0b1010011#7) = .ok (.fleH 0b10011 0b01100 0b11001) ∧
    decode configReset (0b1110010#7 ++ 0b00000#5 ++ 0b01100#5 ++ 0b001#3 ++ 0b10011#5 ++ 0b1010011#7) = .ok (.fclassH 0b10011 0b01100) ∧
    decode configReset (0b1100010#7 ++ 0b00000#5 ++ 0b01100#5 ++ 0b010#3 ++ 0b10011#5 ++ 0b1010011#7) = .ok (.fcvtWH 0b10011 0b01100 0b010) ∧
    decode configReset (0b1101010#7 ++ 0b00000#5 ++ 0b01100#5 ++ 0b010#3 ++ 0b10011#5 ++ 0b1010011#7) = .ok (.fcvtHW 0b10011 0b01100 0b010) ∧
    decode configReset (0b1100010#7 ++ 0b00001#5 ++ 0b01100#5 ++ 0b010#3 ++ 0b10011#5 ++ 0b1010011#7) = .ok (.fcvtWuH 0b10011 0b01100 0b010) ∧
    decode configReset (0b1101010#7 ++ 0b00001#5 ++ 0b01100#5 ++ 0b010#3 ++ 0b10011#5 ++ 0b1010011#7) = .ok (.fcvtHWu 0b10011 0b01100 0b010) ∧
    decode configReset (0b1100010#7 ++ 0b00010#5 ++ 0b01100#5 ++ 0b010#3 ++ 0b10011#5 ++ 0b1010011#7) = .ok (.fcvtLH 0b10011 0b01100 0b010) ∧
    decode configReset (0b1101010#7 ++ 0b00010#5 ++ 0b01100#5 ++ 0b010#3 ++ 0b10011#5 ++ 0b1010011#7) = .ok (.fcvtHL 0b10011 0b01100 0b010) ∧
    decode configReset (0b1100010#7 ++ 0b00011#5 ++ 0b01100#5 ++ 0b010#3 ++ 0b10011#5 ++ 0b1010011#7) = .ok (.fcvtLuH 0b10011 0b01100 0b010) ∧
    decode configReset (0b1101010#7 ++ 0b00011#5 ++ 0b01100#5 ++ 0b010#3 ++ 0b10011#5 ++ 0b1010011#7) = .ok (.fcvtHLu 0b10011 0b01100 0b010) :=
  ⟨rfl, rfl, rfl, rfl, rfl, rfl, rfl, rfl, rfl, rfl⟩

theorem test_decode_ZfhZfhminD_reset :
    decode configReset (0b0100001#7 ++ 0b00010#5 ++ 0b01100#5 ++ 0b010#3 ++ 0b10011#5 ++ 0b1010011#7) = .ok (.fcvtDH 0b10011 0b01100 0b010) ∧
    decode configReset (0b0100010#7 ++ 0b00001#5 ++ 0b01100#5 ++ 0b010#3 ++ 0b10011#5 ++ 0b1010011#7) = .ok (.fcvtHD 0b10011 0b01100 0b010) :=
  ⟨rfl, rfl⟩

theorem test_decode_ZfhZfhminQ_reset :
    decode configReset (0b0100011#7 ++ 0b00010#5 ++ 0b01100#5 ++ 0b010#3 ++ 0b10011#5 ++ 0b1010011#7) = .ok (.fcvtQH 0b10011 0b01100 0b010) ∧
    decode configReset (0b0100010#7 ++ 0b00011#5 ++ 0b01100#5 ++ 0b010#3 ++ 0b10011#5 ++ 0b1010011#7) = .ok (.fcvtHQ 0b10011 0b01100 0b010) :=
  ⟨rfl, rfl⟩

theorem test_decode_Zfa_reset :
    decode configReset (0b1111000#7 ++ 0b00001#5 ++ 0b10110#5 ++ 0b000#3 ++ 0b10011#5 ++ 0b1010011#7) = .ok (.fliS 0b10011 0b10110) ∧
    decode configReset (0b0010100#7 ++ 0b11001#5 ++ 0b01100#5 ++ 0b010#3 ++ 0b10011#5 ++ 0b1010011#7) = .ok (.fminmS 0b10011 0b01100 0b11001) ∧
    decode configReset (0b0010100#7 ++ 0b11001#5 ++ 0b01100#5 ++ 0b011#3 ++ 0b10011#5 ++ 0b1010011#7) = .ok (.fmaxmS 0b10011 0b01100 0b11001) ∧
    decode configReset (0b0100000#7 ++ 0b00100#5 ++ 0b01100#5 ++ 0b010#3 ++ 0b10011#5 ++ 0b1010011#7) = .ok (.froundS 0b10011 0b01100 0b010) ∧
    decode configReset (0b0100000#7 ++ 0b00101#5 ++ 0b01100#5 ++ 0b010#3 ++ 0b10011#5 ++ 0b1010011#7) = .ok (.froundnxS 0b10011 0b01100 0b010) ∧
    decode configReset (0b1010000#7 ++ 0b11001#5 ++ 0b01100#5 ++ 0b100#3 ++ 0b10011#5 ++ 0b1010011#7) = .ok (.fleqS 0b10011 0b01100 0b11001) ∧
    decode configReset (0b1010000#7 ++ 0b11001#5 ++ 0b01100#5 ++ 0b101#3 ++ 0b10011#5 ++ 0b1010011#7) = .ok (.fltqS 0b10011 0b01100 0b11001) :=
  ⟨rfl, rfl, rfl, rfl, rfl, rfl, rfl⟩

theorem test_decode_ZfaD_reset :
    decode configReset (0b1111001#7 ++ 0b00001#5 ++ 0b10110#5 ++ 0b000#3 ++ 0b10011#5 ++ 0b1010011#7) = .ok (.fliD 0b10011 0b10110) ∧
    decode configReset (0b0010101#7 ++ 0b11001#5 ++ 0b01100#5 ++ 0b010#3 ++ 0b10011#5 ++ 0b1010011#7) = .ok (.fminmD 0b10011 0b01100 0b11001) ∧
    decode configReset (0b0010101#7 ++ 0b11001#5 ++ 0b01100#5 ++ 0b011#3 ++ 0b10011#5 ++ 0b1010011#7) = .ok (.fmaxmD 0b10011 0b01100 0b11001) ∧
    decode configReset (0b0100001#7 ++ 0b00100#5 ++ 0b01100#5 ++ 0b010#3 ++ 0b10011#5 ++ 0b1010011#7) = .ok (.froundD 0b10011 0b01100 0b010) ∧
    decode configReset (0b0100001#7 ++ 0b00101#5 ++ 0b01100#5 ++ 0b010#3 ++ 0b10011#5 ++ 0b1010011#7) = .ok (.froundnxD 0b10011 0b01100 0b010) ∧
    decode configReset (0b1010001#7 ++ 0b11001#5 ++ 0b01100#5 ++ 0b100#3 ++ 0b10011#5 ++ 0b1010011#7) = .ok (.fleqD 0b10011 0b01100 0b11001) ∧
    decode configReset (0b1010001#7 ++ 0b11001#5 ++ 0b01100#5 ++ 0b101#3 ++ 0b10011#5 ++ 0b1010011#7) = .ok (.fltqD 0b10011 0b01100 0b11001) ∧
    decode configReset (0b1100001#7 ++ 0b01000#5 ++ 0b01100#5 ++ 0b001#3 ++ 0b10011#5 ++ 0b1010011#7) = .ok (.fcvtmodWD 0b10011 0b01100) :=
  ⟨rfl, rfl, rfl, rfl, rfl, rfl, rfl, rfl⟩

theorem test_decode_ZfaZfh_reset :
    decode configReset (0b1111010#7 ++ 0b00001#5 ++ 0b10110#5 ++ 0b000#3 ++ 0b10011#5 ++ 0b1010011#7) = .ok (.fliH 0b10011 0b10110) ∧
    decode configReset (0b0010110#7 ++ 0b11001#5 ++ 0b01100#5 ++ 0b010#3 ++ 0b10011#5 ++ 0b1010011#7) = .ok (.fminmH 0b10011 0b01100 0b11001) ∧
    decode configReset (0b0010110#7 ++ 0b11001#5 ++ 0b01100#5 ++ 0b011#3 ++ 0b10011#5 ++ 0b1010011#7) = .ok (.fmaxmH 0b10011 0b01100 0b11001) ∧
    decode configReset (0b0100010#7 ++ 0b00100#5 ++ 0b01100#5 ++ 0b010#3 ++ 0b10011#5 ++ 0b1010011#7) = .ok (.froundH 0b10011 0b01100 0b010) ∧
    decode configReset (0b0100010#7 ++ 0b00101#5 ++ 0b01100#5 ++ 0b010#3 ++ 0b10011#5 ++ 0b1010011#7) = .ok (.froundnxH 0b10011 0b01100 0b010) ∧
    decode configReset (0b1010010#7 ++ 0b11001#5 ++ 0b01100#5 ++ 0b100#3 ++ 0b10011#5 ++ 0b1010011#7) = .ok (.fleqH 0b10011 0b01100 0b11001) ∧
    decode configReset (0b1010010#7 ++ 0b11001#5 ++ 0b01100#5 ++ 0b101#3 ++ 0b10011#5 ++ 0b1010011#7) = .ok (.fltqH 0b10011 0b01100 0b11001) :=
  ⟨rfl, rfl, rfl, rfl, rfl, rfl, rfl⟩

theorem test_decode_ZfaQ_reset :
    decode configReset (0b1111011#7 ++ 0b00001#5 ++ 0b10110#5 ++ 0b000#3 ++ 0b10011#5 ++ 0b1010011#7) = .ok (.fliQ 0b10011 0b10110) ∧
    decode configReset (0b0010111#7 ++ 0b11001#5 ++ 0b01100#5 ++ 0b010#3 ++ 0b10011#5 ++ 0b1010011#7) = .ok (.fminmQ 0b10011 0b01100 0b11001) ∧
    decode configReset (0b0010111#7 ++ 0b11001#5 ++ 0b01100#5 ++ 0b011#3 ++ 0b10011#5 ++ 0b1010011#7) = .ok (.fmaxmQ 0b10011 0b01100 0b11001) ∧
    decode configReset (0b0100011#7 ++ 0b00100#5 ++ 0b01100#5 ++ 0b010#3 ++ 0b10011#5 ++ 0b1010011#7) = .ok (.froundQ 0b10011 0b01100 0b010) ∧
    decode configReset (0b0100011#7 ++ 0b00101#5 ++ 0b01100#5 ++ 0b010#3 ++ 0b10011#5 ++ 0b1010011#7) = .ok (.froundnxQ 0b10011 0b01100 0b010) ∧
    decode configReset (0b1010011#7 ++ 0b11001#5 ++ 0b01100#5 ++ 0b100#3 ++ 0b10011#5 ++ 0b1010011#7) = .ok (.fleqQ 0b10011 0b01100 0b11001) ∧
    decode configReset (0b1010011#7 ++ 0b11001#5 ++ 0b01100#5 ++ 0b101#3 ++ 0b10011#5 ++ 0b1010011#7) = .ok (.fltqQ 0b10011 0b01100 0b11001) ∧
    decode configReset (0b1110011#7 ++ 0b00001#5 ++ 0b01100#5 ++ 0b000#3 ++ 0b10011#5 ++ 0b1010011#7) = .ok (.fmvhXQ 0b10011 0b01100) ∧
    decode configReset (0b1011011#7 ++ 0b11001#5 ++ 0b01100#5 ++ 0b000#3 ++ 0b10011#5 ++ 0b1010011#7) = .ok (.fmvpQX 0b10011 0b01100 0b11001) :=
  ⟨rfl, rfl, rfl, rfl, rfl, rfl, rfl, rfl, rfl⟩

theorem test_decode_ZfaD_32 :
    decode config32 (0b1110001#7 ++ 0b00001#5 ++ 0b01100#5 ++ 0b000#3 ++ 0b10011#5 ++ 0b1010011#7) = .ok (.fmvhXD 0b10011 0b01100) ∧
    decode config32 (0b1011001#7 ++ 0b11001#5 ++ 0b01100#5 ++ 0b000#3 ++ 0b10011#5 ++ 0b1010011#7) = .ok (.fmvpDX 0b10011 0b01100 0b11001) :=
  ⟨rfl, rfl⟩

theorem test_decode_Zicbom_reset :
    decode configReset (0b0000000#7 ++ 0b00000#5 ++ 0b01100#5 ++ 0b010#3 ++ 0b00000#5 ++ 0b0001111#7) = .ok (.cboInval 0b01100) ∧
    decode configReset (0b0000000#7 ++ 0b00001#5 ++ 0b01100#5 ++ 0b010#3 ++ 0b00000#5 ++ 0b0001111#7) = .ok (.cboClean 0b01100) ∧
    decode configReset (0b0000000#7 ++ 0b00010#5 ++ 0b01100#5 ++ 0b010#3 ++ 0b00000#5 ++ 0b0001111#7) = .ok (.cboFlush 0b01100) :=
  ⟨rfl, rfl, rfl⟩

theorem test_decode_Zicboz_reset :
    decode configReset (0b0000000#7 ++ 0b00100#5 ++ 0b01100#5 ++ 0b010#3 ++ 0b00000#5 ++ 0b0001111#7) = .ok (.cboZero 0b01100) :=
  rfl

theorem test_decode_Zicbop_reset :
    decode configReset (0b1011001#7 ++ 0b00000#5 ++ 0b01100#5 ++ 0b110#3 ++ 0b00000#5 ++ 0b0010011#7) = .ok (.prefetchI 0b01100 0b1011001) ∧
    decode configReset (0b1011001#7 ++ 0b00001#5 ++ 0b01100#5 ++ 0b110#3 ++ 0b00000#5 ++ 0b0010011#7) = .ok (.prefetchR 0b01100 0b1011001) ∧
    decode configReset (0b1011001#7 ++ 0b00011#5 ++ 0b01100#5 ++ 0b110#3 ++ 0b00000#5 ++ 0b0010011#7) = .ok (.prefetchW 0b01100 0b1011001) :=
  ⟨rfl, rfl, rfl⟩

theorem test_decode_Zawrs_reset :
    decode configReset (0b0000000#7 ++ 0b01101#5 ++ 0b00000#5 ++ 0b000#3 ++ 0b00000#5 ++ 0b1110011#7) = .ok (.wrsNto) ∧
    decode configReset (0b0000000#7 ++ 0b11101#5 ++ 0b00000#5 ++ 0b000#3 ++ 0b00000#5 ++ 0b1110011#7) = .ok (.wrsSto) :=
  ⟨rfl, rfl⟩

theorem test_decode_Zimop_reset_0 :
    decode configReset (0b1000000#7 ++ 0b11100#5 ++ 0b01100#5 ++ 0b100#3 ++ 0b10011#5 ++ 0b1110011#7) = .ok (.mopR0 0b10011 0b01100) ∧
    decode configReset (0b1000000#7 ++ 0b11101#5 ++ 0b01100#5 ++ 0b100#3 ++ 0b10011#5 ++ 0b1110011#7) = .ok (.mopR1 0b10011 0b01100) ∧
    decode configReset (0b1000000#7 ++ 0b11110#5 ++ 0b01100#5 ++ 0b100#3 ++ 0b10011#5 ++ 0b1110011#7) = .ok (.mopR2 0b10011 0b01100) ∧
    decode configReset (0b1000000#7 ++ 0b11111#5 ++ 0b01100#5 ++ 0b100#3 ++ 0b10011#5 ++ 0b1110011#7) = .ok (.mopR3 0b10011 0b01100) ∧
    decode configReset (0b1000010#7 ++ 0b11100#5 ++ 0b01100#5 ++ 0b100#3 ++ 0b10011#5 ++ 0b1110011#7) = .ok (.mopR4 0b10011 0b01100) ∧
    decode configReset (0b1000010#7 ++ 0b11101#5 ++ 0b01100#5 ++ 0b100#3 ++ 0b10011#5 ++ 0b1110011#7) = .ok (.mopR5 0b10011 0b01100) ∧
    decode configReset (0b1000010#7 ++ 0b11110#5 ++ 0b01100#5 ++ 0b100#3 ++ 0b10011#5 ++ 0b1110011#7) = .ok (.mopR6 0b10011 0b01100) ∧
    decode configReset (0b1000010#7 ++ 0b11111#5 ++ 0b01100#5 ++ 0b100#3 ++ 0b10011#5 ++ 0b1110011#7) = .ok (.mopR7 0b10011 0b01100) ∧
    decode configReset (0b1000100#7 ++ 0b11100#5 ++ 0b01100#5 ++ 0b100#3 ++ 0b10011#5 ++ 0b1110011#7) = .ok (.mopR8 0b10011 0b01100) ∧
    decode configReset (0b1000100#7 ++ 0b11101#5 ++ 0b01100#5 ++ 0b100#3 ++ 0b10011#5 ++ 0b1110011#7) = .ok (.mopR9 0b10011 0b01100) ∧
    decode configReset (0b1000100#7 ++ 0b11110#5 ++ 0b01100#5 ++ 0b100#3 ++ 0b10011#5 ++ 0b1110011#7) = .ok (.mopR10 0b10011 0b01100) ∧
    decode configReset (0b1000100#7 ++ 0b11111#5 ++ 0b01100#5 ++ 0b100#3 ++ 0b10011#5 ++ 0b1110011#7) = .ok (.mopR11 0b10011 0b01100) ∧
    decode configReset (0b1000110#7 ++ 0b11100#5 ++ 0b01100#5 ++ 0b100#3 ++ 0b10011#5 ++ 0b1110011#7) = .ok (.mopR12 0b10011 0b01100) ∧
    decode configReset (0b1000110#7 ++ 0b11101#5 ++ 0b01100#5 ++ 0b100#3 ++ 0b10011#5 ++ 0b1110011#7) = .ok (.mopR13 0b10011 0b01100) ∧
    decode configReset (0b1000110#7 ++ 0b11110#5 ++ 0b01100#5 ++ 0b100#3 ++ 0b10011#5 ++ 0b1110011#7) = .ok (.mopR14 0b10011 0b01100) ∧
    decode configReset (0b1000110#7 ++ 0b11111#5 ++ 0b01100#5 ++ 0b100#3 ++ 0b10011#5 ++ 0b1110011#7) = .ok (.mopR15 0b10011 0b01100) :=
  ⟨rfl, rfl, rfl, rfl, rfl, rfl, rfl, rfl, rfl, rfl, rfl, rfl, rfl, rfl, rfl, rfl⟩

theorem test_decode_Zimop_reset_1 :
    decode configReset (0b1100000#7 ++ 0b11100#5 ++ 0b01100#5 ++ 0b100#3 ++ 0b10011#5 ++ 0b1110011#7) = .ok (.mopR16 0b10011 0b01100) ∧
    decode configReset (0b1100000#7 ++ 0b11101#5 ++ 0b01100#5 ++ 0b100#3 ++ 0b10011#5 ++ 0b1110011#7) = .ok (.mopR17 0b10011 0b01100) ∧
    decode configReset (0b1100000#7 ++ 0b11110#5 ++ 0b01100#5 ++ 0b100#3 ++ 0b10011#5 ++ 0b1110011#7) = .ok (.mopR18 0b10011 0b01100) ∧
    decode configReset (0b1100000#7 ++ 0b11111#5 ++ 0b01100#5 ++ 0b100#3 ++ 0b10011#5 ++ 0b1110011#7) = .ok (.mopR19 0b10011 0b01100) ∧
    decode configReset (0b1100010#7 ++ 0b11100#5 ++ 0b01100#5 ++ 0b100#3 ++ 0b10011#5 ++ 0b1110011#7) = .ok (.mopR20 0b10011 0b01100) ∧
    decode configReset (0b1100010#7 ++ 0b11101#5 ++ 0b01100#5 ++ 0b100#3 ++ 0b10011#5 ++ 0b1110011#7) = .ok (.mopR21 0b10011 0b01100) ∧
    decode configReset (0b1100010#7 ++ 0b11110#5 ++ 0b01100#5 ++ 0b100#3 ++ 0b10011#5 ++ 0b1110011#7) = .ok (.mopR22 0b10011 0b01100) ∧
    decode configReset (0b1100010#7 ++ 0b11111#5 ++ 0b01100#5 ++ 0b100#3 ++ 0b10011#5 ++ 0b1110011#7) = .ok (.mopR23 0b10011 0b01100) ∧
    decode configReset (0b1100100#7 ++ 0b11100#5 ++ 0b01100#5 ++ 0b100#3 ++ 0b10011#5 ++ 0b1110011#7) = .ok (.mopR24 0b10011 0b01100) ∧
    decode configReset (0b1100100#7 ++ 0b11101#5 ++ 0b01100#5 ++ 0b100#3 ++ 0b10011#5 ++ 0b1110011#7) = .ok (.mopR25 0b10011 0b01100) ∧
    decode configReset (0b1100100#7 ++ 0b11110#5 ++ 0b01100#5 ++ 0b100#3 ++ 0b10011#5 ++ 0b1110011#7) = .ok (.mopR26 0b10011 0b01100) ∧
    decode configReset (0b1100100#7 ++ 0b11111#5 ++ 0b01100#5 ++ 0b100#3 ++ 0b10011#5 ++ 0b1110011#7) = .ok (.mopR27 0b10011 0b01100) ∧
    decode configReset (0b1100110#7 ++ 0b11100#5 ++ 0b01100#5 ++ 0b100#3 ++ 0b10011#5 ++ 0b1110011#7) = .ok (.mopR28 0b10011 0b01100) ∧
    decode configReset (0b1100110#7 ++ 0b11101#5 ++ 0b01100#5 ++ 0b100#3 ++ 0b10011#5 ++ 0b1110011#7) = .ok (.mopR29 0b10011 0b01100) ∧
    decode configReset (0b1100110#7 ++ 0b11110#5 ++ 0b01100#5 ++ 0b100#3 ++ 0b10011#5 ++ 0b1110011#7) = .ok (.mopR30 0b10011 0b01100) ∧
    decode configReset (0b1100110#7 ++ 0b11111#5 ++ 0b01100#5 ++ 0b100#3 ++ 0b10011#5 ++ 0b1110011#7) = .ok (.mopR31 0b10011 0b01100) :=
  ⟨rfl, rfl, rfl, rfl, rfl, rfl, rfl, rfl, rfl, rfl, rfl, rfl, rfl, rfl, rfl, rfl⟩

theorem test_decode_Zimop_reset_2 :
    decode configReset (0b1000001#7 ++ 0b11001#5 ++ 0b01100#5 ++ 0b100#3 ++ 0b10011#5 ++ 0b1110011#7) = .ok (.mopRr0 0b10011 0b01100 0b11001) ∧
    decode configReset (0b1000011#7 ++ 0b11001#5 ++ 0b01100#5 ++ 0b100#3 ++ 0b10011#5 ++ 0b1110011#7) = .ok (.mopRr1 0b10011 0b01100 0b11001) ∧
    decode configReset (0b1000101#7 ++ 0b11001#5 ++ 0b01100#5 ++ 0b100#3 ++ 0b10011#5 ++ 0b1110011#7) = .ok (.mopRr2 0b10011 0b01100 0b11001) ∧
    decode configReset (0b1000111#7 ++ 0b11001#5 ++ 0b01100#5 ++ 0b100#3 ++ 0b10011#5 ++ 0b1110011#7) = .ok (.mopRr3 0b10011 0b01100 0b11001) ∧
    decode configReset (0b1100001#7 ++ 0b11001#5 ++ 0b01100#5 ++ 0b100#3 ++ 0b10011#5 ++ 0b1110011#7) = .ok (.mopRr4 0b10011 0b01100 0b11001) ∧
    decode configReset (0b1100011#7 ++ 0b11001#5 ++ 0b01100#5 ++ 0b100#3 ++ 0b10011#5 ++ 0b1110011#7) = .ok (.mopRr5 0b10011 0b01100 0b11001) ∧
    decode configReset (0b1100101#7 ++ 0b11001#5 ++ 0b01100#5 ++ 0b100#3 ++ 0b10011#5 ++ 0b1110011#7) = .ok (.mopRr6 0b10011 0b01100 0b11001) ∧
    decode configReset (0b1100111#7 ++ 0b11001#5 ++ 0b01100#5 ++ 0b100#3 ++ 0b10011#5 ++ 0b1110011#7) = .ok (.mopRr7 0b10011 0b01100 0b11001) :=
  ⟨rfl, rfl, rfl, rfl, rfl, rfl, rfl, rfl⟩

theorem test_decode_Zca_reset_0 :
    decode configReset (0#16 ++ 0b000#3 ++ 0b00000000000#11 ++ 0b00#2) = .ok (.cIllegal) ∧
    decode configReset (0#16 ++ 0b000#3 ++ 0b00#2 ++ 0b1011#4 ++ 0b0#1 ++ 0b1#1 ++ 0b011#3 ++ 0b00#2) = .ok (.cAddi4spn 0b011 0b10110010) ∧
    decode configReset (0#16 ++ 0b010#3 ++ 0b011#3 ++ 0b110#3 ++ 0b0#1 ++ 0b1#1 ++ 0b011#3 ++ 0b00#2) = .ok (.cLw 0b011 0b110 0b10110) ∧
    decode configReset (0#16 ++ 0b011#3 ++ 0b110#3 ++ 0b110#3 ++ 0b10#2 ++ 0b011#3 ++ 0b00#2) = .ok (.cLd 0b011 0b110 0b10110) ∧
    decode configReset (0#16 ++ 0b110#3 ++ 0b011#3 ++ 0b110#3 ++ 0b0#1 ++ 0b1#1 ++ 0b100#3 ++ 0b00#2) = .ok (.cSw 0b110 0b100 0b10110) ∧
    decode configReset (0#16 ++ 0b111#3 ++ 0b110#3 ++ 0b110#3 ++ 0b10#2 ++ 0b100#3 ++ 0b00#2) = .ok (.cSd 0b110 0b100 0b10110) ∧
    decode configReset (0#16 ++ 0b000#3 ++ 0b1#1 ++ 0b00000#5 ++ 0b01100#5 ++ 0b01#2) = .ok (.cNop 0b101100) ∧
    decode configReset (0#16 ++ 0b000#3 ++ 0b1#1 ++ 0b10011#5 ++ 0b01100#5 ++ 0b01#2) = .ok (.cAddi 0b10011 0b101100) ∧
    decode configReset (0#16 ++ 0b001#3 ++ 0b1#1 ++ 0b10011#5 ++ 0b01100#5 ++ 0b01#2) = .ok (.cAddiw 0b10011 0b101100) ∧
    decode configReset (0#16 ++ 0b010#3 ++ 0b1#1 ++ 0b10011#5 ++ 0b01100#5 ++ 0b01#2) = .ok (.cLi 0b10011 0b101100) ∧
    decode configReset (0#16 ++ 0b011#3 ++ 0b1#1 ++ 0b00010#5 ++ 0b0#1 ++ 0b1#1 ++ 0b01#2 ++ 0b0#1 ++ 0b01#2) = .ok (.cAddi16sp 0b101100) ∧
    decode configReset (0#16 ++ 0b011#3 ++ 0b1#1 ++ 0b10011#5 ++ 0b01100#5 ++ 0b01#2) = .ok (.cLui 0b10011 0b101100) ∧
    decode configReset (0#16 ++ 0b100#3 ++ 0b1#1 ++ 0b00#2 ++ 0b011#3 ++ 0b01100#5 ++ 0b01#2) = .ok (.cSrli 0b011 0b101100) ∧
    decode configReset (0#16 ++ 0b100#3 ++ 0b1#1 ++ 0b01#2 ++ 0b011#3 ++ 0b01100#5 ++ 0b01#2) = .ok (.cSrai 0b011 0b101100) ∧
    decode configReset (0#16 ++ 0b100#3 ++ 0b1#1 ++ 0b10#2 ++ 0b011#3 ++ 0b01100#5 ++ 0b01#2) = .ok (.cAndi 0b011 0b101100) ∧
    decode configReset (0#16 ++ 0b100#3 ++ 0b011#3 ++ 0b011#3 ++ 0b00#2 ++ 0b100#3 ++ 0b01#2) = .ok (.cSub 0b011 0b100) :=
  ⟨rfl, rfl, rfl, rfl, rfl, rfl, rfl, rfl, rfl, rfl, rfl, rfl, rfl, rfl, rfl, rfl⟩

theorem test_decode_Zca_reset_1 :
    decode configReset (0#16 ++ 0b100#3 ++ 0b011#3 ++ 0b011#3 ++ 0b01#2 ++ 0b100#3 ++ 0b01#2) = .ok (.cXor 0b011 0b100) ∧
    decode configReset (0#16 ++ 0b100#3 ++ 0b011#3 ++ 0b011#3 ++ 0b10#2 ++ 0b100#3 ++ 0b01#2) = .ok (.cOr 0b011 0b100) ∧
    decode configReset (0#16 ++ 0b100#3 ++ 0b011#3 ++ 0b011#3 ++ 0b11#2 ++ 0b100#3 ++ 0b01#2) = .ok (.cAnd 0b011 0b100) ∧
    decode configReset (0#16 ++ 0b100#3 ++ 0b111#3 ++ 0b011#3 ++ 0b00#2 ++ 0b100#3 ++ 0b01#2) = .ok (.cSubw 0b011 0b100) ∧
    decode configReset (0#16 ++ 0b100#3 ++ 0b111#3 ++ 0b011#3 ++ 0b01#2 ++ 0b100#3 ++ 0b01#2) = .ok (.cAddw 0b011 0b100) ∧
    decode configReset (0#16 ++ 0b101#3 ++ 0b1#1 ++ 0b0#1 ++ 0b11#2 ++ 0b0#1 ++ 0b0#1 ++ 0b0#1 ++ 0b111#3 ++ 0b1#1 ++ 0b01#2) = .ok (.cJ 0b10110010111) ∧
    decode configReset (0#16 ++ 0b110#3 ++ 0b1#1 ++ 0b00#2 ++ 0b110#3 ++ 0b01#2 ++ 0b10#2 ++ 0b1#1 ++ 0b01#2) = .ok (.cBeqz 0b110 0b10110010) ∧
    decode configReset (0#16 ++ 0b111#3 ++ 0b1#1 ++ 0b00#2 ++ 0b110#3 ++ 0b01#2 ++ 0b10#2 ++ 0b1#1 ++ 0b01#2) = .ok (.cBnez 0b110 0b10110010) ∧
    decode configReset (0#16 ++ 0b000#3 ++ 0b1#1 ++ 0b10011#5 ++ 0b01100#5 ++ 0b10#2) = .ok (.cSlli 0b10011 0b101100) ∧
    decode configReset (0#16 ++ 0b010#3 ++ 0b1#1 ++ 0b10011#5 ++ 0b100#3 ++ 0b10#2 ++ 0b10#2) = .ok (.cLwsp 0b10011 0b101100) ∧
    decode configReset (0#16 ++ 0b011#3 ++ 0b1#1 ++ 0b10011#5 ++ 0b00#2 ++ 0b101#3 ++ 0b10#2) = .ok (.cLdsp 0b10011 0b101100) ∧
    decode configReset (0#16 ++ 0b100#3 ++ 0b0#1 ++ 0b01100#5 ++ 0b00000#5 ++ 0b10#2) = .ok (.cJr 0b01100) ∧
    decode configReset (0#16 ++ 0b100#3 ++ 0b0#1 ++ 0b10011#5 ++ 0b11001#5 ++ 0b10#2) = .ok (.cMv 0b10011 0b11001) ∧
    decode configReset (0#16 ++ 0b100#3 ++ 0b10000000000#11 ++ 0b10#2) = .ok (.cEbreak) ∧
    decode configReset (0#16 ++ 0b100#3 ++ 0b1#1 ++ 0b01100#5 ++ 0b00000#5 ++ 0b10#2) = .ok (.cJalr 0b01100) ∧
    decode configReset (0#16 ++ 0b100#3 ++ 0b1#1 ++ 0b10011#5 ++ 0b11001#5 ++ 0b10#2) = .ok (.cAdd 0b10011 0b11001) :=
  ⟨rfl, rfl, rfl, rfl, rfl, rfl, rfl, rfl, rfl, rfl, rfl, rfl, rfl, rfl, rfl, rfl⟩

theorem test_decode_Zca_reset_2 :
    decode configReset (0#16 ++ 0b110#3 ++ 0b1100#4 ++ 0b10#2 ++ 0b11001#5 ++ 0b10#2) = .ok (.cSwsp 0b11001 0b101100) ∧
    decode configReset (0#16 ++ 0b111#3 ++ 0b100#3 ++ 0b101#3 ++ 0b11001#5 ++ 0b10#2) = .ok (.cSdsp 0b11001 0b101100) :=
  ⟨rfl, rfl⟩

theorem test_decode_Zcd_reset :
    decode configReset (0#16 ++ 0b001#3 ++ 0b110#3 ++ 0b110#3 ++ 0b10#2 ++ 0b011#3 ++ 0b00#2) = .ok (.cFld 0b011 0b110 0b10110) ∧
    decode configReset (0#16 ++ 0b101#3 ++ 0b110#3 ++ 0b110#3 ++ 0b10#2 ++ 0b100#3 ++ 0b00#2) = .ok (.cFsd 0b110 0b100 0b10110) ∧
    decode configReset (0#16 ++ 0b001#3 ++ 0b1#1 ++ 0b10011#5 ++ 0b00#2 ++ 0b101#3 ++ 0b10#2) = .ok (.cFldsp 0b10011 0b101100) ∧
    decode configReset (0#16 ++ 0b101#3 ++ 0b100#3 ++ 0b101#3 ++ 0b11001#5 ++ 0b10#2) = .ok (.cFsdsp 0b11001 0b101100) :=
  ⟨rfl, rfl, rfl, rfl⟩

theorem test_decode_Zca_128 :
    decode config128 (0#16 ++ 0b001#3 ++ 0b10#2 ++ 0b1#1 ++ 0b110#3 ++ 0b01#2 ++ 0b011#3 ++ 0b00#2) = .ok (.cLq 0b011 0b110 0b10110) ∧
    decode config128 (0#16 ++ 0b101#3 ++ 0b10#2 ++ 0b1#1 ++ 0b110#3 ++ 0b01#2 ++ 0b100#3 ++ 0b00#2) = .ok (.cSq 0b110 0b100 0b10110) ∧
    decode config128 (0#16 ++ 0b001#3 ++ 0b0#1 ++ 0b10011#5 ++ 0b0#1 ++ 0b1011#4 ++ 0b10#2) = .ok (.cLqsp 0b10011 0b101100) ∧
    decode config128 (0#16 ++ 0b101#3 ++ 0b00#2 ++ 0b1011#4 ++ 0b11001#5 ++ 0b10#2) = .ok (.cSqsp 0b11001 0b101100) :=
  ⟨rfl, rfl, rfl, rfl⟩

theorem test_decode_Zcf_32 :
    decode config32 (0#16 ++ 0b011#3 ++ 0b011#3 ++ 0b110#3 ++ 0b0#1 ++ 0b1#1 ++ 0b011#3 ++ 0b00#2) = .ok (.cFlw 0b011 0b110 0b10110) ∧
    decode config32 (0#16 ++ 0b111#3 ++ 0b011#3 ++ 0b110#3 ++ 0b0#1 ++ 0b1#1 ++ 0b100#3 ++ 0b00#2) = .ok (.cFsw 0b110 0b100 0b10110) ∧
    decode config32 (0#16 ++ 0b011#3 ++ 0b1#1 ++ 0b10011#5 ++ 0b100#3 ++ 0b10#2 ++ 0b10#2) = .ok (.cFlwsp 0b10011 0b101100) ∧
    decode config32 (0#16 ++ 0b111#3 ++ 0b1100#4 ++ 0b10#2 ++ 0b11001#5 ++ 0b10#2) = .ok (.cFswsp 0b11001 0b101100) :=
  ⟨rfl, rfl, rfl, rfl⟩

theorem test_decode_Zca_32 :
    decode config32 (0#16 ++ 0b001#3 ++ 0b1#1 ++ 0b0#1 ++ 0b11#2 ++ 0b0#1 ++ 0b0#1 ++ 0b0#1 ++ 0b111#3 ++ 0b1#1 ++ 0b01#2) = .ok (.cJal 0b10110010111) :=
  rfl

theorem test_decode_Zcmop_reset :
    decode configReset (0#16 ++ 0b011#3 ++ 0b00000100000#11 ++ 0b01#2) = .ok (.cMop1) ∧
    decode configReset (0#16 ++ 0b011#3 ++ 0b00001100000#11 ++ 0b01#2) = .ok (.cMop3) ∧
    decode configReset (0#16 ++ 0b011#3 ++ 0b00010100000#11 ++ 0b01#2) = .ok (.cMop5) ∧
    decode configReset (0#16 ++ 0b011#3 ++ 0b00011100000#11 ++ 0b01#2) = .ok (.cMop7) ∧
    decode configReset (0#16 ++ 0b011#3 ++ 0b00100100000#11 ++ 0b01#2) = .ok (.cMop9) ∧
    decode configReset (0#16 ++ 0b011#3 ++ 0b00101100000#11 ++ 0b01#2) = .ok (.cMop11) ∧
    decode configReset (0#16 ++ 0b011#3 ++ 0b00110100000#11 ++ 0b01#2) = .ok (.cMop13) ∧
    decode configReset (0#16 ++ 0b011#3 ++ 0b00111100000#11 ++ 0b01#2) = .ok (.cMop15) :=
  ⟨rfl, rfl, rfl, rfl, rfl, rfl, rfl, rfl⟩

theorem test_decode_Zcb_reset :
    decode configReset (0#16 ++ 0b100#3 ++ 0b000#3 ++ 0b110#3 ++ 0b0#1 ++ 0b1#1 ++ 0b011#3 ++ 0b00#2) = .ok (.cLbu 0b011 0b110 0b10) ∧
    decode configReset (0#16 ++ 0b100#3 ++ 0b001#3 ++ 0b110#3 ++ 0b0#1 ++ 0b1#1 ++ 0b011#3 ++ 0b00#2) = .ok (.cLhu 0b011 0b110 0b1) ∧
    decode configReset (0#16 ++ 0b100#3 ++ 0b001#3 ++ 0b110#3 ++ 0b1#1 ++ 0b1#1 ++ 0b011#3 ++ 0b00#2) = .ok (.cLh 0b011 0b110 0b1) ∧
    decode configReset (0#16 ++ 0b100#3 ++ 0b010#3 ++ 0b110#3 ++ 0b0#1 ++ 0b1#1 ++ 0b100#3 ++ 0b00#2) = .ok (.cSb 0b110 0b100 0b10) ∧
    decode configReset (0#16 ++ 0b100#3 ++ 0b011#3 ++ 0b110#3 ++ 0b0#1 ++ 0b1#1 ++ 0b100#3 ++ 0b00#2) = .ok (.cSh 0b110 0b100 0b1) ∧
    decode configReset (0#16 ++ 0b100#3 ++ 0b111#3 ++ 0b011#3 ++ 0b11000#5 ++ 0b01#2) = .ok (.cZextB 0b011) ∧
    decode configReset (0#16 ++ 0b100#3 ++ 0b111#3 ++ 0b011#3 ++ 0b11101#5 ++ 0b01#2) = .ok (.cNot 0b011) :=
  ⟨rfl, rfl, rfl, rfl, rfl, rfl, rfl⟩

theorem test_decode_ZcbZbb_reset :
    decode configReset (0#16 ++ 0b100#3 ++ 0b111#3 ++ 0b011#3 ++ 0b11001#5 ++ 0b01#2) = .ok (.cSextB 0b011) ∧
    decode configReset (0#16 ++ 0b100#3 ++ 0b111#3 ++ 0b011#3 ++ 0b11010#5 ++ 0b01#2) = .ok (.cZextH 0b011) ∧
    decode configReset (0#16 ++ 0b100#3 ++ 0b111#3 ++ 0b011#3 ++ 0b11011#5 ++ 0b01#2) = .ok (.cSextH 0b011) :=
  ⟨rfl, rfl, rfl⟩

theorem test_decode_ZcbZba_reset :
    decode configReset (0#16 ++ 0b100#3 ++ 0b111#3 ++ 0b011#3 ++ 0b11100#5 ++ 0b01#2) = .ok (.cZextW 0b011) :=
  rfl

theorem test_decode_ZcbMZmmul_reset :
    decode configReset (0#16 ++ 0b100#3 ++ 0b111#3 ++ 0b011#3 ++ 0b10#2 ++ 0b100#3 ++ 0b01#2) = .ok (.cMul 0b011 0b100) :=
  rfl

theorem test_decode_Zcmp_zc64 :
    decode configZc64 (0#16 ++ 0b101#3 ++ 0b11000#5 ++ 0b1011#4 ++ 0b01#2 ++ 0b10#2) = .ok (.cmPush 0b1011 0b01) ∧
    decode configZc64 (0#16 ++ 0b101#3 ++ 0b11010#5 ++ 0b1011#4 ++ 0b01#2 ++ 0b10#2) = .ok (.cmPop 0b1011 0b01) ∧
    decode configZc64 (0#16 ++ 0b101#3 ++ 0b11100#5 ++ 0b1011#4 ++ 0b01#2 ++ 0b10#2) = .ok (.cmPopretz 0b1011 0b01) ∧
    decode configZc64 (0#16 ++ 0b101#3 ++ 0b11110#5 ++ 0b1011#4 ++ 0b01#2 ++ 0b10#2) = .ok (.cmPopret 0b1011 0b01) ∧
    decode configZc64 (0#16 ++ 0b101#3 ++ 0b011#3 ++ 0b001#3 ++ 0b01#2 ++ 0b110#3 ++ 0b10#2) = .ok (.cmMvsa01 0b001 0b110) ∧
    decode configZc64 (0#16 ++ 0b101#3 ++ 0b011#3 ++ 0b001#3 ++ 0b11#2 ++ 0b110#3 ++ 0b10#2) = .ok (.cmMva01s 0b001 0b110) :=
  ⟨rfl, rfl, rfl, rfl, rfl, rfl⟩

theorem test_decode_Zcmt_zc64 :
    decode configZc64 (0#16 ++ 0b101#3 ++ 0b000000#6 ++ 0b10110#5 ++ 0b10#2) = .ok (.cmJt 0b10110) ∧
    decode configZc64 (0#16 ++ 0b101#3 ++ 0b000#3 ++ 0b10110010#8 ++ 0b10#2) = .ok (.cmJalt 0b10110010) :=
  ⟨rfl, rfl⟩

/-- Bits that are no instruction (30_encoding.md R151, R190; 92_eei_decisions.md D10). -/
theorem test_decode_rejects :
    decode configReset 0x00000000 = .ok .cIllegal ∧ decode configBare 0x00000000 = .error .noCompressed ∧
    decode configReset 0x0000001F = .error .longEncoding ∧ decode configReset 0xFFFFFFFF = .error .longEncoding ∧
    decode configReset 0x0000000B = .error .reserved32 ∧ decode configReset 0x00001067 = .error .reserved32 ∧
    decode configReset 0x9C7D = .error .reserved16 ∧ decode configBare 0x026283B3 = .error .reserved32 :=
  ⟨rfl, rfl, rfl, rfl, rfl, rfl, rfl, rfl⟩

/-- Parcels and bytes of the instruction stream are little-endian (30_encoding.md R150). -/
theorem test_decode_bytes :
    decodeBytes configReset [0xB3, 0x83, 0x62, 0x00, 0x01] = .ok (.add 7 5 6, [0x01]) ∧
    decodeBytes configReset [0x01, 0x45, 0x00] = .ok (.cLi 10 0, [0x00]) ∧
    decodeBytes configReset [0xB3, 0x83, 0x62] = .error .truncated := ⟨rfl, rfl, rfl⟩

/-- The encoder writes the bits of the immediates where the spec has them (95_test_vectors.md, E7 and E8). -/
theorem test_encode : encode (.jal 5 2973) = 0x73A012EF ∧ encode (.beq 10 0 0xFFE) = 0xFE050EE3 ∧
    encode (.sw 8 6 4) = 0x00642223 ∧ encode (.cAddi16sp 58) = 0x711D ∧ encode (.cSwsp 18 20) = 0xC8CA ∧
    encode (.cmPush 15 2) = 0xB8FA := by decide

/-! ## Single steps -/

/-- A small state: a configuration, x registers, f registers and bytes of memory over those of reset. -/
def machine (c : Config) (xs : List (Reg × Cell)) (fs : List (Reg × Cell)) (bytes : List (Nat × Byte)) : State :=
  bytes.foldl (fun s p => { s with mem := memSet s.mem p.1 p.2 })
    (fs.foldl (fun s p => s.setF p.1 p.2) (xs.foldl (fun s p => s.setX p.1 p.2) { State.reset with cfg := c }))

/-- The next state of a result. -/
def ran : Result → State
  | .next t => t
  | .fault _ => State.reset
  | .refused _ => State.reset

/-- RV64 with FLEN = 64, where SC does not fail spuriously. -/
def configD : Config := { configReset with ext := { extFull64 with q := false }, scFail := .never }

-- 95_test_vectors.md, E4 and E5: products and the corners of division
theorem test_mulhsu : (ran (exec (.mulhsu 6 10 11) (machine config32 [(10, 0x80000000), (11, 0xFFFFFFFE)] [] []))).readX 32 6
    = 0x80000001 := by decide
theorem test_mulhu : (ran (exec (.mulhu 6 10 11) (machine config32 [(10, 0x80000000), (11, 0xFFFFFFFE)] [] []))).readX 32 6
    = 0x7FFFFFFF := by decide
theorem test_div_overflow : (ran (exec (.div 5 10 11) (machine config32 [(10, 0x80000000), (11, 0xFFFFFFFF)] [] []))).readX 32 5
    = 0x80000000 := by decide
theorem test_rem_sign : (ran (exec (.rem 6 10 11) (machine config32 [(10, 0xFFFFFFF9), (11, 2)] [] []))).readX 32 6
    = 0xFFFFFFFF := by decide
theorem test_remuw_zero : (ran (exec (.remuw 5 10 11) (machine configReset [(10, 0x1234567880000001)] [] []))).readX 64 5
    = 0xFFFFFFFF80000001 := by decide
theorem test_divw_overflow :
    (ran (exec (.divw 5 10 11) (machine configReset [(10, 0x80000000), (11, 0xFFFFFFFFFFFFFFFF)] [] []))).readX 64 5
    = 0xFFFFFFFF80000000 := by decide

-- 95_test_vectors.md, E1: the overflow idioms
theorem test_add_wraps : (ran (exec (.add 5 6 7) (machine config32 [(6, 0xFFFFFFFF), (7, 1)] [] []))).readX 32 5 = 0 := by decide
theorem test_slt_signed : (ran (exec (.slt 29 5 6) (machine config32 [(5, 0x80000000), (6, 0x7FFFFFFF)] [] []))).readX 32 29
    = 1 := by decide
theorem test_blt_taken : (ran (exec (.blt 5 6 10) (machine config32 [(5, 0x80000002), (6, 0x7FFFFFFD)] [] []))).pc
    = 0x1014 := by decide
theorem test_bltu_not_taken : (ran (exec (.bltu 5 6 14) (machine config32 [(5, 0x80000000), (6, 0x7FFFFFFF)] [] []))).pc
    = 0x1004 := by decide

-- by hand from 40_rv32i.md and 42_rv64i_rv128i.md
theorem test_x0_discards : (ran (exec (.addi 0 1 5) (machine configReset [(1, 7)] [] []))).readX 64 0 = 0 := by decide
theorem test_sub_own_source : (ran (exec (.sub 5 6 5) (machine config32 [(5, 1)] [] []))).readX 32 5 = 0xFFFFFFFF := by decide
theorem test_sltiu_minus_one : (ran (exec (.sltiu 5 6 0xFFF) (machine config32 [(6, 0xFFFFFFFE)] [] []))).readX 32 5 = 1 := by decide
theorem test_lui_sign_extends : (ran (exec (.lui 5 0x80000) (machine configReset [] [] []))).readX 64 5
    = 0xFFFFFFFF80000000 := by decide
theorem test_auipc : (ran (exec (.auipc 5 0xFFFFF) (machine config32 [] [] []))).readX 32 5 = 0 := by decide
theorem test_sll_amount_modulo : (ran (exec (.sll 5 6 7) (machine config32 [(6, 1), (7, 33)] [] []))).readX 32 5 = 2 := by decide
theorem test_sra_sign : (ran (exec (.sra 5 6 7) (machine configReset [(6, 0x8000000000000000), (7, 63)] [] []))).readX 64 5
    = 0xFFFFFFFFFFFFFFFF := by decide
theorem test_addiw_low_word : (ran (exec (.addiw 5 6 1) (machine configReset [(6, 0xAAAAAAAA7FFFFFFF)] [] []))).readX 64 5
    = 0xFFFFFFFF80000000 := by decide
theorem test_srlw_low_word : (ran (exec (.srlw 5 6 7) (machine configReset [(6, 0xF80000000), (7, 31)] [] []))).readX 64 5
    = 1 := by decide

-- control transfer: the jal of 95_test_vectors.md E7; jalr whose link is its base; a target that is not aligned
theorem test_jal : let t := ran (exec (.jal 5 2973) { machine config32 [] [] [] with pc := 0x1080E })
    t.readX 32 5 = 0x10812 ∧ t.pc = 0x11F48 := by decide
theorem test_jalr_own_base : let t := ran (exec (.jalr 1 1 3) (machine configReset [(1, 0x2000)] [] []))
    t.readX 64 1 = 0x1004 ∧ t.pc = 0x2002 := by decide
theorem test_jalr_misaligned : (ran (exec (.jalr 1 2 2) (machine configBare [(2, 0x2000)] [] []))).halted
    = some { cause := .instructionAddressMisaligned 0x2002, pc := 0x1000 } := by decide
theorem test_branch_misaligned_not_taken : (ran (exec (.bne 0 0 1) (machine configBare [] [] []))).halted = none := by decide

-- loads and stores: sign, byte order, wrap at the end of the address space
theorem test_lb_sign : (ran (exec (.lb 5 6 0xFFF) (machine configReset [(6, 0x2001)] [] [(0x2000, 0x80)]))).readX 64 5
    = 0xFFFFFFFFFFFFFF80 := by decide
theorem test_lhu_zero : (ran (exec (.lhu 5 6 0) (machine configReset [(6, 0x2000)] [] [(0x2000, 0x34), (0x2001, 0xF2)]))).readX 64 5
    = 0xF234 := by decide
theorem test_lh_big_endian :
    (ran (exec (.lh 5 6 0) (machine { configReset with endian := .big } [(6, 0x2000)] [] [(0x2000, 0xF2), (0x2001, 0x34)]))).readX 64 5
    = 0xFFFFFFFFFFFFF234 := by decide
theorem test_lw_wraps : (ran (exec (.lw 5 6 0) (machine config32 [(6, 0xFFFFFFFE)] [] [(0, 0x33), (0xFFFFFFFE, 0x11)]))).readX 32 5
    = 0x00330011 := by decide
theorem test_sw_bytes : (ran (exec (.sw 6 7 4) (machine configReset [(6, 0x2000), (7, 0xAABBCCDD11223344)] [] [(0x2005, 9)]))).mem
    = [(0x2004, 0x44), (0x2005, 0x33), (0x2006, 0x22), (0x2007, 0x11)] := by decide
theorem test_sb_zero_unlists : (ran (exec (.sb 6 0 0) (machine configReset [(6, 0x2000)] [] [(0x2000, 9)]))).mem = [] := by decide
theorem test_load_fault :
    (ran (exec (.lw 5 6 0) (machine { configReset with regions := [{ base := 0, size := 0x2000 }] } [(6, 0x2000)] [] []))).halted
    = some { cause := .loadAccessFault 0x2000, pc := 0x1000 } := by decide
theorem test_device_write :
    (ran (exec (.sh 6 7 0) (machine { configReset with regions := [{ base := 0, size := 0x4000, kind := .io }] }
      [(6, 0x2000), (7, 0x1234)] [] []))).ioTrace = [.write 0x2000 [0x34, 0x12]] := by decide

-- 95_test_vectors.md, E6 (the compare-and-swap loop, one instruction at a time) and the spin lock
theorem test_lr : let t := ran (exec (.lrW 5 10 0 0) (machine configD [(10, 0x2000)] [] [(0x2000, 7)]))
    t.readX 64 5 = 7 ∧ t.reservation = some { addr := 0x2000, size := 4, extra := [] } := by decide
theorem test_sc_succeeds :
    let t := ran (exec (.scW 5 10 12 0 0) { machine configD [(10, 0x2000), (12, 9)] [] [(0x2000, 7)] with
      reservation := some { addr := 0x2000, size := 4, extra := [] } })
    t.readX 64 5 = 0 ∧ t.mem = [(0x2000, 9)] ∧ t.reservation = none := by decide
theorem test_sc_fails : let t := ran (exec (.scW 5 10 12 0 0) (machine configD [(10, 0x2000), (12, 9)] [] [(0x2000, 7)]))
    t.readX 64 5 = 1 ∧ t.mem = [(0x2000, 7)] := by decide
theorem test_amoswap_own_source : let t := ran (exec (.amoswapW 5 10 5 1 0) (machine configReset [(5, 1), (10, 0x2000)] [] [(0x2003, 0x80)]))
    t.readX 64 5 = 0xFFFFFFFF80000000 ∧ t.mem = [(0x2000, 1)] := by decide
theorem test_amomin_signed : (ran (exec (.amominW 5 10 11 0 0) (machine configReset [(10, 0x2000), (11, 0xFFFFFFFF)] [] [(0x2000, 5)]))).byte 0x2003
    = 0xFF := by decide
theorem test_amomaxu_unsigned : (ran (exec (.amomaxuD 5 10 11 0 0) (machine configReset [(10, 0x2000), (11, 3)] [] [(0x2007, 0x80)]))).mem
    = [(0x2007, 0x80)] := by decide

-- 20_memory.md R79: a granule ends where its region does, unless the next has the same one
theorem test_granule_regions :
    (let c : Config := { configReset with regions := [{ base := 0, size := 0x1010, mag := some 64 }, { base := 0x1010, size := 0x1000 }] };
      c.inGranule 0x100C 4 = true ∧ c.inGranule 0x100E 4 = false) ∧
    (let c : Config := { configReset with regions := [{ base := 0, size := 0x1010, mag := some 64 }, { base := 0x1010, size := 0x1000, mag := some 64 }] };
      c.inGranule 0x100E 4 = true ∧ c.inGranule 0x103E 4 = false) := by decide

-- CSRs: 96_test_vectors_derived.md section 6 and 95_test_vectors.md, E10 (jvt.MODE)
theorem test_csrrw_fcsr : let t := ran (exec (.csrrw 5 6 3) { machine configReset [(6, 0xFFFFFFE5)] [] [] with fflags := 2, frm := 1 })
    t.readX 64 5 = 0x22 ∧ t.fflags = 5 ∧ t.frm = 7 := by decide
theorem test_csrrci : (ran (exec (.csrrci 5 0b00110 1) { machine configReset [] [] [] with fflags := 0b11111 })).fflags
    = 0b11001 := by decide
theorem test_csr_read_only : (ran (exec (.csrrw 0 6 0xC00) (machine configReset [] [] []))).halted
    = some { cause := .illegalInstruction 0xC0031073, pc := 0x1000 } := by decide
theorem test_csr_read_counter : (ran (exec (.csrrs 2 0 0xC80) { machine config32 [] [] [] with cycle := 0x1FFFFFFFE })).readX 32 2
    = 1 := by decide
theorem test_jvt_mode : (ran (exec (.csrrw 0 5 0x17) (machine configZc64 [(5, 0x4001)] [] []))).jvt = 0x4000 := by decide

-- 95_test_vectors.md, E11: F on RV64 with FLEN = 64
theorem test_fadd_inf_minus_inf :
    let t := ran (exec (.faddS 10 11 12 0) (machine configD [] [(11, 0xFFFFFFFF7F800000), (12, 0xFFFFFFFFFF800000)] []))
    t.readF 10 = 0xFFFFFFFF7FC00000 ∧ t.fflags = 0x10 := by decide
theorem test_fadd_unboxed :
    let t := ran (exec (.faddS 10 11 12 0) (machine configD [] [(11, 0x3F800000), (12, 0xFFFFFFFF3F800000)] []))
    t.readF 10 = 0xFFFFFFFF7FC00000 ∧ t.fflags = 0 := by decide
theorem test_fsgnjn_snan : (ran (exec (.fsgnjnS 10 11 11) (machine configD [] [(11, 0xFFFFFFFF7F800001)] []))).readF 10
    = 0xFFFFFFFFFF800001 := by decide
theorem test_fcvt_w_s_negative :
    let t := ran (exec (.fcvtWS 10 10 1) (machine configD [] [(10, 0xFFFFFFFFCF000001)] []))
    t.readX 64 10 = 0xFFFFFFFF80000000 ∧ t.fflags = 0x10 := by decide
theorem test_fcvt_wu_s_rdn : let t := ran (exec (.fcvtWuS 10 10 2) (machine configD [] [(10, 0xFFFFFFFFBF000000)] []))
    t.readX 64 10 = 0 ∧ t.fflags = 0x10 := by decide
theorem test_fcvt_w_s_ties : (ran (exec (.fcvtWS 10 10 0) (machine configD [] [(10, 0xFFFFFFFF40200000)] []))).readX 64 10 = 2 ∧
    (ran (exec (.fcvtWS 10 10 4) (machine configD [] [(10, 0xFFFFFFFF40200000)] []))).readX 64 10 = 3 := by decide
theorem test_fclass_subnormal : (ran (exec (.fclassS 10 10) (machine configD [] [(10, 0xFFFFFFFF80000001)] []))).readX 64 10
    = 4 := by decide
theorem test_reserved_rm : (ran (exec (.faddS 10 11 12 7) { machine configD [] [] [] with frm := 5 })).halted
    = some { cause := .illegalInstruction 0x00C5F553, pc := 0x1000 } := by decide

-- by hand: rounding, division by zero, one rounding of a fused product, conversions between formats
theorem test_fdiv_zero : let t := ran (exec (.fdivD 1 2 3 0) (machine configD [] [(2, 0x3FF0000000000000), (3, 0x8000000000000000)] []))
    t.readF 1 = 0xFFF0000000000000 ∧ t.fflags = 8 := by decide
theorem test_fdiv_third : let t := ran (exec (.fdivS 1 2 3 0) (machine configD [] [(2, 0xFFFFFFFF3F800000), (3, 0xFFFFFFFF40400000)] []))
    t.readF 1 = 0xFFFFFFFF3EAAAAAB ∧ t.fflags = 1 := by decide
theorem test_fsqrt_two : (ran (exec (.fsqrtD 1 2 0) (machine configD [] [(2, 0x4000000000000000)] []))).readF 1
    = 0x3FF6A09E667F3BCD := by decide
theorem test_fmadd_one_rounding :
    let t := ran (exec (.fmaddS 1 2 2 3 0) (machine configD [] [(2, 0xFFFFFFFF3F800001), (3, 0xFFFFFFFFBF800002)] []))
    t.readF 1 = 0xFFFFFFFF28800000 ∧ t.fflags = 0 := by decide
theorem test_fcvt_s_d_overflow : let t := ran (exec (.fcvtSD 1 2 1) (machine configD [] [(2, 0x7FEFFFFFFFFFFFFF)] []))
    t.readF 1 = 0xFFFFFFFF7F7FFFFF ∧ t.fflags = 5 := by decide
theorem test_fcvt_h_s_subnormal : let t := ran (exec (.fcvtHS 1 2 0) (machine configD [] [(2, 0xFFFFFFFF33800001)] []))
    t.readF 1 = 0xFFFFFFFFFFFF0001 ∧ t.fflags = 3 := by decide
theorem test_fmul_q : (ran (exec (.fmulQ 1 2 2 0) (machine configReset [] [(2, 0xC0008000000000000000000000000000)] []))).readF 1
    = 0x40022000000000000000000000000000 := by decide
theorem test_fmin_zeros : (ran (exec (.fminD 1 2 3) (machine configD [] [(3, 0x8000000000000000)] []))).readF 1
    = 0x8000000000000000 := by decide
theorem test_flt_quiet_nan : let t := ran (exec (.fltD 1 2 3) (machine configD [] [(2, 0x7FF8000000000000)] []))
    t.readX 64 1 = 0 ∧ t.fflags = 0x10 := by decide
theorem test_zdinx_pair :
    let t := ran (exec (.faddD 4 2 2 0) (machine configFinx32 [(2, 0), (3, 0x3FF00000)] [] []))
    t.readX 32 4 = 0 ∧ t.readX 32 5 = 0x40000000 := by decide

-- Zfa: Table 35 and the sections of 48_zfinx_zfa_cmo_zawrs.md
theorem test_fli : (ran (exec (.fliS 1 0) (machine configD [] [] []))).readF 1 = 0xFFFFFFFFBF800000 ∧
    (ran (exec (.fliD 1 15) (machine configD [] [] []))).readF 1 = 0x3FEC000000000000 := by decide
theorem test_fminm_nan : (ran (exec (.fminmD 1 2 3) (machine configD [] [(2, 0x7FF8000000000001)] []))).readF 1
    = 0x7FF8000000000000 := by decide
theorem test_fround_half : let t := ran (exec (.froundD 1 2 0) (machine configD [] [(2, 0xBFE0000000000000)] []))
    t.readF 1 = 0x8000000000000000 ∧ t.fflags = 0 := by decide
theorem test_froundnx_half : (ran (exec (.froundnxD 1 2 0) (machine configD [] [(2, 0xBFE0000000000000)] []))).fflags = 1 := by decide
theorem test_fcvtmod : let t := ran (exec (.fcvtmodWD 1 2) (machine configD [] [(2, 0x41F0000000100000)] []))
    t.readX 64 1 = 1 ∧ t.fflags = 0x10 := by decide
theorem test_fmvp_d : (ran (exec (.fmvpDX 1 2 3) (machine { config32 with ext := { config32.ext with q := false } }
    [(2, 0x55667788), (3, 0x11223344)] [] []))).readF 1 = 0x1122334455667788 := by decide

-- C and Zc: 95_test_vectors.md, E8 to E10
theorem test_c_addi16sp : (ran (exec (.cAddi16sp 58) (machine config32 [(2, 0x2000)] [] []))).readX 32 2 = 0x1FA0 := by decide
theorem test_c_swsp : (ran (exec (.cSwsp 18 20) (machine config32 [(2, 0x2000), (18, 0x77)] [] []))).mem = [(0x2050, 0x77)] := by decide
theorem test_c_jalr : let t := ran (exec (.cJalr 1) (machine configReset [(1, 0x3001)] [] []))
    t.readX 64 1 = 0x1002 ∧ t.pc = 0x3000 := by decide
theorem test_c_srai_rv128 : (ran (exec (.cSrai 0 0) (machine config128 [(8, 0x80000000000000000000000000000000)] [] []))).readX 128 8
    = 0xFFFFFFFFFFFFFFFF8000000000000000 := by decide
theorem test_c_sext_b : (ran (exec (.cSextB 0) (machine configReset [(8, 0x180)] [] []))).readX 64 8 = 0xFFFFFFFFFFFFFF80 := by decide
/-- RV32 with Zcmp and Zcmt. -/
def configZc32 : Config := { configZc64 with xlen := .rv32, ext := { configZc64.ext with zcf := true } }
theorem test_push : let t := ran (exec (.cmPush 7 3) (machine configZc32 [(1, 0xA1), (2, 0x2000), (8, 0xB0), (9, 0xB1), (18, 0xB2)] [] []))
    t.readX 32 2 = 0x1FC0 ∧ t.mem = [(0x1FF0, 0xA1), (0x1FF4, 0xB0), (0x1FF8, 0xB1), (0x1FFC, 0xB2)] := by decide
theorem test_popretz :
    let t := ran (exec (.cmPopretz 5 0) (machine configZc32 [(2, 0x2000), (10, 0x55)] [] [(0x2008, 0x0D), (0x2009, 1), (0x200C, 0x10)]))
    t.readX 32 1 = 0x10D ∧ t.readX 32 8 = 0x10 ∧ t.readX 32 10 = 0 ∧ t.readX 32 2 = 0x2010 ∧ t.pc = 0x10C := by decide
theorem test_mvsa01 : let t := ran (exec (.cmMvsa01 7 0) (machine configZc32 [(10, 1), (11, 2)] [] []))
    t.readX 32 23 = 1 ∧ t.readX 32 8 = 2 := by decide
theorem test_jt : let t := ran (exec (.cmJt 3) { machine configZc32 [] [] [(0x400C, 0x45), (0x400D, 0x23), (0x400E, 1)] with jvt := 0x4000 })
    t.pc = 0x12344 ∧ t.readX 32 1 = 0 := by decide
theorem test_jalt : let t := ran (exec (.cmJalt 40) { machine configZc64 [] [] [(0x4141, 0x80), (0x4144, 1)] with jvt := 0x4000 })
    t.pc = 0x100008000 ∧ t.readX 64 1 = 0x1002 := by decide

/-- RV64 with an hpmcounter of a constant value, of 40 bits. -/
def atHpm : State := { machine configReset [] [] [] with hpm := [{ number := 31, width := 40, source := .constant, value := 5 }] }

-- exceptions, may-be operations, cache blocks
theorem test_ecall : let t := ran (exec .ecall (machine configReset [] [] []))
    t.halted = some { cause := .environmentCall, pc := 0x1000 } ∧ t.pc = 0x1000 ∧ t.instret = 0 := by decide
theorem test_c_ebreak : (ran (exec .cEbreak (machine configReset [] [] []))).halted
    = some { cause := .breakpoint 0x1000, pc := 0x1000 } := by decide
theorem test_mop : (ran (exec (.mopR5 7 7) (machine configReset [(7, 9)] [] []))).readX 64 7 = 0 := by decide
theorem test_cbo_zero : (ran (exec (.cboZero 6) (machine { configReset with cblockZLog2 := 3 } [(6, 0x2005)] []
    [(0x1FFF, 1), (0x2000, 2), (0x2007, 3), (0x2008, 4)]))).mem = [(0x1FFF, 1), (0x2008, 4)] := by decide
theorem test_cbo_illegal : (ran (exec (.cboClean 6) (machine { configReset with cbcfe := false } [] [] []))).halted
    = some { cause := .illegalInstruction 0x0013200F, pc := 0x1000 } := by decide
/-- A store of four bytes changes two parcels; each is the new one or the old one, never a mix (R801). -/
theorem test_stale_fetch :
    let t := ran (exec (.sw 6 7 0) (machine configReset [(6, 0x2000), (7, 0x00030201)] [] [(0x2000, 5), (0x2001, 6)]))
    t.parcelValues 0x2000 = [[1, 2], [5, 6]] ∧ t.parcelValues 0x2002 = [[3, 0], [0, 0]] ∧
      t.parcelValues 0x2004 = [[0, 0]] := by decide
/-- A constant hpmcounter keeps its value over an instruction (R421), and a write of jvt that a list of bases does not
hold leaves one that it does (R56). -/
theorem test_hpm_constant : (ran (exec (.addi 1 0 0) { atHpm with pc := 0x1000 })).hpm = atHpm.hpm := rfl
theorem test_jvt_sets :
    ({ atHpm with cfg := { configZc64 with jvtBase := .oneOf 0x4000 [0x8000] } } : State).csrWrite 0x017 0x8001 =
      { atHpm with cfg := { configZc64 with jvtBase := .oneOf 0x4000 [0x8000] }, jvt := 0x8000 } ∧
    ({ atHpm with cfg := { configZc64 with jvtBase := .readOnly 0x4000 } } : State).csrRead 0x017 = some 0x4000 := by decide

/-! ## The step and the placing of an instruction -/

/-- The step fetches the bytes at pc, decodes and runs them: ADDI x5, x0, 7. -/
theorem test_step_runs : let r := step ((machine configReset [] [] []).withFetchWord 32 0x00700293)
    (ran r).readX 64 5 = 7 ∧ (ran r).pc = 0x1004 ∧ (ran r).instret = 1 := ⟨rfl, rfl, rfl⟩
/-- A 16-bit instruction of RV32, in the configuration that has it: C.JAL +2. -/
theorem test_step_places : (ran (step (State.reset.withFetchWord 16 0x2009))).pc = 0x1002 ∧
    (ran (step (State.reset.withFetchWord 16 0x2009))).cfg.xlen = .rv32 := ⟨rfl, rfl⟩
/-- Bits that are no instruction raise illegal instruction with those bits. -/
theorem test_step_illegal : (ran (step (State.reset.withFetchWord 32 0x0000000B))).halted
    = some { cause := .illegalInstruction 0x0000000B, pc := 0x1000 } := rfl

/-! ## Witnesses: states and operands that meet the hypotheses of each statement -/

/-- RV64 with ADDI x0, x0, 0 at pc. -/
def atNop : State := machine configReset [(1, 5)] [] [(0x1000, 0x13)]
/-- RV64 with C.EBREAK at pc. -/
def atBreak : State := machine configReset [] [] [(0x1000, 0x02), (0x1001, 0x90)]
/-- Every illegal instruction and every breakpoint is handled by the environment. -/
def configServed : Config := { configReset with trap := { illegalInstruction := .invisible, breakpoint := .requested } }
/-- Main memory below 0x2000, and a device of words and doublewords from 0x2000 on that does not support LR, SC and AMOs
and turns PUSH and POP away. -/
def configDevice : Config :=
  { configReset with
    misaligned := .mayTrap
    regions := [{ base := 0, size := 0x2000, mag := some 16 },
      { base := 0x2000, size := 0x1000, kind := .io, widths := [4, 8], lrsc := false, amo := .none, pushPop := false }] }
/-- Main memory below 0x3000 only, readable and executable but not writable from 0x2000 on. -/
def configHoles : Config :=
  { configReset with
    misaligned := .mayTrap
    regions := [{ base := 0, size := 0x2000 }, { base := 0x2000, size := 0x1000, writable := false, amo := .none }] }
/-- RV64I without 16-bit instructions, at 0x1000, with 2 in x2 and x3, and -2 in x4. -/
def bare : State := machine configBare [(2, 2), (3, 2), (4, 0xFFFFFFFFFFFFFFFE)] [] []

theorem atNop_inv : atNop.Inv :=
  ⟨by decide, by unfold State.memOk; decide, ⟨by decide, by decide⟩, by unfold State.jvtOk; decide,
    ⟨by decide, by decide, by decide⟩⟩

/-- StepKeepsTheInvariant, StepKeepsMemoryCanonical, and the first part of StepKeepsConfigurationAndCountsRetired. -/
theorem witness_step : atNop.Inv ∧ atNop.memOk ∧ ∃ t, step atNop = .next t ∧ t.instret = 1 :=
  ⟨atNop_inv, atNop_inv.mem, _, rfl, rfl⟩
/-- Its second part: a step that ends the hart. -/
theorem witness_step_ends : ∃ t, step atBreak = .next t ∧ t.halted ≠ none ∧ t.instret = 0 :=
  ⟨_, rfl, nofun, rfl⟩

/-- DecodeOfEncode; DecodedInstructionsReencode for both lengths. -/
theorem witness_encode : configReset.legal = true ∧ (Instr.addi 0 0 0).wf configReset = true ∧
    (Instr.cEbreak).wf configReset = true := by decide
theorem witness_decode : decode configReset 0x13#32 = .ok (.addi 0 0 0) ∧ decode configReset 0xFFFF9002#32 = .ok .cEbreak :=
  ⟨rfl, rfl⟩

/-- StepRunsTheDecodedInstruction, for both lengths. -/
theorem witness_step_runs : atNop.Ready ∧ atNop.fetch = .bits32 0x13 ∧ decode atNop.cfg 0x13 = .ok (.addi 0 0 0) ∧
    atBreak.Ready ∧ atBreak.fetch = .bits16 0x9002 ∧ decode atBreak.cfg 0x9002 = .ok .cEbreak :=
  ⟨⟨rfl, rfl, rfl⟩, rfl, rfl, ⟨rfl, rfl, rfl⟩, rfl, rfl⟩

/-- No store has changed the bytes of an instruction, or only the byte before it and the one after it. -/
theorem current_around (s : State) (lo hi : Byte) (n : Nat) (h1 : 0x0FFF ∉ span s.cfg.bits 0x1000 n)
    (h2 : 0x1000 + n ∉ span s.cfg.bits 0x1000 n) :
    State.FetchesCurrent { s with stale := [[(0x0FFF, lo), (0x1000 + n, hi)]] } 0x1000 n := by
  intro store hs p hp
  obtain rfl := List.mem_singleton.mp hs
  simp only [List.mem_cons, List.not_mem_nil, or_false] at hp
  rcases hp with rfl | rfl
  · exact h1
  · exact h2

/-- BytesAtPcAreTheInstructionRun, for both lengths, after a store to the bytes on either side. -/
theorem witness_bytes_at_pc :
    (let s : State := { atNop with stale := [[(0x0FFF, 1), (0x1004, 2)]] };
      s.Ready ∧ s.cfg.legal = true ∧ (Instr.addi 0 0 0).wf s.cfg = true ∧
      s.FetchesCurrent s.pc.toNat (Instr.addi 0 0 0).len ∧ s.cfg.fetchable s.pc.toNat (Instr.addi 0 0 0).len = true ∧
      ∀ k, k < 4 → s.byte ((s.pc.toNat + k) % 2 ^ s.cfg.bits) = (encode (.addi 0 0 0)).extractLsb' (8 * k) 8) ∧
    (let s : State := { atBreak with stale := [[(0x0FFF, 1), (0x1002, 2)]] };
      s.Ready ∧ (Instr.cEbreak).wf s.cfg = true ∧ s.FetchesCurrent s.pc.toNat (Instr.cEbreak).len ∧
      s.cfg.fetchable s.pc.toNat (Instr.cEbreak).len = true ∧
      ∀ k, k < 2 → s.byte ((s.pc.toNat + k) % 2 ^ s.cfg.bits) = (encode .cEbreak).extractLsb' (8 * k) 8) :=
  ⟨⟨⟨rfl, rfl, rfl⟩, by decide, by decide, current_around atNop 1 2 4 (by decide) (by decide), by decide, by decide⟩,
    ⟨rfl, rfl, rfl⟩, by decide, current_around atBreak 1 2 2 (by decide) (by decide), by decide, by decide⟩

/-- StepsThatRunNoInstruction: a terminated hart, an interrupt, undefined bits of both lengths, a fetch not permitted. -/
theorem witness_no_instruction :
    (∃ s : State, ∃ r, s.halted = some r) ∧
    (∃ s : State, s.halted = none ∧ s.stalled = false ∧ s.interruptPending = true ∧ s.interruptEnabled = true) ∧
    (∃ s : State, s.trapAction (.interrupt s.interruptCause) = .fatal) ∧
    (∃ s : State, s.trapAction (.interrupt s.interruptCause) ≠ .fatal) ∧
    (∃ s : State, s.Ready ∧ s.fetch = .bits32 0x0B ∧ decode s.cfg 0x0B = .error .reserved32) ∧
    (∃ s : State, s.Ready ∧ s.fetch = .bits16 0x9C7D ∧ decode s.cfg 0x9C7D = .error .reserved16) ∧
    (∃ s : State, s.Ready ∧ s.fetch = .fault) :=
  ⟨⟨{ atNop with halted := some { cause := .environmentCall, pc := 0 } }, _, rfl⟩,
    ⟨{ atNop with interruptPending := true, interruptEnabled := true }, rfl, rfl, rfl, rfl⟩,
    ⟨atNop, rfl⟩, ⟨machine { configReset with trap := { interrupt := .invisible } } [] [] [], nofun⟩,
    ⟨machine configReset [] [] [(0x1000, 0x0B)], ⟨rfl, rfl, rfl⟩, rfl, rfl⟩,
    ⟨machine configReset [] [] [(0x1000, 0x7D), (0x1001, 0x9C)], ⟨rfl, rfl, rfl⟩, rfl, rfl⟩,
    ⟨machine { configReset with regions := [] } [] [] [], ⟨rfl, rfl, rfl⟩, rfl⟩⟩

/-- FatalTrapChangesNothingButTheReport, ServicedTrapResumesOrCompletes, and CallsBreakpointsAndZerosRaise. -/
theorem witness_traps : configServed.legal = true ∧ atNop.trapAction .environmentCall = .fatal ∧
    (let s := machine configServed [] [] [];
      s.trapAction (.breakpoint 0) = .requested ∧ s.trapAction (.illegalInstruction 0) = .invisible) := ⟨by decide, rfl, rfl, rfl⟩
/-- Its clause about a service that ends the hart, and about a named address. -/
theorem witness_service : (∃ v : Service, v.terminate = true) ∧ ∃ target : Option Cell, ∃ a, target = some a :=
  ⟨⟨{ terminate := true, retry := false, resume := none, xWrites := [], fWrites := [], stores := [], frm := none,
      fflags := none, jvt := none, reservation := none, io := [], syncFetch := false }, rfl⟩, some 3, 3, rfl⟩
theorem witness_all_fatal : atNop.allFatal := by intro e; cases e <;> rfl

/-- WordArithmeticSignExtends32Bits: its last part. -/
theorem witness_rv32 : config32.xlen = .rv32 := rfl

/-- DivisionByZeroAndOverflow: each of its four parts, at the ends of the range. -/
theorem witness_division :
    (machine configReset [(1, 7)] [] []).readX 64 2 = 0 ∧
    (let s := machine configReset [(1, 0x8000000000000000), (2, 0xFFFFFFFFFFFFFFFF)] [] [];
      s.readX 64 1 = BitVec.intMin 64 ∧ s.readX 64 2 = -1) ∧
    (machine configReset [(2, 0xFFFFFFFF00000000)] [] []).readX 32 2 = 0 ∧
    (let s := machine configReset [(1, 0x180000000), (2, 0xFFFFFFFF)] [] [];
      s.readX 32 1 = BitVec.intMin 32 ∧ s.readX 32 2 = -1) := by decide

/-- JumpsGoToTheirTarget and BranchesTakenAndNotTaken: with IALIGN = 16, and aligned targets with IALIGN = 32. -/
theorem witness_targets : configReset.ialign16 = true ∧ bare.cfg.ialign16 = false ∧
    (bare.readPc bare.cfg.bits + BitVec.ofInt bare.cfg.bits ((0xFFFFE#20 : BitVec 20).toInt * 2)).toNat % 4 = 0 ∧
    ((bare.readX bare.cfg.bits 2 + (2#12).signExtend bare.cfg.bits) &&& ~~~1).toNat % 4 = 0 ∧
    (bare.readPc bare.cfg.bits + BitVec.ofInt bare.cfg.bits ((2#12).toInt * 2)).toNat % 4 = 0 := by decide

/-- MisalignedTargetsRaiseOnTheTransfer: the targets, and each condition. -/
theorem witness_misaligned_targets : bare.cfg.ialign16 = false ∧
    (bare.readPc bare.cfg.bits + BitVec.ofInt bare.cfg.bits ((1#20).toInt * 2)).toNat % 4 ≠ 0 ∧
    ((bare.readX bare.cfg.bits 2 + (0#12).signExtend bare.cfg.bits) &&& ~~~1).toNat % 4 ≠ 0 ∧
    (bare.readPc bare.cfg.bits + BitVec.ofInt bare.cfg.bits ((0xFFF#12).toInt * 2)).toNat % 4 ≠ 0 ∧
    bare.readX bare.cfg.bits 2 = bare.readX bare.cfg.bits 3 ∧ bare.readX bare.cfg.bits 2 ≠ bare.readX bare.cfg.bits 4 ∧
    (bare.readX bare.cfg.bits 4).toInt < (bare.readX bare.cfg.bits 2).toInt ∧
    (bare.readX bare.cfg.bits 2).toNat < (bare.readX bare.cfg.bits 4).toNat := by decide

/-- The loads and stores: accesses that complete, at the first and the last bytes of a region, aligned or not, in a granule,
and in a device. -/
theorem witness_accesses : atNop.memOk ∧ atNop.Accesses true 0 16 .load ∧ atNop.Accesses false (2 ^ 64 - 1) 8 .store ∧
    (machine configHoles [] [] []).Accesses true 0x1FF8 8 .store ∧ (machine configHoles [] [] []).Accesses true 0x2FFF 1 .load ∧
    (machine configDevice [] [] []).Accesses true 0x2FF8 8 .store ∧ (machine configDevice [] [] []).Accesses false 0x2000 4 .load ∧
    (machine configDevice [] [] []).Accesses true 0x1001 8 .load ∧ configDevice.isIo 0x2000 = true :=
  ⟨atNop_inv.mem, ⟨by decide, .inl rfl⟩, ⟨by decide, .inr (.inl rfl)⟩, ⟨by decide, .inl rfl⟩, ⟨by decide, .inl rfl⟩,
    ⟨by decide, .inl rfl⟩, ⟨by decide, .inl rfl⟩, ⟨by decide, .inr (.inr (.inl ⟨rfl, by decide⟩))⟩, by decide⟩

/-- LoadsAndStoresCompleteOrRaise: the last word of a device; the first byte past memory; a misaligned access that may
trap, of each kind. -/
theorem witness_load_store_forms :
    (let s := machine configDevice [(1, 0x2FFC)] [] [];
      (Instr.lw 5 1 0).loadForm s = some (4, 4, 0x2FFC) ∧ s.AlignmentOk ((Instr.lw 5 1 0).granule s 4) 0x2FFC 4 .load ∧
      s.cfg.accessible 0x2FFC 4 .load = true ∧ (Instr.sw 1 5 0).storeForm s = some (4, 4, 0x2FFC) ∧
      s.AlignmentOk ((Instr.sw 1 5 0).granule s 4) 0x2FFC 4 .store ∧ s.cfg.accessible 0x2FFC 4 .store = true) ∧
    (let s := machine configHoles [(1, 0x3000)] [] [];
      (Instr.lw 5 1 0).loadForm s = some (4, 4, 0x3000) ∧ s.AlignmentOk ((Instr.lw 5 1 0).granule s 4) 0x3000 4 .load ∧
      s.cfg.accessible 0x3000 4 .load = false) ∧
    (let s := machine configHoles [(1, 0x2000)] [] [];
      (Instr.sw 1 2 0).storeForm s = some (4, 4, 0x2000) ∧ s.AlignmentOk ((Instr.sw 1 2 0).granule s 4) 0x2000 4 .store ∧
      s.cfg.accessible 0x2000 4 .store = false) ∧
    (let s := machine configHoles [(1, 0x1001)] [] [];
      (Instr.ld 5 1 0).loadForm s = some (4, 8, 0x1001) ∧ (Instr.sd 1 5 0).storeForm s = some (4, 8, 0x1001) ∧
      s.cfg.misaligned = .mayTrap ∧ ((Instr.ld 5 1 0).granule s 8 && s.cfg.inGranule 0x1001 8) = false) :=
  ⟨⟨rfl, .inl rfl, by decide, rfl, .inl rfl, by decide⟩, ⟨rfl, .inl rfl, by decide⟩, ⟨rfl, .inl rfl, by decide⟩,
    ⟨rfl, rfl, rfl, by decide⟩⟩

/-- ReadAfterWriteGivesTheValue: a write over the end of the address space. -/
theorem witness_read_after_write : atNop.memOk ∧ 16 ≤ 2 ^ atNop.cfg.bits ∧
    ∀ a ∈ span atNop.cfg.bits (2 ^ 64 - 8) 16, atNop.cfg.isIo a = false := ⟨atNop_inv.mem, by decide, by decide⟩

/-- LoadReservedRegistersTheBytes, StoreConditionalSucceedsOrFails, AtomicOperationsReadModifyWrite. -/
theorem witness_atomics : let s := machine configD [(1, 0xFFFFFFFFFFFFFFF8), (2, 0)] [] [];
    (s.readX s.cfg.bits 1).toNat % 8 = 0 ∧ s.cfg.accessible (s.readX s.cfg.bits 1).toNat 8 .load = true ∧
    s.cfg.accessible (s.readX s.cfg.bits 1).toNat 8 .store = true ∧ s.cfg.lrscAt (s.readX s.cfg.bits 1).toNat 8 = true ∧
    s.cfg.amoAt (s.readX s.cfg.bits 1).toNat 8 .arithmetic = true ∧ s.cfg.lrscAt 0 4 = true ∧
    configDevice.inGranule 0x1001 8 = true ∧ configDevice.amoAt 0x1001 8 .arithmetic = true := by decide
/-- Each form of a reservation set: its exact bytes, its granule, and any superset (the bytes themselves are in each). -/
theorem witness_reservations : configD.reservation = .exact ∧
    ({ configD with reservation := .granule 3 } : Config).reservation = .granule 3 ∧ 8 ≤ 2 ^ 3 ∧
    (let r : Reservation := { addr := 0x2008, size := 4, extra := [(0x2000, 64)] };
      r.contains 0x2008 = true ∧ r.contains 0x203F = true ∧ r.contains 0x2040 = false) ∧
    ({ configD with reservation := .superset } : Config).legal = true := by decide
theorem witness_atomics_memory : (machine configD [(1, 0xFFFFFFFFFFFFFFF8)] [] []).memOk := rfl

/-- AtomicsRaiseAtTheirAddress: bytes that are not there, and a region that supports neither LR and SC nor AMOs. -/
theorem witness_atomic_faults :
    (0x3000 % 8 = 0 ∧ configDevice.accessible 0x3000 8 .load = false ∧ configDevice.accessible 0x3000 8 .store = false) ∧
    (0x2FF8 % 8 = 0 ∧ configDevice.accessible 0x2FF8 8 .store = true ∧ ∃ a ∈ span configDevice.bits 0x2FF8 8,
      ∃ r, configDevice.regionAt a = some r ∧ r.lrsc = false ∧ r.amo.rank < AmoClass.swap.rank) :=
  ⟨by decide, by decide, by decide, 0x2FF8, by decide, _, rfl, rfl, by decide⟩

/-- Its misaligned cases: each width, at the last address before an aligned one. -/
theorem witness_misaligned_atomics : let s := machine configReset [(1, 0x2007), (2, 0x2004)] [] [];
    (s.readX s.cfg.bits 1).toNat % 4 ≠ 0 ∧ s.cfg.inGranule 0x2007 4 = false ∧ (s.readX s.cfg.bits 2).toNat % 8 ≠ 0 ∧
    s.cfg.inGranule 0x2004 8 = false := by decide

/-- FenceISynchronisesTheFetch: a parcel of main memory. -/
theorem witness_main_memory_parcel : ∀ b ∈ span configDevice.bits 0x1FFE 2, configDevice.isIo b = false := by decide

/-- WaitOnReservationAdvancesOrStalls: each way of not stalling, and a stalled hart (its second clause has no hypothesis; a
hart that may stall is one with a reservation and a configuration that stalls). -/
theorem witness_wait : atNop.cfg.wrsStalls = false ∧ atNop.reservation = none ∧
    ({ atNop with interruptPending := true } : State).interruptPending = true ∧
    ∃ t, ({ atNop with stalled := true } : State).stalled = true ∧ ({ atNop with stalled := true } : State).halted = none ∧
      step { atNop with stalled := true } = .next t := ⟨rfl, rfl, rfl, _, rfl, rfl, rfl⟩

/-- CsrInstructionsReadAndWrite: a writable and a read-only CSR. CsrViolationsRaiseIllegal: an absent one, and addresses
whose top bits are 11. -/
theorem witness_csr : (∃ old, atNop.csrRead 0x003 = some old) ∧ csrReadOnly 0x003 = false ∧
    (∃ old, atNop.csrRead 0xC00 = some old) ∧ csrReadOnly 0xC00 = true ∧ (1 : Reg) ≠ 0 ∧ (31 : BitVec 5) ≠ 0 ∧
    atNop.csrRead 0x017 = none ∧ atNop.csrRead 0xFFF = none ∧ (0xC00#12).extractLsb' 10 2 = 3 ∧ (0xFFF#12).extractLsb' 10 2 = 3 :=
  ⟨⟨_, rfl⟩, by decide, ⟨_, rfl⟩, by decide, by decide, by decide, rfl, rfl, by decide, by decide⟩

/-- ControlRegisterAndCounterViews, its absent CSRs: without F and Zfinx, and the addresses on either side of each range. -/
theorem witness_absent_csrs : configBare.hasFcsr = false ∧
    ∀ a ∈ [0x000#12, 0x004#12, 0x016#12, 0x018#12, 0xBFF#12, 0xC20#12, 0xC7F#12, 0xCA0#12],
      a ∉ [0x001#12, 0x002#12, 0x003#12, 0x017#12] ∧ ¬(0xC00 ≤ a.toNat ∧ a.toNat ≤ 0xC1F) ∧
      ¬(0xC80 ≤ a.toNat ∧ a.toNat ≤ 0xC9F) := by decide

/-- FflagsIsAViewOfFcsr, ControlRegisterAndCounterViews: a hart with the CSRs and one without, on RV32 and not. -/
theorem witness_views : configReset.hasFcsr = true ∧ configFinx32.hasFcsr = true ∧ configReset.jvtBase = .any ∧
    ({ configReset with jvtBase := .readOnly 0x4000 } : Config).jvtBase = .readOnly 0x4000 ∧
    ({ configReset with jvtBase := .alignedTo 8 } : Config).jvtHolds 0x41C0#64 = false ∧
    ({ configReset with jvtBase := .alignedTo 8 } : Config).jvtHolds 0x4100#64 = true ∧
    configReset.ext.zicntr = true ∧ configBare.ext.zicntr = false ∧ config32.xlen = .rv32 ∧ configReset.xlen ≠ .rv32 ∧
    configReset.ext.zihpm = true ∧ configBare.ext.zihpm = false ∧ (∀ h ∈ atHpm.hpm, h.number ≠ 3) ∧
    ∃ h, atHpm.hpm.find? (fun c => c.number == 31) = some h ∧ h.source = .constant :=
  ⟨by decide, by decide, rfl, rfl, by decide, by decide, by decide, by decide, rfl, by decide, by decide, by decide, by decide,
    _, rfl, rfl⟩

/-- The floating-point statements: static and dynamic modes; every format in f registers; a register and an even pair of
x registers. -/
theorem witness_float :
    atNop.effectiveMode 0 = some .rne ∧ atNop.effectiveMode 4 = some .rmm ∧ atNop.effectiveMode 7 = some .rne := by decide
theorem witness_formats :
    (∀ f : Fmt, atNop.HasFmt f 31) ∧ (machine configFinx32 [] [] []).HasFmt .s 1 ∧ (machine configFinx32 [] [] []).HasFmt .d 30 := by
  refine ⟨fun f => ?_, ?_, ?_⟩
  · cases f <;> (unfold State.HasFmt; decide)
  all_goals unfold State.HasFmt; decide

/-- SignInjectionAndSelectionWriteTheirResult, the bits of sign injection: the last below the sign, and the sign. -/
theorem witness_sign_bits : (14 < Fmt.width .h - 1 ∧ 15 = Fmt.width .h - 1) ∧ (126 < Fmt.width .q - 1 ∧ 127 = Fmt.width .q - 1) := by
  decide

/-- ReservedRoundingModesRaiseIllegal: static 5 and 6, and dynamic with frm = 5. -/
theorem witness_reserved_modes : (Instr.faddS 1 2 3 5).rmField = some 5 ∧ atNop.effectiveMode 5 = none ∧
    atNop.effectiveMode 6 = none ∧ ({ atNop with frm := 5 } : State).effectiveMode 7 = none := by decide

/-- BoxAndUnbox: the widest and the narrowest format. -/
theorem witness_box : Fmt.width .q ≤ 128 ∧ Fmt.width .s ≤ 32 ∧ Fmt.width .h ≤ 64 := by decide

/-- NanResultsAreCanonical: NaN results of operations. -/
theorem witness_nan : (Fmt.decode .s (Fmt.add .s .rne (.inf false) (.inf true)).1).isNaN = true ∧
    (Fmt.decode .d (Fmt.sqrt .d .rne (.fin true 1 0)).1).isNaN = true ∧
    (Fmt.decode .h (Fmt.minNum .h false 0x7E01 0x7C01).1).isNaN = true := by decide

/-- RoundingGivesTheDatumAndFlagsOfTheExactValue: in binary16, the least magnitude that overflows by RNE and one below it,
one above the greatest finite datum for the directed modes, the least that is not tiny by RNE and one below it; and a
finite result. -/
theorem witness_rounding :
    Fmt.Overflows .h .rne false 65520 ∧ ¬Fmt.Overflows .h .rmm false 65519 ∧ Fmt.Overflows .h .rup false 65505 ∧
    Fmt.Overflows .h .rdn true 65505 ∧ ¬Fmt.Overflows .h .rdn false 65535 ∧ Fmt.Overflows .h .rtz false 65536 ∧
    ¬Fmt.Tiny .h .rne false (4095 / 2 ^ 26) ∧ Fmt.Tiny .h .rne false (8189 / 2 ^ 27) ∧ Fmt.Tiny .h .rtz true (8191 / 2 ^ 27) ∧
    (Fp.fin true 65520 0).value = some (-65520) ∧ (Fmt.decode .h (Fmt.round .h .rdn false 2049 0 false).1).value = some 2048 := by
  have h : Fmt.decode .h (Fmt.round .h .rdn false 2049 0 false).1 = .fin false 1024 1 := by decide
  rw [h]
  norm_num [Fmt.Overflows, Fmt.Tiny, RoundingMode.reaches, Fmt.bias, Fmt.expBits, Fmt.manBits, Fp.value]

/-- NearestRoundingIsNearestAndBreaksTies: 2049, as near to 2048 as to 2050. -/
theorem witness_ties : (Fp.fin false 2049 0).value = some 2049 ∧
    (Fmt.decode .h (Fmt.round .h .rne false 2049 0 false).1).value = some 2048 ∧
    (Fmt.decode .h (Fmt.round .h .rmm false 2049 0 false).1).value = some 2050 ∧
    |(2048 : ℚ) - 2049| = |2050 - 2049| := by
  have h1 : Fmt.decode .h (Fmt.round .h .rne false 2049 0 false).1 = .fin false 1024 1 := by decide
  have h2 : Fmt.decode .h (Fmt.round .h .rmm false 2049 0 false).1 = .fin false 1025 1 := by decide
  rw [h1, h2]
  norm_num [Fp.value]

/-- ComparisonsSelectionsAndClassesAreExact: both zeros (finite, so operands against an infinity too), a NaN and another
operand, and two NaNs. -/
theorem witness_comparisons : (Fp.fin true 0 0).value = some 0 ∧ (Fp.fin false 0 (-3)).value = some 0 ∧
    ((Fp.nan false).isNaN || (Fp.fin false 1 0).isNaN) = true ∧ (Fmt.decode .h 0x7E00).isNaN = true ∧
    (Fmt.decode .h 0x8000).isNaN = false ∧ (Fmt.decode .h 0x8000).eq (Fmt.decode .h 0) = true := by
  refine ⟨?_, ?_, rfl, by decide, by decide, by decide⟩ <;> norm_num [Fp.value]

/-- ArithmeticRoundsTheExactResult: finite operands, among them a zero and a negative one; a NaN and an infinity. -/
theorem witness_arithmetic : (Fp.fin false 3 0).value = some 3 ∧ (Fp.fin true 3 (-1)).value = some (-3 / 2) ∧
    (Fp.fin true 0 0).value = some 0 ∧ (Fp.nan true).isNaN = true ∧ (Fp.inf false).value = none ∧
    (Fmt.decode .h 0x3E00).value = some (3 / 2) ∧ Fmt.decode .h 0x7C01 = .nan true ∧ Fmt.decode .h 0xFC00 = .inf true := by
  have h : Fmt.decode .h 0x3E00 = .fin false 1536 (-10) := by decide
  refine ⟨?_, ?_, ?_, rfl, rfl, ?_, by decide, by decide⟩
  · norm_num [Fp.value]
  · norm_num [Fp.value]
  · norm_num [Fp.value]
  · rw [h]; norm_num [Fp.value]

/-- CacheBlockManagementKeepsMemory and CacheBlockZeroZeroesTheBlock: enabled, disabled, and a block that is not there or
may not be written. -/
theorem witness_cache_blocks :
    (configReset.cbie != .illegal) = true ∧ configReset.cbcfe = true ∧ configReset.cboAccess 0x203F = true ∧
    (({ configReset with cbie := .illegal } : Config).cbie != .illegal) = false ∧
    ({ configReset with cbcfe := false } : Config).cbcfe = false ∧ configHoles.cboAccess 0x3000 = false ∧
    configReset.cbze = true ∧ configReset.cboZeroAccess 0x203F = true ∧ configHoles.cboZeroAccess 0x2000 = false ∧
    ({ configReset with cbze := false } : Config).cbze = false ∧ configDevice.cboZeroAccess 0x2FFF = true := by decide

/-- Every byte of the address space lies in the one region. -/
theorem whole_region (bits a : Nat) (hb : bits = 64) : ∀ b ∈ span bits a 8, configZc64.regionAt b = some wholeSpace := by
  intro b h
  obtain ⟨i, -, rfl⟩ := List.mem_map.mp h
  have : (a + i) % 2 ^ bits < 2 ^ 64 := hb ▸ Nat.mod_lt _ (Nat.two_pow_pos _)
  simp [Config.regionAt, configZc64, configReset, wholeSpace]
  omega

/-- PushStoresTheListBelowTheStackPointer and PopLoadsTheListAndReturns: the longest list, a stack at the end of the address
space. -/
theorem witness_push_pop :
    (let s := machine configZc64 [(2, 0)] [] [];
      s.memOk ∧ 4 ≤ (15#4).toNat ∧ s.SlotsAllow s.sp (regList 15).length .store ∧
      s.SlotsAllow (s.popTop 15 3) (regList 15).length .load) := by
  have h : ∀ (a : Nat) (k : AccessKind), (machine configZc64 [(2, 0)] [] []).Accesses true a 8 k ∧
      (machine configZc64 [(2, 0)] [] []).cfg.slotOk a = true := by
    intro a k
    have hs := whole_region configZc64.bits a rfl
    refine ⟨⟨?_, .inr (.inl rfl)⟩, ?_⟩
    · refine List.all_eq_true.mpr fun b hb => ?_
      have := hs b hb
      show (match configZc64.regionAt b with | none => false | some r => r.permits k && r.widths.contains 8) = true
      rw [this]; cases k <;> rfl
    · refine List.all_eq_true.mpr fun b hb => ?_
      show (match configZc64.regionAt b with | none => false | some r => r.pushPop) = true
      rw [hs b hb]; rfl
  exact ⟨rfl, by decide, fun k _ => h _ _, fun k _ => h _ _⟩

/-- RV64 with the memory of a list of regions and a stack pointer. -/
def stackAt (regions : List Region) (sp : Cell) : State :=
  machine { configZc64 with misaligned := .mayTrap, regions := regions } [(2, sp)] [] []

/-- PushAndPopStopAtTheFirstBadSlot at the first slot: past the end of memory, and in a device that turns the accesses of
PUSH and POP away; at the third slot; and at a misaligned first slot that is not there. -/
theorem witness_push_pop_stop :
    (let s := stackAt [{ base := 0, size := 0x2000 }] 0x2010;
      s.memOk ∧ (0 : Nat) < (regList 4).length ∧ s.SlotsAllow s.sp 0 .store ∧
      s.SlotRaises (s.slot s.sp 0) .store (accessFaultExc .store (s.slot s.sp 0)) ∧
      s.SlotRaises (s.slot (s.sp + 16) 0) .load (accessFaultExc .load (s.slot (s.sp + 16) 0))) ∧
    (let s := stackAt configDevice.regions 0x2010;
      s.cfg.accessible (s.slot s.sp 0) s.cfg.bytes .store = true ∧
      s.SlotRaises (s.slot s.sp 0) .store (accessFaultExc .store (s.slot s.sp 0))) ∧
    (let s := stackAt [{ base := 0x2000, size := 0x2000 }] 0x2010;
      s.SlotsAllow s.sp 2 .store ∧ (2 : Nat) < (regList 7).length ∧
      s.SlotRaises (s.slot s.sp 2) .store (accessFaultExc .store (s.slot s.sp 2))) ∧
    (let s := stackAt [{ base := 0x2000, size := 0x2000 }] 0x1FF0;
      s.SlotsAllow (s.sp + 32) 2 .load ∧
      s.SlotRaises (s.slot (s.sp + 32) 2) .load (accessFaultExc .load (s.slot (s.sp + 32) 2))) := by
  refine ⟨⟨rfl, by decide, nofun, .inl ⟨.inl (by decide), .inl (by decide), rfl⟩, .inl ⟨.inl (by decide), .inl (by decide), rfl⟩⟩,
    ⟨by decide, .inl ⟨.inl (by decide), .inr (by decide), rfl⟩⟩,
    ⟨?_, by decide, .inl ⟨.inl (by decide), .inl (by decide), rfl⟩⟩, ?_, .inl ⟨.inl (by decide), .inl (by decide), rfl⟩⟩
  all_goals
    intro k hk
    obtain rfl | rfl : k = 0 ∨ k = 1 := by omega
    all_goals exact ⟨⟨by decide, .inl (by decide)⟩, by decide⟩
theorem witness_slot_misaligned : let s := stackAt [{ base := 0, size := 0x2000 }] 0x2011;
    ∃ e, s.SlotRaises (s.slot s.sp 0) .store e := by
  by_cases h : (stackAt [{ base := 0, size := 0x2000 }] 0x2011).AlignmentOk true
      ((stackAt [{ base := 0, size := 0x2000 }] 0x2011).slot (stackAt [{ base := 0, size := 0x2000 }] 0x2011).sp 0) 8 .store
  · exact ⟨_, .inl ⟨h, .inl (by decide), rfl⟩⟩
  · exact ⟨_, .inr ⟨h, rfl⟩⟩

/-- DoubleMovesMoveBoth; TableJumpsGoToTheEntry: enabled, an entry that may not be fetched, disabled, another mode. -/
theorem witness_table_jumps : (0 : Reg3) ≠ 7 ∧
    (let s : State := { machine configZc64 [] [] [] with jvt := 0x4000 };
      s.cfg.jvtEnabled = true ∧ s.readJvt.toNat % 64 = 0 ∧ s.cfg.fetchable 0x47F8 s.cfg.bytes = true) ∧
    configHoles.fetchable 0x3000 8 = false ∧ ({ configZc64 with jvtEnabled := false } : Config).jvtEnabled ≠ true ∧
    ({ machine configZc64 [] [] [] with jvt := 0x4001 } : State).readJvt.toNat % 64 ≠ 0 := by decide

/-- Its entry, the last of the table, beside bytes that a store has changed. -/
theorem witness_table_entry :
    ({ machine configZc64 [] [] [] with jvt := 0x4000, stale := [[(0x47F7, 1), (0x4800, 2)]] } : State).FetchesCurrent
      0x47F8 8 := by
  intro store hs p hp
  obtain rfl := List.mem_singleton.mp hs
  simp only [List.mem_cons, List.not_mem_nil, or_false] at hp
  rcases hp with rfl | rfl <;> decide

/-- The three rules about every instruction: instructions outside each set, and their next states. -/
theorem witness_only : (Instr.addi 0 0 0).isCsr = false ∧ (Instr.addi 0 0 0).isLrSc = false ∧
    (Instr.addi 0 0 0).mayStore = false ∧ ∃ t, exec (.addi 0 0 0) atNop = .next t := ⟨rfl, rfl, rfl, _, rfl⟩

end Sys2Proof.Tests
end

section
/-! PROOFS. The views of fcsr through the CSR addresses 0x001 and 0x003 (10_state.md R46, R49). -/

namespace Sys2Proof.Machine

/-! ### What csrRead and csrWrite do at the addresses of fflags and fcsr -/

theorem csrRead_fflags (s : State) (h : s.cfg.hasFcsr = true) :
    s.csrRead 0x001 = some (s.fflags.setWidth s.cfg.bits) := by
  simp [State.csrRead, h]

theorem csrRead_fcsr (s : State) (h : s.cfg.hasFcsr = true) :
    s.csrRead 0x003 = some ((s.frm ++ s.fflags).setWidth s.cfg.bits) := by
  simp [State.csrRead, h]

theorem csrWrite_fflags_eq (s : State) (v : BitVec s.cfg.bits) :
    s.csrWrite 0x001 v = { s with fflags := v.setWidth 5 } := rfl

/-! ### The low five bits of the XLEN-bit view of fcsr -/

/-- fcsr[4:0] is fflags because XLEN holds those five bits and frm lies above them. -/
theorem setWidth_five_fcsr (s : State) : ((s.frm ++ s.fflags).setWidth s.cfg.bits).setWidth 5 = s.fflags := by
  have hbits : 5 ≤ s.cfg.bits := by have := bits_ge_32 s.cfg; omega
  rw [BitVec.setWidth_setWidth_of_le _ hbits, BitVec.setWidth_append_eq_right]

end Sys2Proof.Machine

namespace Sys2Proof.Proofs

open Sys2Proof.Machine

/-- Settles O38: the read of 0x001 is the low five bits of the read of 0x003, and the write touches fflags alone. -/
theorem fflagsIsAViewOfFcsr : Obligations.FflagsIsAViewOfFcsr := by
  intro s h
  refine ⟨⟨_, csrRead_fcsr s h, ?_⟩, csrWrite_fflags_eq s⟩
  rw [csrRead_fflags s h, setWidth_five_fcsr]

end Sys2Proof.Proofs
end

section
/-! PROOFS. The register-register instructions of the base (40_rv32i.md R241-R249). -/

namespace Sys2Proof.Machine

/-! ### The R-type word -/

/-- The three register fields of an R-type word, put one by one over the fixed bits, are the concatenation of its six
fields: each `put` is a word of that form whose other fields are 0, and `|||` acts on each field apart once the width 32
is read as the sum of theirs. -/
theorem put_regs_eq_rType (f7 op : BitVec 7) (f3 : BitVec 3) (rd rs1 rs2 : Reg) :
    (f7 ++ 0#5 ++ 0#5 ++ f3 ++ 0#5 ++ op) ||| put rd 7 ||| put rs1 15 ||| put rs2 20 =
      f7 ++ rs2 ++ rs1 ++ f3 ++ rd ++ op := by
  have hrd : put rd 7 = 0#7 ++ 0#5 ++ 0#5 ++ 0#3 ++ rd ++ 0#7 := by revert rd; decide
  have hrs1 : put rs1 15 = 0#7 ++ 0#5 ++ rs1 ++ 0#3 ++ 0#5 ++ 0#7 := by revert rs1; decide
  have hrs2 : put rs2 20 = 0#7 ++ rs2 ++ 0#5 ++ 0#3 ++ 0#5 ++ 0#7 := by revert rs2; decide
  rw [hrd, hrs1, hrs2]
  change ((_ : BitVec (7 + 5 + 5 + 3 + 5 + 7)) ||| _ ||| _ ||| _) = _
  simp only [BitVec.or_append, BitVec.or_zero, BitVec.zero_or]

/-! ### The result -/

/-- An instruction of the form x[rd] <- op(x[rs1], x[rs2]), with its result in the statement's words. -/
theorem writesX_of_opReg {i : Instr} {s : State} {len : Nat} {rd rs1 rs2 : Reg}
    {op : (n : Nat) → BitVec n → BitVec n → BitVec n} {v : BitVec s.cfg.bits} (h : exec i s = opReg len rd rs1 rs2 op s)
    (hv : op s.cfg.bits (s.readX s.cfg.bits rs1) (s.readX s.cfg.bits rs2) = v) : WritesX i s len rd v :=
  hv ▸ writesX_of_exec h

end Sys2Proof.Machine

namespace Sys2Proof.Proofs

open Sys2Proof.Machine

/-- Settles O15: each instruction is `opReg` of its integer operation, and each word the R-type word of its funct7 and
funct3. -/
theorem registerArithmeticWritesItsResult : Obligations.RegisterArithmeticWritesItsResult := by
  intro s rd rs1 rs2
  have hword := fun f7 f3 => put_regs_eq_rType f7 0b0110011 f3 rd rs1 rs2
  refine ⟨?add, ?sub, ?slt, ?sltu, ?and, ?or, ?xor, ?sll, ?srl, ?sra, ?words⟩
  case slt => exact writesX_of_opReg rfl (intSlt_eq _ _ _)
  case sltu => exact writesX_of_opReg rfl (intSltu_eq _ _ _)
  case sra => exact writesX_of_opReg rfl (sshiftRight_eq _ _ _)
  case words =>
    exact ⟨hword 0b0000000 0b000, hword 0b0100000 0b000, hword 0b0000000 0b010, hword 0b0000000 0b011,
      hword 0b0000000 0b111, hword 0b0000000 0b110, hword 0b0000000 0b100, hword 0b0000000 0b001,
      hword 0b0000000 0b101, hword 0b0100000 0b101⟩
  case add | sub | and | or | xor | sll | srl => exact writesX_of_opReg rfl rfl

end Sys2Proof.Proofs
end

section
/-! PROOFS. The instructions that RV64I adds on 32-bit words (42_rv64i_rv128i.md R311, R312-R324). -/

namespace Sys2Proof.Machine

/-! ### The result -/

/-- An instruction that writes a 32-bit word sign-extended to XLEN, with the word in the statement's terms. -/
theorem writesX_of_word {i : Instr} {s : State} {len : Nat} {rd : Reg} {r w : BitVec 32}
    (h : exec i s = .next ((s.setX rd (r.signExtend s.cfg.bits)).retire len)) (hw : r = w) :
    WritesX i s len rd (w.signExtend s.cfg.bits) :=
  hw ▸ writesX_of_exec h

/-! ### None of them at XLEN 32 -/

/-- The guard on XLEN that opens the well-formedness of a W instruction with two register operands. -/
theorem wordGuard_two_regs_rv32 {c : Config} (h : c.xlen = .rv32) (rd rs1 : Reg) :
    (c.xlen != .rv32 && c.xReg rd && c.xReg rs1) = false := by
  simp [h]

/-- The guard on XLEN that opens the well-formedness of a W instruction with three register operands. -/
theorem wordGuard_three_regs_rv32 {c : Config} (h : c.xlen = .rv32) (rd rs1 rs2 : Reg) :
    (c.xlen != .rv32 && c.xReg rd && c.xReg rs1 && c.xReg rs2) = false := by
  simp [h]

end Sys2Proof.Machine

namespace Sys2Proof.Proofs

open Sys2Proof.Machine

/-- Settles O17: each instruction writes the sign-extended word that its 32-bit operation gives; the arithmetic shifts
are in the model's words `sshiftRight`, which is the floor of the quotient. -/
theorem wordArithmeticSignExtends32Bits : Obligations.WordArithmeticSignExtends32Bits := by
  intro s rd rs1 rs2 imm shamt
  refine ⟨?addiw, ?slliw, ?srliw, ?sraiw, ?addw, ?subw, ?sllw, ?srlw, ?sraw, ?absent⟩
  case sraiw | sraw => exact writesX_of_word rfl (sshiftRight_eq _ _ _)
  case absent =>
    intro c hc
    have two := wordGuard_two_regs_rv32 hc rd rs1
    have three := wordGuard_three_regs_rv32 hc rd rs1 rs2
    simp only [List.forall_mem_cons]
    exact ⟨two, two, two, two, three, three, three, three, three, nofun⟩
  case addiw | slliw | srliw | addw | subw | sllw | srlw => exact writesX_of_word rfl rfl

end Sys2Proof.Proofs
end

section
/-! PROOFS. Division by zero and signed overflow (43_m_a.md R364). -/

namespace Sys2Proof.Machine

/-! ### A zero divisor -/

theorem intDiv_zero (n : Nat) (a : BitVec n) : intDiv n a 0 = -1 := by
  rw [intDiv_eq, if_pos rfl]
  exact BitVec.neg_one_eq_allOnes.symm

theorem intDivu_zero (n : Nat) (a : BitVec n) : intDivu n a 0 = BitVec.ofNat n (2 ^ n - 1) := by
  rw [intDivu_eq, if_pos rfl]
  exact BitVec.eq_of_toNat_eq (by simp)

theorem intRem_zero (n : Nat) (a : BitVec n) : intRem n a 0 = a := by
  rw [intRem_eq, if_pos rfl]

theorem intRemu_zero (n : Nat) (a : BitVec n) : intRemu n a 0 = a := by
  rw [intRemu_eq, if_pos rfl]

/-! ### The divisor -1 -/

/-- The divisor -1 is nonzero unless the width is 0, where every vector is 0. -/
theorem neg_one_ne_zero_of_pos {n : Nat} (hn : 0 < n) : (-1 : BitVec n) ≠ 0 :=
  fun h => hn.ne' (BitVec.neg_one_eq_zero_iff.mp h)

theorem toInt_neg_one_of_pos {n : Nat} (hn : 0 < n) : (-1 : BitVec n).toInt = -1 := by
  have h : (-1 : BitVec n) = BitVec.allOnes n := BitVec.neg_one_eq_allOnes
  rw [h, BitVec.toInt_allOnes, if_pos hn]

theorem intDiv_neg_one {n : Nat} (hn : 0 < n) (a : BitVec n) : intDiv n a (-1) = -a := by
  rw [intDiv_eq, if_neg (neg_one_ne_zero_of_pos hn), toInt_neg_one_of_pos hn, Int.tdiv_neg, Int.tdiv_one,
    BitVec.ofInt_neg, BitVec.ofInt_toInt]

theorem intRem_neg_one {n : Nat} (hn : 0 < n) (a : BitVec n) : intRem n a (-1) = 0 := by
  rw [intRem_eq, if_neg (neg_one_ne_zero_of_pos hn), toInt_neg_one_of_pos hn, Int.tmod_neg, Int.tmod_one]
  exact BitVec.ofInt_ofNat n 0

/-- Signed overflow: the quotient 2^(n-1) is congruent to the dividend -2^(n-1). -/
theorem intDiv_intMin_neg_one {n : Nat} (hn : 0 < n) : intDiv n (BitVec.intMin n) (-1) = BitVec.intMin n := by
  rw [intDiv_neg_one hn, BitVec.neg_intMin]

/-! ### The fixed results of the W forms, sign-extended -/

theorem signExtend_word_zero (n : Nat) : (0 : BitVec 32).signExtend n = 0 :=
  BitVec.ofInt_ofNat n 0

theorem signExtend_word_neg_one (n : Nat) : (-1 : BitVec 32).signExtend n = -1 := by
  show BitVec.ofInt n (-1) = -1
  rw [BitVec.ofInt_neg]
  exact congrArg Neg.neg (BitVec.ofInt_ofNat n 1)

end Sys2Proof.Machine

namespace Sys2Proof.Proofs

open Sys2Proof.Machine

/-- Settles O19, row by row of R364's table: each result is that of the integer operation at width XLEN, or at width 32
and then sign-extended. -/
theorem divisionByZeroAndOverflow : Obligations.DivisionByZeroAndOverflow := by
  intro s rd rs1 rs2
  have hbits := bits_pos s.cfg
  have hword : 0 < 32 := by decide
  refine ⟨?zero, ?overflow, ?zeroWord, ?overflowWord⟩
  case zero =>
    intro hb
    exact ⟨writesX_of_opReg rfl (by rw [hb, intDiv_zero]), writesX_of_opReg rfl (by rw [hb, intDivu_zero]),
      writesX_of_opReg rfl (by rw [hb, intRem_zero]), writesX_of_opReg rfl (by rw [hb, intRemu_zero])⟩
  case overflow =>
    intro ha hb
    exact ⟨writesX_of_opReg rfl (by rw [ha, hb, intDiv_intMin_neg_one hbits]),
      writesX_of_opReg rfl (by rw [hb, intRem_neg_one hbits])⟩
  case zeroWord =>
    intro hb
    rw [← signExtend_word_neg_one]
    exact ⟨writesX_of_word rfl (by rw [hb, intDiv_zero]), writesX_of_word rfl (by rw [hb, intDivu_zero]),
      writesX_of_word rfl (by rw [hb, intRem_zero]), writesX_of_word rfl (by rw [hb, intRemu_zero])⟩
  case overflowWord =>
    intro ha hb
    rw [← signExtend_word_zero]
    exact ⟨writesX_of_word rfl (by rw [ha, hb, intDiv_intMin_neg_one hword]),
      writesX_of_word rfl (by rw [hb, intRem_neg_one hword])⟩

end Sys2Proof.Proofs
end

section
/-! PROOFS. What every step keeps: an induction over the updates, the services and the endings of a step, packaged once;
the canonical form of memory, the configuration and instret follow from it. -/

namespace Sys2Proof.Machine

/-! ### Predicates that every step keeps -/

/-- A predicate on the registers, memory, jvt and the configuration that updates and services keep. -/
structure Stable (P : State → Prop) : Prop where
  update : ∀ {i s t}, Update i s t → P s → P t
  serve : ∀ s v, P s → P (s.serve v)
  congr : ∀ {s t : State}, P s → t.cfg = s.cfg → t.x = s.x → t.f = s.f → t.jvt = s.jvt → t.mem = s.mem → P t

variable {P : State → Prop}

theorem Stable.updates (hP : Stable P) {i : Instr} {s t : State} (h : Updates i s t) (hs : P s) : P t := by
  induction h with
  | refl => exact hs
  | tail _ h ih => exact hP.update h ih

theorem Stable.raise (hP : Stable P) {s : State} (e : Exc) (len : Nat) (hs : P s) : P (s.raise e len) := by
  rcases raise_cases s e len with h | ⟨v, h⟩ | ⟨v, h | h⟩ <;> rw [h]
  · exact hP.congr hs rfl rfl rfl rfl rfl
  all_goals exact hP.congr (hP.serve s v hs) rfl rfl rfl rfl rfl

theorem Stable.takeInterrupt (hP : Stable P) {s : State} (hs : P s) : P s.takeInterrupt := by
  rcases takeInterrupt_cases s with h | h <;> rw [h] <;> exact hP.congr hs rfl rfl rfl rfl rfl

theorem Stable.exec (hP : Stable P) {i : Instr} {s t : State} (h : exec i s = .next t) (hs : P s) : P t := by
  obtain ⟨u, t', ht, hu, he⟩ := exec_effect i s
  obtain rfl : t = t' := by rw [h] at ht; cases ht; rfl
  have hPu : P u := hP.updates hu hs
  cases he with
  | retire => exact hP.congr hPu rfl rfl rfl rfl rfl
  | transfer v _ => exact hP.congr hPu rfl rfl rfl rfl rfl
  | raise e => exact hP.raise e i.len hPu
  | stall _ => exact hP.congr hs rfl rfl rfl rfl rfl

/-- What updates and services keep, a step keeps. -/
theorem Stable.step (hP : Stable P) {s t : State} (h : step s = .next t) (hs : P s) : P t := by
  rcases step_cases h with ⟨-, rfl | rfl⟩ | rfl | ⟨w, i, -, -, h⟩ | ⟨w, e, -, rfl⟩ | ⟨e, rfl⟩
  · exact hP.congr hs rfl rfl rfl rfl rfl
  · exact hP.congr hs rfl rfl rfl rfl rfl
  · exact hP.takeInterrupt hs
  · exact hP.exec h hs
  · exact hP.raise e 2 hs
  · exact hP.raise e 4 hs

/-! ### The canonical form of memory -/

theorem putBytes_memOk (s : State) (w : List (Nat × Byte)) (h : s.memOk) : (s.putBytes w).memOk := by
  have fold : ∀ (l : List (Nat × Byte)) (t : State), t.memOk →
      (l.foldl (fun t p => t.putByte (p.1 % 2 ^ s.cfg.bits) p.2) t).memOk := by
    intro l
    induction l with
    | nil => exact fun t ht => ht
    | cons p l ih => exact fun t ht => ih _ (putByte_memOk t _ _ ht)
  exact fold w s h

theorem memOk_congr {s t : State} (hm : t.mem = s.mem) (h : s.memOk) : t.memOk := by
  rw [State.memOk, hm]; exact h

theorem update_memOk {i : Instr} {s t : State} (h : Update i s t) (hs : s.memOk) : t.memOk := by
  cases h with
  | write ea n v _ => exact writeMem_memOk s ea n v hs
  | _ => exact memOk_congr (by simp) hs

theorem stable_memOk : Stable State.memOk where
  update := update_memOk
  serve s v h := serve_induct v h (fun _ _ _ => memOk_congr (by simp)) (fun _ _ _ => memOk_congr (by simp))
    (fun t w => putBytes_memOk t w) (fun _ => memOk_congr (by simp))
  congr hs _ _ _ _ hm := memOk_congr hm hs

/-! ### The configuration -/

theorem stable_cfg (c : Config) : Stable fun s => s.cfg = c where
  update h hs := (update_cfg h).trans hs
  serve s v hs := (serve_rest s v).1.trans hs
  congr hs hc _ _ _ _ := hc.trans hs

theorem step_cfg {s t : State} (h : step s = .next t) : t.cfg = s.cfg := (stable_cfg s.cfg).step h rfl

/-! ### instret and the end of the hart -/

/-- No update counts an instruction, ends the hart or moves pc. -/
theorem update_control {i : Instr} {s t : State} (h : Update i s t) :
    t.instret = s.instret ∧ t.halted = s.halted ∧ t.pc = s.pc := by
  cases h <;> simp

theorem updates_control {i : Instr} {s t : State} (h : Updates i s t) :
    t.instret = s.instret ∧ t.halted = s.halted ∧ t.pc = s.pc := by
  induction h with
  | refl => exact ⟨rfl, rfl, rfl⟩
  | tail _ h ih =>
    obtain ⟨hi, hh, hp⟩ := update_control h
    exact ⟨hi.trans ih.1, hh.trans ih.2.1, hp.trans ih.2.2⟩

/-- From `s` to `t` at most one instruction has retired, and none where the hart has ended. -/
def State.CountsRetired (s t : State) : Prop :=
  (t.instret = s.instret ∨ t.instret = s.instret + 1) ∧ (t.halted ≠ none → t.instret = s.instret)

/-- An exception raised on a live hart: where the hart ends, nothing has retired. -/
theorem raise_countsRetired {s : State} (hl : s.halted = none) (e : Exc) (len : Nat) : s.CountsRetired (s.raise e len) := by
  refine ⟨(raise_rest s e len).2, fun hne => ?_⟩
  rcases raise_cases s e len with h | ⟨v, h⟩ | ⟨v, h | h⟩ <;> rw [h] at hne ⊢
  · rfl
  all_goals exact absurd ((serve_rest s v).2.2.2.2.trans hl) hne

theorem takeInterrupt_countsRetired (s : State) : s.CountsRetired s.takeInterrupt := by
  have hi : s.takeInterrupt.instret = s.instret := by rcases takeInterrupt_cases s with h | h <;> rw [h] <;> rfl
  exact ⟨.inl hi, fun _ => hi⟩

theorem exec_countsRetired {i : Instr} {s t : State} (hl : s.halted = none) (h : exec i s = .next t) :
    s.CountsRetired t := by
  obtain ⟨u, t', ht, hu, he⟩ := exec_effect i s
  obtain rfl : t = t' := by rw [h] at ht; cases ht; rfl
  obtain ⟨hi, hh, -⟩ := updates_control hu
  have live : u.halted = none := hh.trans hl
  cases he with
  | retire => exact ⟨.inr (by rw [retire_instret, hi]), fun hne => absurd live hne⟩
  | transfer v _ => exact ⟨.inr (by rw [retireTo_instret, hi]), fun hne => absurd live hne⟩
  | raise e => have := raise_countsRetired live e i.len; rwa [State.CountsRetired, hi] at this
  | stall _ => exact ⟨.inl rfl, fun _ => rfl⟩

/-- A step is answered only by a hart that is not terminated. -/
theorem live_of_step {s t : State} (h : step s = .next t) : s.halted = none := by
  unfold step at h
  split at h
  · cases h
  · assumption

theorem step_countsRetired {s t : State} (h : step s = .next t) : s.CountsRetired t := by
  have hl := live_of_step h
  rcases step_cases h with ⟨-, rfl | rfl⟩ | rfl | ⟨w, i, -, -, h⟩ | ⟨w, e, -, rfl⟩ | ⟨e, rfl⟩
  · exact ⟨.inl rfl, fun _ => rfl⟩
  · exact ⟨.inr rfl, fun hne => absurd hl hne⟩
  · exact takeInterrupt_countsRetired s
  · exact exec_countsRetired hl h
  · exact raise_countsRetired hl e 2
  · exact raise_countsRetired hl e 4

end Sys2Proof.Machine

namespace Sys2Proof.Proofs

open Sys2Proof.Machine

/-- Settles O4: memory changes only byte by byte, and writing a byte keeps the canonical form. -/
theorem stepKeepsMemoryCanonical : Obligations.StepKeepsMemoryCanonical :=
  fun _ _ hm h => stable_memOk.step h hm

/-- Settles O5: no update and no service touches the configuration, and only an ending counts an instruction. -/
theorem stepKeepsConfigurationAndCountsRetired : Obligations.StepKeepsConfigurationAndCountsRetired :=
  ⟨fun _ _ h => step_cfg h, fun _ _ h => step_countsRetired h⟩

end Sys2Proof.Proofs
end

section
/-! PROOFS. Fields of instruction bits (30_encoding.md R154-R156): putting fields in their places over fixed bits and reading
them back, for any layout whose mask and fields tile the bits. -/

namespace Sys2Proof

/-! ### One field -/

/-- The bits that a field of a position and a width occupies. -/
def fieldMask (f : Nat × Nat) : InstBits := put (BitVec.allOnes f.2) f.1

theorem getLsbD_put {n : Nat} (v : BitVec n) (p i : Nat) :
    (put v p).getLsbD i = (decide (i < 32) && decide (p ≤ i) && v.getLsbD (i - p)) := by
  unfold put
  rw [BitVec.getLsbD_shiftLeft, BitVec.getLsbD_setWidth]
  by_cases hi : i < 32 <;> by_cases hp : p ≤ i <;> simp [hi, hp, Nat.not_lt.mpr, Nat.not_le.mp]
  exact fun h => by omega

theorem getLsbD_fieldMask (p n i : Nat) :
    (fieldMask (p, n)).getLsbD i = decide (i < 32 ∧ p ≤ i ∧ i < p + n) := by
  rw [fieldMask, getLsbD_put, BitVec.getLsbD_allOnes, ← Bool.decide_and, ← Bool.decide_and]
  exact decide_eq_decide.mpr (by omega)

theorem put_and_fieldMask {n : Nat} (v : BitVec n) (p : Nat) : put v p &&& fieldMask (p, n) = put v p := by
  apply BitVec.eq_of_getLsbD_eq
  intro i hi
  rw [BitVec.getLsbD_and, getLsbD_fieldMask, getLsbD_put]
  by_cases h : v.getLsbD (i - p) = true
  · have := BitVec.lt_of_getLsbD h
    by_cases hp : p ≤ i <;> simp [hi, hp, h]
    omega
  · simp [h]

/-- Putting back a field read from a word gives the word's bits of that field. -/
theorem put_extractLsb' (w : InstBits) (p n : Nat) : put (w.extractLsb' p n) p = w &&& fieldMask (p, n) := by
  apply BitVec.eq_of_getLsbD_eq
  intro i hi
  rw [BitVec.getLsbD_and, getLsbD_fieldMask, getLsbD_put, BitVec.getLsbD_extractLsb']
  by_cases hp : p ≤ i
  · rw [show p + (i - p) = i by omega]
    by_cases hn : i < p + n
    · simp [hi, hp, hn, show i - p < n by omega]
    · simp [hn, show ¬(i - p < n) by omega]
  · simp [hp]

theorem extractLsb'_put {n : Nat} (v : BitVec n) {p : Nat} (h : p + n ≤ 32) : (put v p).extractLsb' p n = v := by
  apply BitVec.eq_of_getLsbD_eq
  intro i hi
  rw [BitVec.getLsbD_extractLsb', getLsbD_put]
  simp [hi, show p + i < 32 by omega]

/-- A field outside the bits of a word reads as 0. -/
theorem extractLsb'_of_disjoint {w m : InstBits} {p n : Nat} (hw : w &&& m = w) (hm : m &&& fieldMask (p, n) = 0#32) :
    w.extractLsb' p n = 0#n := by
  apply BitVec.eq_of_getLsbD_eq
  intro i hi
  rw [BitVec.getLsbD_extractLsb', BitVec.getLsbD_zero]
  by_cases hw' : w.getLsbD (p + i) = true
  · have h1 : (w &&& m).getLsbD (p + i) = true := by rw [hw]; exact hw'
    rw [BitVec.getLsbD_and, Bool.and_eq_true] at h1
    have h2 : (m &&& fieldMask (p, n)).getLsbD (p + i) = false := by rw [hm, BitVec.getLsbD_zero]
    have := BitVec.lt_of_getLsbD hw'
    rw [BitVec.getLsbD_and, h1.2, getLsbD_fieldMask] at h2
    simp at h2; omega
  · simp [hw']

theorem or_and_left (a b : InstBits) : (a ||| b) &&& a = a := by
  apply BitVec.eq_of_getLsbD_eq
  intro i _
  simp only [BitVec.getLsbD_and, BitVec.getLsbD_or]
  cases a.getLsbD i <;> simp

theorem or_and_right (a b : InstBits) : (a ||| b) &&& b = b := by
  rw [BitVec.or_comm, or_and_left]

/-! ### A layout of fields -/

/-- The values of the fields of a layout, each a position and a width. -/
def Fields : List (Nat × Nat) → Type
  | [] => Unit
  | f :: fs => BitVec f.2 × Fields fs

/-- The value of a field before those of more fields. -/
def Fields.cons {f : Nat × Nat} {fs : List (Nat × Nat)} (v : BitVec f.2) (x : Fields fs) : Fields (f :: fs) := (v, x)

/-- The fields of a word. -/
def fieldsOf (w : InstBits) : (fs : List (Nat × Nat)) → Fields fs
  | [] => ()
  | f :: fs => (w.extractLsb' f.1 f.2, fieldsOf w fs)

/-- Fields put in their places over the bits of `c`. -/
def assemble (c : InstBits) : (fs : List (Nat × Nat)) → Fields fs → InstBits
  | [], _ => c
  | f :: fs, x => assemble (c ||| put x.1 f.1) fs x.2

/-- The fields of a layout lie beside one another and beside the bits of `m`, and with these fill the bits of `used`. -/
def tiles (used m : InstBits) : List (Nat × Nat) → Bool
  | [] => m == used
  | f :: fs => f.1 + f.2 ≤ 32 && m &&& fieldMask f == 0 && tiles used (m ||| fieldMask f) fs

variable {used m c : InstBits}

theorem tiles_cons {f : Nat × Nat} {fs : List (Nat × Nat)} (h : tiles used m (f :: fs) = true) :
    f.1 + f.2 ≤ 32 ∧ m &&& fieldMask f = 0#32 ∧ tiles used (m ||| fieldMask f) fs = true := by
  simpa [tiles, and_assoc] using h

/-- A field put beside the bits of `m` stays within `m` and the field. -/
theorem or_put_and (hc : c &&& m = c) {n : Nat} (v : BitVec n) (p : Nat) :
    (c ||| put v p) &&& (m ||| fieldMask (p, n)) = c ||| put v p := by
  apply BitVec.eq_of_getLsbD_eq
  intro i _
  have h1 : (c &&& m).getLsbD i = c.getLsbD i := by rw [hc]
  have h2 : (put v p &&& fieldMask (p, n)).getLsbD i = (put v p).getLsbD i := by rw [put_and_fieldMask]
  simp only [BitVec.getLsbD_and, BitVec.getLsbD_or] at *
  revert h1 h2
  generalize c.getLsbD i = a, m.getLsbD i = b, (put v p).getLsbD i = d, (fieldMask (p, n)).getLsbD i = e
  revert a b d e; decide

/-- A field put beside the bits of `m` leaves them. -/
theorem or_put_and_left (hc : c &&& m = c) {n : Nat} (v : BitVec n) {p : Nat} (hm : m &&& fieldMask (p, n) = 0#32) :
    (c ||| put v p) &&& m = c := by
  have : put v p &&& m = 0#32 := by
    rw [← put_and_fieldMask, BitVec.and_assoc, BitVec.and_comm _ m, hm, BitVec.and_zero]
  rw [BitVec.and_or_distrib_right, this, hc, BitVec.or_zero]

/-- The fixed bits and the fields stay in the bits they tile, and the fixed bits are as they were. -/
theorem assemble_and (fs : List (Nat × Nat)) (x : Fields fs) (h : tiles used m fs = true) (hc : c &&& m = c) :
    assemble c fs x &&& used = assemble c fs x ∧ assemble c fs x &&& m = c := by
  induction fs generalizing m c with
  | nil =>
    have : m = used := by simpa [tiles] using h
    subst this; exact ⟨hc, hc⟩
  | cons f fs ih =>
    obtain ⟨-, hd, ht⟩ := tiles_cons h
    obtain ⟨h1, h2⟩ := ih x.2 ht (or_put_and hc x.1 f.1)
    refine ⟨h1, ?_⟩
    calc assemble c (f :: fs) x &&& m
        = assemble (c ||| put x.1 f.1) fs x.2 &&& ((m ||| fieldMask f) &&& m) := by rw [or_and_left]; rfl
      _ = c := by rw [← BitVec.and_assoc, h2]; exact or_put_and_left hc x.1 hd

/-- What is put in later fields leaves a field of the bits before them. -/
theorem assemble_extractLsb' (fs : List (Nat × Nat)) (x : Fields fs) (h : tiles used m fs = true) (hc : c &&& m = c)
    {p n : Nat} (hp : m &&& fieldMask (p, n) = fieldMask (p, n)) :
    (assemble c fs x).extractLsb' p n = c.extractLsb' p n := by
  have key : ∀ w : InstBits, (w &&& fieldMask (p, n)).extractLsb' p n = w.extractLsb' p n := by
    intro w
    apply BitVec.eq_of_getLsbD_eq
    intro i hi
    simp only [BitVec.getLsbD_extractLsb', BitVec.getLsbD_and, getLsbD_fieldMask]
    by_cases h32 : p + i < 32
    · simp [h32, hi]
    · simp [BitVec.getLsbD_of_ge _ _ (Nat.not_lt.mp h32)]
  rw [← key (assemble c fs x), ← key c, ← hp, ← BitVec.and_assoc, ← BitVec.and_assoc, (assemble_and fs x h hc).2, hc]

/-- The fields of an assembled word are those it was assembled from. -/
theorem fieldsOf_assemble (fs : List (Nat × Nat)) (x : Fields fs) (h : tiles used m fs = true) (hc : c &&& m = c) :
    fieldsOf (assemble c fs x) fs = x := by
  induction fs generalizing m c with
  | nil => rfl
  | cons f fs ih =>
    obtain ⟨v, x⟩ := x
    obtain ⟨hf, hd, ht⟩ := tiles_cons h
    have hc' := or_put_and hc v f.1
    refine Prod.ext ?_ (ih x ht hc')
    refine (assemble_extractLsb' fs x ht hc' (or_and_right m _)).trans ?_
    rw [BitVec.extractLsb'_or, extractLsb'_of_disjoint hc hd, extractLsb'_put v hf, BitVec.zero_or]

/-- A word is assembled from its fields over its fixed bits. -/
theorem assemble_fieldsOf (w : InstBits) (fs : List (Nat × Nat)) (h : tiles used m fs = true) (hw : w &&& used = w)
    (hc : w &&& m = c) : assemble c fs (fieldsOf w fs) = w := by
  induction fs generalizing m c with
  | nil =>
    have : m = used := by simpa [tiles] using h
    subst this; exact hc.symm.trans hw
  | cons f fs ih =>
    refine ih (tiles_cons h).2.2 ?_
    rw [BitVec.and_or_distrib_left, hc]
    congr 1
    exact (put_extractLsb' w f.1 f.2).symm

/-! ### An immediate in parts

The parts of an immediate, from the highest to the lowest, stand in fields of their own. -/

/-- The width of bits of width `n` followed by fields. -/
def widthFrom (n : Nat) : List (Nat × Nat) → Nat
  | [] => n
  | f :: fs => widthFrom (n + f.2) fs

/-- Bits followed by the values of fields. -/
def joinFrom {n : Nat} (v : BitVec n) : (fs : List (Nat × Nat)) → Fields fs → BitVec (widthFrom n fs)
  | [], _ => v
  | _ :: fs, x => joinFrom (v ++ x.1) fs x.2

/-- The number of bits of fields. -/
def bitsOf : List (Nat × Nat) → Nat
  | [] => 0
  | f :: fs => bitsOf fs + f.2

/-- The parts of an immediate that ends in fields. -/
def partsOf {n : Nat} (v : BitVec n) : (fs : List (Nat × Nat)) → Fields fs
  | [] => ()
  | f :: fs => (v.extractLsb' (bitsOf fs) f.2, partsOf v fs)

theorem exists_append {a b : Nat} (v : BitVec (a + b)) : ∃ (hi : BitVec a) (lo : BitVec b), v = hi ++ lo := by
  refine ⟨v.extractLsb' b a, v.extractLsb' 0 b, BitVec.eq_of_getLsbD_eq fun i hi => ?_⟩
  rw [BitVec.getLsbD_append]
  by_cases h : i < b
  · simp [h]
  · simp [h, show b + (i - b) = i by omega, show i - b < a by omega]

theorem exists_joinFrom {n : Nat} (fs : List (Nat × Nat)) (v : BitVec (widthFrom n fs)) :
    ∃ (a : BitVec n) (x : Fields fs), v = joinFrom a fs x := by
  induction fs generalizing n with
  | nil => exact ⟨v, (), rfl⟩
  | cons f fs ih =>
    obtain ⟨b, x, rfl⟩ := ih v
    obtain ⟨hi, lo, rfl⟩ := exists_append b
    exact ⟨hi, (lo, x), rfl⟩

theorem extractLsb'_append_low {a b : Nat} (hi : BitVec a) (lo : BitVec b) : (hi ++ lo).extractLsb' 0 b = lo := by
  refine BitVec.eq_of_getLsbD_eq fun i hi' => ?_
  simp [BitVec.getLsbD_append, hi']

theorem extractLsb'_append_high {a b : Nat} (hi : BitVec a) (lo : BitVec b) : (hi ++ lo).extractLsb' b a = hi := by
  refine BitVec.eq_of_getLsbD_eq fun i hi' => ?_
  simp [BitVec.getLsbD_append, hi']

theorem extractLsb'_extractLsb' {n : Nat} (v : BitVec n) (s t p m : Nat) (h : p + m ≤ t) :
    (v.extractLsb' s t).extractLsb' p m = v.extractLsb' (s + p) m := by
  refine BitVec.eq_of_getLsbD_eq fun i hi => ?_
  simp [hi, show p + i < t by omega, Nat.add_assoc]

/-- The parts of joined bits are those that were joined. -/
theorem partsOf_joinFrom {n : Nat} (v : BitVec n) (fs : List (Nat × Nat)) (x : Fields fs) :
    (joinFrom v fs x).extractLsb' (bitsOf fs) n = v ∧ partsOf (joinFrom v fs x) fs = x := by
  induction fs generalizing n with
  | nil => exact ⟨by simp [bitsOf, joinFrom, widthFrom], rfl⟩
  | cons f fs ih =>
    obtain ⟨y, x⟩ := x
    obtain ⟨h1, h2⟩ := ih (v ++ y) x
    refine ⟨?_, Prod.ext ?_ h2⟩
    · have := extractLsb'_extractLsb' (joinFrom (v ++ y) fs x) (bitsOf fs) (n + f.2) f.2 n (by omega)
      rw [h1, extractLsb'_append_high] at this
      exact this.symm
    · have := extractLsb'_extractLsb' (joinFrom (v ++ y) fs x) (bitsOf fs) (n + f.2) 0 f.2 (by omega)
      rw [h1, extractLsb'_append_low] at this
      exact this.symm

/-! ### Fields followed by fields -/

/-- The values of fields followed by those of more fields. -/
def Fields.append : {fs gs : List (Nat × Nat)} → Fields fs → Fields gs → Fields (fs ++ gs)
  | [], _, _, y => y
  | _ :: _, _, x, y => (x.1, Fields.append x.2 y)

theorem Fields.append_inj : {fs gs : List (Nat × Nat)} → {x x' : Fields fs} → {y y' : Fields gs} →
    x.append y = x'.append y' → x = x' ∧ y = y'
  | [], _, _, _, _, _, h => ⟨rfl, h⟩
  | _ :: _, _, (_, _), (_, _), _, _, h => by
    obtain ⟨h1, h2⟩ := Prod.mk.inj h
    obtain ⟨h3, h4⟩ := Fields.append_inj h2
    exact ⟨Prod.ext h1 h3, h4⟩

theorem fieldsOf_append (w : InstBits) (fs gs : List (Nat × Nat)) :
    fieldsOf w (fs ++ gs) = (fieldsOf w fs).append (fieldsOf w gs) := by
  induction fs with
  | nil => rfl
  | cons f fs ih => exact Prod.ext rfl ih

theorem assemble_append (c : InstBits) (fs gs : List (Nat × Nat)) (x : Fields fs) (y : Fields gs) :
    assemble c (fs ++ gs) (x.append y) = assemble (assemble c fs x) gs y := by
  induction fs generalizing c with
  | nil => rfl
  | cons f fs ih => exact ih _ x.2

end Sys2Proof
end

section
/-! PROOFS. Every row of the opcode table and the encoder agree, in both directions (30_encoding.md R174, R208): a word that a
row matches is the encoding of the instruction it builds, and the encoding of an instruction is matched by its row,
which builds the instruction again. -/

namespace Sys2Proof

/-! ### What it is for a row to agree with the encoder -/

/-- The row matches the encoding of the instruction, and builds the instruction from it. -/
structure Row.Covers (used : InstBits) (r : Row) (i : Instr) : Prop where
  hits : r.hits (encode i) = true
  build : r.build (encode i) = i
  within : encode i &&& used = encode i

/-- The row agrees with the encoder on the words within `used`, and on the instructions of its constructor, which are of
`len` bytes. -/
structure Row.Faithful (used : InstBits) (len : Nat) (r : Row) : Prop where
  len : ∀ w, (r.build w).len = len
  reencode : ∀ w, w &&& used = w → r.hits w = true → encode (r.build w) = w
  covers : ∀ i : Instr, i.ctorIdx = (r.build 0).ctorIdx → r.Covers used i

/-- The mask and the fields of a row fill the bits of `used`, and the value lies within the mask. -/
def layoutOk (used : InstBits) (mask val : Nat) (fs : List (Nat × Nat)) : Bool :=
  tiles used (BitVec.ofNat 32 mask) fs && val &&& mask == val && decide (mask < 2 ^ 32)

section
variable {used : InstBits} {len mask val : Nat}

theorem hits_iff {build : InstBits → Instr} (hv : val &&& mask = val) (hm : mask < 2 ^ 32) (w : InstBits) :
    (⟨mask, val, build⟩ : Row).hits w = true ↔ w &&& BitVec.ofNat 32 mask = BitVec.ofNat 32 val := by
  have hv' : val < 2 ^ 32 := lt_of_le_of_lt (hv ▸ Nat.and_le_right) hm
  rw [Row.hits, beq_iff_eq, ← BitVec.toNat_inj, BitVec.toNat_and, BitVec.toNat_ofNat, BitVec.toNat_ofNat,
    Nat.mod_eq_of_lt hm, Nat.mod_eq_of_lt hv']

theorem layoutOk_iff {fs : List (Nat × Nat)} : layoutOk used mask val fs = true ↔
    tiles used (BitVec.ofNat 32 mask) fs = true ∧ val &&& mask = val ∧ mask < 2 ^ 32 := by
  simp [layoutOk, and_assoc]

/-- The fixed bits of a row lie within its mask. -/
theorem ofNat_and_mask (hv : val &&& mask = val) (hm : mask < 2 ^ 32) :
    BitVec.ofNat 32 val &&& BitVec.ofNat 32 mask = BitVec.ofNat 32 val :=
  (hits_iff (build := fun _ => .pause) hv hm _).mp (by
    have hv' : val < 2 ^ 32 := lt_of_le_of_lt (hv ▸ Nat.and_le_right) hm
    rw [Row.hits, BitVec.toNat_ofNat, Nat.mod_eq_of_lt hv', beq_iff_eq]; exact hv)

/-- A row whose instruction is made of the fields of its layout, where the encoder puts them. -/
theorem Row.faithful_of_fields {k : Nat} (fs : List (Nat × Nat)) (mk : Fields fs → Instr)
    (onto : ∀ i : Instr, i.ctorIdx = k → ∃ x, i = mk x) (hk : ∀ x, (mk x).ctorIdx = k)
    (hl : ∀ x, (mk x).len = len)
    (henc : ∀ x, encode (mk x) = assemble (BitVec.ofNat 32 val) fs x) (h : layoutOk used mask val fs = true) :
    Row.Faithful used len ⟨mask, val, fun w => mk (fieldsOf w fs)⟩ := by
  obtain ⟨ht, hv, hm⟩ := layoutOk_iff.mp h
  refine ⟨fun _ => hl _, fun w hw hh => ?_, fun i hi => ?_⟩
  · exact (henc _).trans (assemble_fieldsOf w fs ht hw ((hits_iff hv hm w).mp hh))
  · obtain ⟨x, rfl⟩ := onto i (hi.trans (hk _))
    obtain ⟨hused, hmask⟩ := assemble_and fs x ht (ofNat_and_mask hv hm)
    have hx := fieldsOf_assemble fs x ht (ofNat_and_mask hv hm)
    rw [← henc x] at hused hmask hx
    exact ⟨(hits_iff hv hm _).mpr hmask, congrArg mk hx, hused⟩

/-- A row whose instruction is made of fields and of an immediate in parts, the highest in the field `g`. -/
theorem Row.faithful_of_parts {k : Nat} (fs : List (Nat × Nat)) (g : Nat × Nat) (gs : List (Nat × Nat))
    (mk : Fields fs → BitVec (widthFrom g.2 gs) → Instr)
    (onto : ∀ i : Instr, i.ctorIdx = k → ∃ x v, i = mk x v) (hk : ∀ x v, (mk x v).ctorIdx = k)
    (hl : ∀ x v, (mk x v).len = len)
    (henc : ∀ x v, encode (mk x v) = assemble (assemble (BitVec.ofNat 32 val) fs x) (g :: gs) (partsOf v (g :: gs)))
    (h : layoutOk used mask val (fs ++ g :: gs) = true) :
    Row.Faithful used len
      ⟨mask, val, fun w => mk (fieldsOf w fs) (joinFrom (w.extractLsb' g.1 g.2) gs (fieldsOf w gs))⟩ := by
  obtain ⟨ht, hv, hm⟩ := layoutOk_iff.mp h
  have parts : ∀ (a : BitVec g.2) (y : Fields gs), partsOf (joinFrom a gs y) (g :: gs) = Fields.cons a y := fun a y =>
    Prod.ext (partsOf_joinFrom a gs y).1 (partsOf_joinFrom a gs y).2
  have henc' : ∀ x a y, encode (mk x (joinFrom a gs y)) =
      assemble (BitVec.ofNat 32 val) (fs ++ g :: gs) (x.append (Fields.cons a y)) := fun x a y => by
    rw [henc, parts, assemble_append]
  refine ⟨fun _ => hl _ _, fun w hw hh => ?_, fun i hi => ?_⟩
  · rw [henc']
    have := assemble_fieldsOf w _ ht hw ((hits_iff hv hm w).mp hh)
    rwa [fieldsOf_append] at this
  · obtain ⟨x, v, rfl⟩ := onto i (hi.trans (hk _ _))
    obtain ⟨a, y, rfl⟩ := exists_joinFrom gs v
    obtain ⟨hused, hmask⟩ := assemble_and _ (x.append (Fields.cons a y)) ht (ofNat_and_mask hv hm)
    have hx := fieldsOf_assemble _ (x.append (Fields.cons a y)) ht (ofNat_and_mask hv hm)
    rw [← henc'] at hused hmask hx
    rw [fieldsOf_append] at hx
    obtain ⟨h1, h2⟩ := Fields.append_inj hx
    obtain ⟨h3, h4⟩ := Prod.mk.inj h2
    refine ⟨(hits_iff hv hm _).mpr hmask, ?_, hused⟩
    show mk (fieldsOf _ fs) (joinFrom (BitVec.extractLsb' _ _ _) gs (fieldsOf _ gs)) = _
    rw [h1, h3, h4]

/-! ### By the number of fields

`elim` is the eliminator of the row's constructor. -/

theorem Row.faithful_fixed {k : Nat} {i : Instr}
    (elim : ∀ {P : Instr → Prop} (t : Instr), t.ctorIdx = k → P i → P t)
    (hk : i.ctorIdx = k := by rfl) (hl : i.len = len := by rfl) (henc : encode i = BitVec.ofNat 32 val := by rfl)
    (h : layoutOk used mask val [] = true := by decide) : Row.Faithful used len ⟨mask, val, fun _ => i⟩ :=
  faithful_of_fields [] (fun _ => i) (fun t ht => elim (P := fun t => ∃ _, t = i) t ht ⟨(), rfl⟩) (fun _ => hk) (fun _ => hl) (fun _ => henc) h

theorem Row.faithful_one {k p n : Nat} {mk : BitVec n → Instr}
    (elim : ∀ {P : Instr → Prop} (t : Instr), t.ctorIdx = k → (∀ a, P (mk a)) → P t)
    (hk : ∀ a, (mk a).ctorIdx = k := by exact fun _ => rfl) (hl : ∀ a, (mk a).len = len := by exact fun _ => rfl)
    (henc : ∀ a, encode (mk a) = BitVec.ofNat 32 val ||| put a p := by exact fun _ => rfl)
    (h : layoutOk used mask val [(p, n)] = true := by decide) :
    Row.Faithful used len ⟨mask, val, fun w => mk (w.extractLsb' p n)⟩ :=
  faithful_of_fields [(p, n)] (fun x => mk x.1) (fun t ht => elim (P := fun t => ∃ x : Fields [(p, n)], t = mk x.1) t ht fun a => ⟨(a, ()), rfl⟩) (fun _ => hk _) (fun _ => hl _)
    (fun _ => henc _) h

theorem Row.faithful_two {k p₁ n₁ p₂ n₂ : Nat} {mk : BitVec n₁ → BitVec n₂ → Instr}
    (elim : ∀ {P : Instr → Prop} (t : Instr), t.ctorIdx = k → (∀ a b, P (mk a b)) → P t)
    (hk : ∀ a b, (mk a b).ctorIdx = k := by exact fun _ _ => rfl) (hl : ∀ a b, (mk a b).len = len := by exact fun _ _ => rfl)
    (henc : ∀ a b, encode (mk a b) = BitVec.ofNat 32 val ||| put a p₁ ||| put b p₂ := by exact fun _ _ => rfl)
    (h : layoutOk used mask val [(p₁, n₁), (p₂, n₂)] = true := by decide) :
    Row.Faithful used len ⟨mask, val, fun w => mk (w.extractLsb' p₁ n₁) (w.extractLsb' p₂ n₂)⟩ :=
  faithful_of_fields [(p₁, n₁), (p₂, n₂)] (fun x => mk x.1 x.2.1) (fun t ht => elim (P := fun t => ∃ x : Fields [(p₁, n₁), (p₂, n₂)], t = mk x.1 x.2.1) t ht fun a b => ⟨(a, b, ()), rfl⟩)
    (fun _ => hk _ _) (fun _ => hl _ _) (fun _ => henc _ _) h

theorem Row.faithful_three {k p₁ n₁ p₂ n₂ p₃ n₃ : Nat} {mk : BitVec n₁ → BitVec n₂ → BitVec n₃ → Instr}
    (elim : ∀ {P : Instr → Prop} (t : Instr), t.ctorIdx = k → (∀ a b c, P (mk a b c)) → P t)
    (hk : ∀ a b c, (mk a b c).ctorIdx = k := by exact fun _ _ _ => rfl) (hl : ∀ a b c, (mk a b c).len = len := by exact fun _ _ _ => rfl)
    (henc : ∀ a b c, encode (mk a b c) = BitVec.ofNat 32 val ||| put a p₁ ||| put b p₂ ||| put c p₃ := by
      exact fun _ _ _ => rfl)
    (h : layoutOk used mask val [(p₁, n₁), (p₂, n₂), (p₃, n₃)] = true := by decide) :
    Row.Faithful used len ⟨mask, val, fun w => mk (w.extractLsb' p₁ n₁) (w.extractLsb' p₂ n₂) (w.extractLsb' p₃ n₃)⟩ :=
  faithful_of_fields [(p₁, n₁), (p₂, n₂), (p₃, n₃)] (fun x => mk x.1 x.2.1 x.2.2.1)
    (fun t ht => elim (P := fun t => ∃ x : Fields [(p₁, n₁), (p₂, n₂), (p₃, n₃)], t = mk x.1 x.2.1 x.2.2.1) t ht fun a b c => ⟨(a, b, c, ()), rfl⟩) (fun _ => hk _ _ _) (fun _ => hl _ _ _) (fun _ => henc _ _ _) h

theorem Row.faithful_four {k p₁ n₁ p₂ n₂ p₃ n₃ p₄ n₄ : Nat}
    {mk : BitVec n₁ → BitVec n₂ → BitVec n₃ → BitVec n₄ → Instr}
    (elim : ∀ {P : Instr → Prop} (t : Instr), t.ctorIdx = k → (∀ a b c d, P (mk a b c d)) → P t)
    (hk : ∀ a b c d, (mk a b c d).ctorIdx = k := by exact fun _ _ _ _ => rfl) (hl : ∀ a b c d, (mk a b c d).len = len := by exact fun _ _ _ _ => rfl)
    (henc : ∀ a b c d, encode (mk a b c d) =
      BitVec.ofNat 32 val ||| put a p₁ ||| put b p₂ ||| put c p₃ ||| put d p₄ := by exact fun _ _ _ _ => rfl)
    (h : layoutOk used mask val [(p₁, n₁), (p₂, n₂), (p₃, n₃), (p₄, n₄)] = true := by decide) :
    Row.Faithful used len ⟨mask, val, fun w =>
      mk (w.extractLsb' p₁ n₁) (w.extractLsb' p₂ n₂) (w.extractLsb' p₃ n₃) (w.extractLsb' p₄ n₄)⟩ :=
  faithful_of_fields [(p₁, n₁), (p₂, n₂), (p₃, n₃), (p₄, n₄)] (fun x => mk x.1 x.2.1 x.2.2.1 x.2.2.2.1)
    (fun t ht => elim (P := fun t => ∃ x : Fields [(p₁, n₁), (p₂, n₂), (p₃, n₃), (p₄, n₄)], t = mk x.1 x.2.1 x.2.2.1 x.2.2.2.1) t ht fun a b c d => ⟨(a, b, c, d, ()), rfl⟩) (fun _ => hk _ _ _ _) (fun _ => hl _ _ _ _) (fun _ => henc _ _ _ _) h

theorem Row.faithful_five {k p₁ n₁ p₂ n₂ p₃ n₃ p₄ n₄ p₅ n₅ : Nat}
    {mk : BitVec n₁ → BitVec n₂ → BitVec n₃ → BitVec n₄ → BitVec n₅ → Instr}
    (elim : ∀ {P : Instr → Prop} (t : Instr), t.ctorIdx = k → (∀ a b c d e, P (mk a b c d e)) → P t)
    (hk : ∀ a b c d e, (mk a b c d e).ctorIdx = k := by exact fun _ _ _ _ _ => rfl) (hl : ∀ a b c d e, (mk a b c d e).len = len := by exact fun _ _ _ _ _ => rfl)
    (henc : ∀ a b c d e, encode (mk a b c d e) =
      BitVec.ofNat 32 val ||| put a p₁ ||| put b p₂ ||| put c p₃ ||| put d p₄ ||| put e p₅ := by
      exact fun _ _ _ _ _ => rfl)
    (h : layoutOk used mask val [(p₁, n₁), (p₂, n₂), (p₃, n₃), (p₄, n₄), (p₅, n₅)] = true := by decide) :
    Row.Faithful used len ⟨mask, val, fun w => mk (w.extractLsb' p₁ n₁) (w.extractLsb' p₂ n₂) (w.extractLsb' p₃ n₃)
      (w.extractLsb' p₄ n₄) (w.extractLsb' p₅ n₅)⟩ :=
  faithful_of_fields [(p₁, n₁), (p₂, n₂), (p₃, n₃), (p₄, n₄), (p₅, n₅)]
    (fun x => mk x.1 x.2.1 x.2.2.1 x.2.2.2.1 x.2.2.2.2.1)
    (fun t ht => elim (P := fun t => ∃ x : Fields [(p₁, n₁), (p₂, n₂), (p₃, n₃), (p₄, n₄), (p₅, n₅)], t = mk x.1 x.2.1 x.2.2.1 x.2.2.2.1 x.2.2.2.2.1) t ht fun a b c d e => ⟨(a, b, c, d, e, ()), rfl⟩) (fun _ => hk _ _ _ _ _) (fun _ => hl _ _ _ _ _)
    (fun _ => henc _ _ _ _ _) h

/-! ### With an immediate in parts, after no, one or two fields -/

theorem Row.faithful_parts {k : Nat} (g : Nat × Nat) (gs : List (Nat × Nat)) {mk : BitVec (widthFrom g.2 gs) → Instr}
    (elim : ∀ {P : Instr → Prop} (t : Instr), t.ctorIdx = k → (∀ v, P (mk v)) → P t)
    (hk : ∀ v, (mk v).ctorIdx = k := by exact fun _ => rfl) (hl : ∀ v, (mk v).len = len := by exact fun _ => rfl)
    (henc : ∀ v, encode (mk v) = assemble (BitVec.ofNat 32 val) (g :: gs) (partsOf v (g :: gs)) := by
      exact fun _ => rfl)
    (h : layoutOk used mask val (g :: gs) = true := by decide) :
    Row.Faithful used len ⟨mask, val, fun w => mk (joinFrom (w.extractLsb' g.1 g.2) gs (fieldsOf w gs))⟩ :=
  faithful_of_parts [] g gs (fun _ v => mk v) (fun t ht => elim (P := fun t => ∃ (_ : Fields []) (v : _), t = mk v) t ht fun v => ⟨(), v, rfl⟩) (fun _ _ => hk _) (fun _ _ => hl _)
    (fun _ _ => henc _) h

theorem Row.faithful_one_parts {k p n : Nat} (g : Nat × Nat) (gs : List (Nat × Nat))
    {mk : BitVec n → BitVec (widthFrom g.2 gs) → Instr}
    (elim : ∀ {P : Instr → Prop} (t : Instr), t.ctorIdx = k → (∀ a v, P (mk a v)) → P t)
    (hk : ∀ a v, (mk a v).ctorIdx = k := by exact fun _ _ => rfl) (hl : ∀ a v, (mk a v).len = len := by exact fun _ _ => rfl)
    (henc : ∀ a v, encode (mk a v) = assemble (BitVec.ofNat 32 val ||| put a p) (g :: gs) (partsOf v (g :: gs)) := by
      exact fun _ _ => rfl)
    (h : layoutOk used mask val ((p, n) :: g :: gs) = true := by decide) :
    Row.Faithful used len
      ⟨mask, val, fun w => mk (w.extractLsb' p n) (joinFrom (w.extractLsb' g.1 g.2) gs (fieldsOf w gs))⟩ :=
  faithful_of_parts [(p, n)] g gs (fun x v => mk x.1 v) (fun t ht => elim (P := fun t => ∃ (x : Fields [(p, n)]) (v : _), t = mk x.1 v) t ht fun a v => ⟨(a, ()), v, rfl⟩)
    (fun _ _ => hk _ _) (fun _ _ => hl _ _) (fun _ _ => henc _ _) h

theorem Row.faithful_two_parts {k p₁ n₁ p₂ n₂ : Nat} (g : Nat × Nat) (gs : List (Nat × Nat))
    {mk : BitVec n₁ → BitVec n₂ → BitVec (widthFrom g.2 gs) → Instr}
    (elim : ∀ {P : Instr → Prop} (t : Instr), t.ctorIdx = k → (∀ a b v, P (mk a b v)) → P t)
    (hk : ∀ a b v, (mk a b v).ctorIdx = k := by exact fun _ _ _ => rfl) (hl : ∀ a b v, (mk a b v).len = len := by exact fun _ _ _ => rfl)
    (henc : ∀ a b v, encode (mk a b v) =
      assemble (BitVec.ofNat 32 val ||| put a p₁ ||| put b p₂) (g :: gs) (partsOf v (g :: gs)) := by
      exact fun _ _ _ => rfl)
    (h : layoutOk used mask val ((p₁, n₁) :: (p₂, n₂) :: g :: gs) = true := by decide) :
    Row.Faithful used len ⟨mask, val, fun w => mk (w.extractLsb' p₁ n₁) (w.extractLsb' p₂ n₂)
      (joinFrom (w.extractLsb' g.1 g.2) gs (fieldsOf w gs))⟩ :=
  faithful_of_parts [(p₁, n₁), (p₂, n₂)] g gs (fun x v => mk x.1 x.2.1 v)
    (fun t ht => elim (P := fun t => ∃ (x : Fields [(p₁, n₁), (p₂, n₂)]) (v : _), t = mk x.1 x.2.1 v) t ht fun a b v => ⟨(a, b, ()), v, rfl⟩) (fun _ _ => hk _ _ _) (fun _ _ => hl _ _ _) (fun _ _ => henc _ _ _) h

end

end Sys2Proof
end

section
/-! PROOFS. The opcode table, row by row: each row agrees with the encoder, by the lemma of its layout. -/

namespace Sys2Proof

open Row

theorem rows32part0_faithful : rows32part0.Forall (Row.Faithful 0xFFFFFFFF 4) :=
  ⟨faithful_fixed Instr.pause.elim, faithful_fixed Instr.ecall.elim, faithful_fixed Instr.ebreak.elim,
    faithful_fixed Instr.ntlP1.elim, faithful_fixed Instr.ntlPall.elim, faithful_fixed Instr.ntlS1.elim,
    faithful_fixed Instr.ntlAll.elim, faithful_fixed Instr.wrsNto.elim, faithful_fixed Instr.wrsSto.elim,
    faithful_one Instr.cboInval.elim, faithful_one Instr.cboClean.elim, faithful_one Instr.cboFlush.elim,
    faithful_one Instr.cboZero.elim, faithful_two Instr.fenceTso.elim, faithful_two Instr.fclassS.elim,
    faithful_two Instr.fclassD.elim, faithful_two Instr.fclassQ.elim, faithful_two Instr.fclassH.elim,
    faithful_two Instr.fmvXW.elim, faithful_two Instr.fmvWX.elim, faithful_two Instr.fmvXD.elim,
    faithful_two Instr.fmvDX.elim, faithful_two Instr.fmvXH.elim, faithful_two Instr.fmvHX.elim,
    faithful_two Instr.fliS.elim, faithful_two Instr.fliD.elim, faithful_two Instr.fliH.elim,
    faithful_two Instr.fliQ.elim, faithful_two Instr.fcvtmodWD.elim, faithful_two Instr.fmvhXD.elim,
    faithful_two Instr.fmvhXQ.elim, faithful_two Instr.mopR0.elim, faithful_two Instr.mopR1.elim,
    faithful_two Instr.mopR2.elim, faithful_two Instr.mopR3.elim, faithful_two Instr.mopR4.elim,
    faithful_two Instr.mopR5.elim, faithful_two Instr.mopR6.elim, faithful_two Instr.mopR7.elim,
    faithful_two Instr.mopR8.elim, faithful_two Instr.mopR9.elim, faithful_two Instr.mopR10.elim,
    faithful_two Instr.mopR11.elim, faithful_two Instr.mopR12.elim, faithful_two Instr.mopR13.elim,
    faithful_two Instr.mopR14.elim, faithful_two Instr.mopR15.elim, faithful_two Instr.mopR16.elim,
    faithful_two Instr.mopR17.elim, faithful_two Instr.mopR18.elim, faithful_two Instr.mopR19.elim,
    faithful_two Instr.mopR20.elim, faithful_two Instr.mopR21.elim, faithful_two Instr.mopR22.elim,
    faithful_two Instr.mopR23.elim, faithful_two Instr.mopR24.elim, faithful_two Instr.mopR25.elim,
    faithful_two Instr.mopR26.elim, faithful_two Instr.mopR27.elim, faithful_two Instr.mopR28.elim⟩

theorem rows32part1_faithful : rows32part1.Forall (Row.Faithful 0xFFFFFFFF 4) :=
  ⟨faithful_two Instr.mopR29.elim, faithful_two Instr.mopR30.elim, faithful_two Instr.mopR31.elim,
    faithful_four Instr.lrW.elim, faithful_four Instr.lrD.elim, faithful_two Instr.prefetchI.elim,
    faithful_two Instr.prefetchR.elim, faithful_two Instr.prefetchW.elim, faithful_three Instr.fsqrtS.elim,
    faithful_three Instr.fcvtWS.elim, faithful_three Instr.fcvtSW.elim, faithful_three Instr.fcvtWuS.elim,
    faithful_three Instr.fcvtSWu.elim, faithful_three Instr.fcvtLS.elim, faithful_three Instr.fcvtSL.elim,
    faithful_three Instr.fcvtLuS.elim, faithful_three Instr.fcvtSLu.elim, faithful_three Instr.fsqrtD.elim,
    faithful_three Instr.fcvtWD.elim, faithful_three Instr.fcvtDW.elim, faithful_three Instr.fcvtWuD.elim,
    faithful_three Instr.fcvtDWu.elim, faithful_three Instr.fcvtLD.elim, faithful_three Instr.fcvtDL.elim,
    faithful_three Instr.fcvtLuD.elim, faithful_three Instr.fcvtDLu.elim, faithful_three Instr.fsqrtQ.elim,
    faithful_three Instr.fcvtWQ.elim, faithful_three Instr.fcvtQW.elim, faithful_three Instr.fcvtWuQ.elim,
    faithful_three Instr.fcvtQWu.elim, faithful_three Instr.fcvtLQ.elim, faithful_three Instr.fcvtQL.elim,
    faithful_three Instr.fcvtLuQ.elim, faithful_three Instr.fcvtQLu.elim, faithful_three Instr.fsqrtH.elim,
    faithful_three Instr.fcvtWH.elim, faithful_three Instr.fcvtHW.elim, faithful_three Instr.fcvtWuH.elim,
    faithful_three Instr.fcvtHWu.elim, faithful_three Instr.fcvtLH.elim, faithful_three Instr.fcvtHL.elim,
    faithful_three Instr.fcvtLuH.elim, faithful_three Instr.fcvtHLu.elim, faithful_three Instr.fcvtSD.elim,
    faithful_three Instr.fcvtDS.elim, faithful_three Instr.fcvtSQ.elim, faithful_three Instr.fcvtQS.elim,
    faithful_three Instr.fcvtDQ.elim, faithful_three Instr.fcvtQD.elim, faithful_three Instr.fcvtSH.elim,
    faithful_three Instr.fcvtHS.elim, faithful_three Instr.fcvtDH.elim, faithful_three Instr.fcvtHD.elim,
    faithful_three Instr.fcvtQH.elim, faithful_three Instr.fcvtHQ.elim, faithful_three Instr.froundS.elim,
    faithful_three Instr.froundnxS.elim, faithful_three Instr.froundD.elim, faithful_three Instr.froundnxD.elim⟩

theorem rows32part2_faithful : rows32part2.Forall (Row.Faithful 0xFFFFFFFF 4) :=
  ⟨faithful_three Instr.froundH.elim, faithful_three Instr.froundnxH.elim, faithful_three Instr.froundQ.elim,
    faithful_three Instr.froundnxQ.elim, faithful_three Instr.slliRv32.elim, faithful_three Instr.srliRv32.elim,
    faithful_three Instr.sraiRv32.elim, faithful_three Instr.add.elim, faithful_three Instr.sub.elim,
    faithful_three Instr.sll.elim, faithful_three Instr.slt.elim, faithful_three Instr.sltu.elim,
    faithful_three Instr.xor.elim, faithful_three Instr.srl.elim, faithful_three Instr.sra.elim,
    faithful_three Instr.or.elim, faithful_three Instr.and.elim, faithful_three Instr.slliw.elim,
    faithful_three Instr.srliw.elim, faithful_three Instr.sraiw.elim, faithful_three Instr.addw.elim,
    faithful_three Instr.subw.elim, faithful_three Instr.sllw.elim, faithful_three Instr.srlw.elim,
    faithful_three Instr.sraw.elim, faithful_three Instr.mul.elim, faithful_three Instr.mulh.elim,
    faithful_three Instr.mulhsu.elim, faithful_three Instr.mulhu.elim, faithful_three Instr.div.elim,
    faithful_three Instr.divu.elim, faithful_three Instr.rem.elim, faithful_three Instr.remu.elim,
    faithful_three Instr.mulw.elim, faithful_three Instr.divw.elim, faithful_three Instr.divuw.elim,
    faithful_three Instr.remw.elim, faithful_three Instr.remuw.elim, faithful_three Instr.fsgnjS.elim,
    faithful_three Instr.fsgnjnS.elim, faithful_three Instr.fsgnjxS.elim, faithful_three Instr.fminS.elim,
    faithful_three Instr.fmaxS.elim, faithful_three Instr.feqS.elim, faithful_three Instr.fltS.elim,
    faithful_three Instr.fleS.elim, faithful_three Instr.fsgnjD.elim, faithful_three Instr.fsgnjnD.elim,
    faithful_three Instr.fsgnjxD.elim, faithful_three Instr.fminD.elim, faithful_three Instr.fmaxD.elim,
    faithful_three Instr.feqD.elim, faithful_three Instr.fltD.elim, faithful_three Instr.fleD.elim,
    faithful_three Instr.fsgnjQ.elim, faithful_three Instr.fsgnjnQ.elim, faithful_three Instr.fsgnjxQ.elim,
    faithful_three Instr.fminQ.elim, faithful_three Instr.fmaxQ.elim, faithful_three Instr.feqQ.elim⟩

theorem rows32part3_faithful : rows32part3.Forall (Row.Faithful 0xFFFFFFFF 4) :=
  ⟨faithful_three Instr.fltQ.elim, faithful_three Instr.fleQ.elim, faithful_three Instr.fsgnjH.elim,
    faithful_three Instr.fsgnjnH.elim, faithful_three Instr.fsgnjxH.elim, faithful_three Instr.fminH.elim,
    faithful_three Instr.fmaxH.elim, faithful_three Instr.feqH.elim, faithful_three Instr.fltH.elim,
    faithful_three Instr.fleH.elim, faithful_three Instr.fminmS.elim, faithful_three Instr.fmaxmS.elim,
    faithful_three Instr.fleqS.elim, faithful_three Instr.fltqS.elim, faithful_three Instr.fminmD.elim,
    faithful_three Instr.fmaxmD.elim, faithful_three Instr.fleqD.elim, faithful_three Instr.fltqD.elim,
    faithful_three Instr.fminmH.elim, faithful_three Instr.fmaxmH.elim, faithful_three Instr.fleqH.elim,
    faithful_three Instr.fltqH.elim, faithful_three Instr.fminmQ.elim, faithful_three Instr.fmaxmQ.elim,
    faithful_three Instr.fleqQ.elim, faithful_three Instr.fltqQ.elim, faithful_three Instr.fmvpDX.elim,
    faithful_three Instr.fmvpQX.elim, faithful_three Instr.mopRr0.elim, faithful_three Instr.mopRr1.elim,
    faithful_three Instr.mopRr2.elim, faithful_three Instr.mopRr3.elim, faithful_three Instr.mopRr4.elim,
    faithful_three Instr.mopRr5.elim, faithful_three Instr.mopRr6.elim, faithful_three Instr.mopRr7.elim,
    faithful_three Instr.slliRv64.elim, faithful_three Instr.srliRv64.elim, faithful_three Instr.sraiRv64.elim,
    faithful_three Instr.slliRv128.elim, faithful_three Instr.srliRv128.elim, faithful_three Instr.sraiRv128.elim,
    faithful_five Instr.scW.elim, faithful_five Instr.scD.elim, faithful_five Instr.amoswapW.elim,
    faithful_five Instr.amoswapD.elim, faithful_five Instr.amoaddW.elim, faithful_five Instr.amoaddD.elim,
    faithful_five Instr.amoxorW.elim, faithful_five Instr.amoxorD.elim, faithful_five Instr.amoandW.elim,
    faithful_five Instr.amoandD.elim, faithful_five Instr.amoorW.elim, faithful_five Instr.amoorD.elim,
    faithful_five Instr.amominW.elim, faithful_five Instr.amominD.elim, faithful_five Instr.amomaxW.elim,
    faithful_five Instr.amomaxD.elim, faithful_five Instr.amominuW.elim, faithful_five Instr.amominuD.elim⟩

theorem rows32part4_faithful : rows32part4.Forall (Row.Faithful 0xFFFFFFFF 4) :=
  ⟨faithful_five Instr.amomaxuW.elim, faithful_five Instr.amomaxuD.elim, faithful_four Instr.faddS.elim,
    faithful_four Instr.fsubS.elim, faithful_four Instr.fmulS.elim, faithful_four Instr.fdivS.elim,
    faithful_four Instr.faddD.elim, faithful_four Instr.fsubD.elim, faithful_four Instr.fmulD.elim,
    faithful_four Instr.fdivD.elim, faithful_four Instr.faddQ.elim, faithful_four Instr.fsubQ.elim,
    faithful_four Instr.fmulQ.elim, faithful_four Instr.fdivQ.elim, faithful_four Instr.faddH.elim,
    faithful_four Instr.fsubH.elim, faithful_four Instr.fmulH.elim, faithful_four Instr.fdivH.elim,
    faithful_three Instr.addi.elim, faithful_three Instr.slti.elim, faithful_three Instr.sltiu.elim,
    faithful_three Instr.xori.elim, faithful_three Instr.ori.elim, faithful_three Instr.andi.elim,
    faithful_three Instr.jalr.elim, faithful_two_parts (31, 1) [(7, 1), (25, 6), (8, 4)] Instr.beq.elim,
    faithful_two_parts (31, 1) [(7, 1), (25, 6), (8, 4)] Instr.bne.elim,
    faithful_two_parts (31, 1) [(7, 1), (25, 6), (8, 4)] Instr.blt.elim,
    faithful_two_parts (31, 1) [(7, 1), (25, 6), (8, 4)] Instr.bge.elim,
    faithful_two_parts (31, 1) [(7, 1), (25, 6), (8, 4)] Instr.bltu.elim,
    faithful_two_parts (31, 1) [(7, 1), (25, 6), (8, 4)] Instr.bgeu.elim, faithful_three Instr.lb.elim,
    faithful_three Instr.lh.elim, faithful_three Instr.lw.elim, faithful_three Instr.lbu.elim,
    faithful_three Instr.lhu.elim, faithful_two_parts (25, 7) [(7, 5)] Instr.sb.elim,
    faithful_two_parts (25, 7) [(7, 5)] Instr.sh.elim, faithful_two_parts (25, 7) [(7, 5)] Instr.sw.elim,
    faithful_five Instr.fence.elim, faithful_three Instr.fenceI.elim, faithful_three Instr.addiw.elim,
    faithful_three Instr.ld.elim, faithful_three Instr.lwu.elim, faithful_two_parts (25, 7) [(7, 5)] Instr.sd.elim,
    faithful_three Instr.csrrw.elim, faithful_three Instr.csrrs.elim, faithful_three Instr.csrrc.elim,
    faithful_three Instr.csrrwi.elim, faithful_three Instr.csrrsi.elim, faithful_three Instr.csrrci.elim,
    faithful_three Instr.flw.elim, faithful_two_parts (25, 7) [(7, 5)] Instr.fsw.elim,
    faithful_three Instr.fld.elim, faithful_two_parts (25, 7) [(7, 5)] Instr.fsd.elim,
    faithful_three Instr.flq.elim, faithful_two_parts (25, 7) [(7, 5)] Instr.fsq.elim,
    faithful_three Instr.flh.elim, faithful_two_parts (25, 7) [(7, 5)] Instr.fsh.elim,
    faithful_five Instr.fmaddS.elim⟩

theorem rows32part5_faithful : rows32part5.Forall (Row.Faithful 0xFFFFFFFF 4) :=
  ⟨faithful_five Instr.fmsubS.elim, faithful_five Instr.fnmsubS.elim, faithful_five Instr.fnmaddS.elim,
    faithful_five Instr.fmaddD.elim, faithful_five Instr.fmsubD.elim, faithful_five Instr.fnmsubD.elim,
    faithful_five Instr.fnmaddD.elim, faithful_five Instr.fmaddQ.elim, faithful_five Instr.fmsubQ.elim,
    faithful_five Instr.fnmsubQ.elim, faithful_five Instr.fnmaddQ.elim, faithful_five Instr.fmaddH.elim,
    faithful_five Instr.fmsubH.elim, faithful_five Instr.fnmsubH.elim, faithful_five Instr.fnmaddH.elim,
    faithful_two Instr.lui.elim, faithful_two Instr.auipc.elim,
    faithful_one_parts (31, 1) [(12, 8), (20, 1), (21, 10)] Instr.jal.elim⟩

theorem rows16part0_faithful : rows16part0.Forall (Row.Faithful 0xFFFF 2) :=
  ⟨faithful_fixed Instr.cNtlP1.elim, faithful_fixed Instr.cNtlPall.elim, faithful_fixed Instr.cNtlS1.elim,
    faithful_fixed Instr.cNtlAll.elim, faithful_fixed Instr.cIllegal.elim, faithful_fixed Instr.cMop1.elim,
    faithful_fixed Instr.cMop3.elim, faithful_fixed Instr.cMop5.elim, faithful_fixed Instr.cMop7.elim,
    faithful_fixed Instr.cMop9.elim, faithful_fixed Instr.cMop11.elim, faithful_fixed Instr.cMop13.elim,
    faithful_fixed Instr.cMop15.elim, faithful_fixed Instr.cEbreak.elim, faithful_one Instr.cZextB.elim,
    faithful_one Instr.cSextB.elim, faithful_one Instr.cZextH.elim, faithful_one Instr.cSextH.elim,
    faithful_one Instr.cZextW.elim, faithful_one Instr.cNot.elim, faithful_one Instr.cJr.elim,
    faithful_one Instr.cJalr.elim, faithful_one Instr.cmJt.elim, faithful_parts (12, 1) [(2, 5)] Instr.cNop.elim,
    faithful_parts (12, 1) [(3, 2), (5, 1), (2, 1), (6, 1)] Instr.cAddi16sp.elim, faithful_two Instr.cSub.elim,
    faithful_two Instr.cXor.elim, faithful_two Instr.cOr.elim, faithful_two Instr.cAnd.elim,
    faithful_two Instr.cSubw.elim, faithful_two Instr.cAddw.elim, faithful_two Instr.cMul.elim,
    faithful_two Instr.cmPush.elim, faithful_two Instr.cmPop.elim, faithful_two Instr.cmPopretz.elim,
    faithful_two Instr.cmPopret.elim, faithful_two Instr.cmMvsa01.elim, faithful_two Instr.cmMva01s.elim,
    faithful_three Instr.cLhu.elim, faithful_three Instr.cLh.elim, faithful_three Instr.cSh.elim,
    faithful_two_parts (5, 1) [(6, 1)] Instr.cLbu.elim, faithful_two_parts (5, 1) [(6, 1)] Instr.cSb.elim,
    faithful_one Instr.cmJalt.elim, faithful_one_parts (12, 1) [(2, 5)] Instr.cSrli.elim,
    faithful_one_parts (12, 1) [(2, 5)] Instr.cSrai.elim, faithful_one_parts (12, 1) [(2, 5)] Instr.cAndi.elim,
    faithful_two Instr.cMv.elim, faithful_two Instr.cAdd.elim,
    faithful_one_parts (7, 4) [(11, 2), (5, 1), (6, 1)] Instr.cAddi4spn.elim,
    faithful_two_parts (5, 2) [(10, 3)] Instr.cFld.elim,
    faithful_two_parts (10, 1) [(5, 2), (11, 2)] Instr.cLq.elim,
    faithful_two_parts (5, 1) [(10, 3), (6, 1)] Instr.cLw.elim,
    faithful_two_parts (5, 1) [(10, 3), (6, 1)] Instr.cFlw.elim,
    faithful_two_parts (5, 2) [(10, 3)] Instr.cLd.elim, faithful_two_parts (5, 2) [(10, 3)] Instr.cFsd.elim,
    faithful_two_parts (10, 1) [(5, 2), (11, 2)] Instr.cSq.elim,
    faithful_two_parts (5, 1) [(10, 3), (6, 1)] Instr.cSw.elim,
    faithful_two_parts (5, 1) [(10, 3), (6, 1)] Instr.cFsw.elim, faithful_two_parts (5, 2) [(10, 3)] Instr.cSd.elim⟩

theorem rows16part1_faithful : rows16part1.Forall (Row.Faithful 0xFFFF 2) :=
  ⟨faithful_one_parts (12, 1) [(2, 5)] Instr.cAddi.elim,
    faithful_parts (12, 1) [(8, 1), (9, 2), (6, 1), (7, 1), (2, 1), (11, 1), (3, 3)] Instr.cJal.elim,
    faithful_one_parts (12, 1) [(2, 5)] Instr.cAddiw.elim, faithful_one_parts (12, 1) [(2, 5)] Instr.cLi.elim,
    faithful_one_parts (12, 1) [(2, 5)] Instr.cLui.elim,
    faithful_parts (12, 1) [(8, 1), (9, 2), (6, 1), (7, 1), (2, 1), (11, 1), (3, 3)] Instr.cJ.elim,
    faithful_one_parts (12, 1) [(5, 2), (2, 1), (10, 2), (3, 2)] Instr.cBeqz.elim,
    faithful_one_parts (12, 1) [(5, 2), (2, 1), (10, 2), (3, 2)] Instr.cBnez.elim,
    faithful_one_parts (12, 1) [(2, 5)] Instr.cSlli.elim,
    faithful_one_parts (2, 3) [(12, 1), (5, 2)] Instr.cFldsp.elim,
    faithful_one_parts (2, 4) [(12, 1), (6, 1)] Instr.cLqsp.elim,
    faithful_one_parts (2, 2) [(12, 1), (4, 3)] Instr.cLwsp.elim,
    faithful_one_parts (2, 2) [(12, 1), (4, 3)] Instr.cFlwsp.elim,
    faithful_one_parts (2, 3) [(12, 1), (5, 2)] Instr.cLdsp.elim,
    faithful_one_parts (7, 3) [(10, 3)] Instr.cFsdsp.elim, faithful_one_parts (7, 4) [(11, 2)] Instr.cSqsp.elim,
    faithful_one_parts (7, 2) [(9, 4)] Instr.cSwsp.elim, faithful_one_parts (7, 2) [(9, 4)] Instr.cFswsp.elim,
    faithful_one_parts (7, 3) [(10, 3)] Instr.cSdsp.elim⟩

theorem rows32_faithful : ∀ r ∈ rows32, r.Faithful 0xFFFFFFFF 4 := by
  simp only [rows32, List.forall_mem_append, ← List.forall_iff_forall_mem]
  exact ⟨⟨⟨⟨⟨rows32part0_faithful, rows32part1_faithful⟩, rows32part2_faithful⟩, rows32part3_faithful⟩,
    rows32part4_faithful⟩, rows32part5_faithful⟩

theorem rows16_faithful : ∀ r ∈ rows16, r.Faithful 0xFFFF 2 := by
  simp only [rows16, List.forall_mem_append, ← List.forall_iff_forall_mem]
  exact ⟨rows16part0_faithful, rows16part1_faithful⟩

end Sys2Proof
end

section
/-! PROOFS. The decoder and the encoder are inverse on the well-formed instructions of a legal configuration
(30_encoding.md R174, R175, R208): a row that some word shares with another builds no instruction that is well formed
together with the other's. -/

namespace Sys2Proof

/-! ### The first row of a word -/

theorem findRow_some {c : Config} {w : InstBits} {rows : List Row} {i : Instr} (h : findRow c w rows = some i) :
    ∃ r ∈ rows, r.hits w = true ∧ (r.build w).wf c = true ∧ r.build w = i := by
  induction rows with
  | nil => cases h
  | cons r rs ih =>
    have later : findRow c w rs = some i → ∃ q ∈ r :: rs, q.hits w = true ∧ (q.build w).wf c = true ∧ q.build w = i :=
      fun h => let ⟨q, hq, hq'⟩ := ih h; ⟨q, List.mem_cons_of_mem _ hq, hq'⟩
    unfold findRow at h
    split at h
    · exact later h
    · split at h
      · exact ⟨r, List.mem_cons_self, ‹_›, ‹_›, by simpa using h⟩
      · exact later h

theorem findRow_isSome {c : Config} {w : InstBits} {rows : List Row} {r : Row} (hr : r ∈ rows) (hh : r.hits w = true)
    (hw : (r.build w).wf c = true) : ∃ i, findRow c w rows = some i := by
  induction rows with
  | nil => cases hr
  | cons q rs ih =>
    unfold findRow
    rcases List.mem_cons.mp hr with rfl | hr
    · rw [hh]; simp only [hw]; exact ⟨_, rfl⟩
    · split
      · exact ih hr
      · split
        · exact ⟨_, rfl⟩
        · exact ih hr

/-- Where the rows that a word matches build no two different instructions well formed together, the first row is any. -/
theorem findRow_eq {c : Config} {w : InstBits} {rows : List Row} {r : Row} (hr : r ∈ rows) (hh : r.hits w = true)
    (hw : (r.build w).wf c = true)
    (unique : ∀ q ∈ rows, q.hits w = true → (q.build w).wf c = true → q.build w = r.build w) :
    findRow c w rows = some (r.build w) := by
  obtain ⟨i, hi⟩ := findRow_isSome hr hh hw
  obtain ⟨q, hq, hqh, hqw, rfl⟩ := findRow_some hi
  rw [hi, unique q hq hqh hqw]

/-! ### Rows that share a word -/

/-- The fixed bits of two rows agree, so that some word matches both. -/
def Row.meets (r q : Row) : Bool := r.val &&& q.mask == q.val &&& r.mask

theorem Row.meets_of_hits {r q : Row} {w : InstBits} (hr : r.hits w = true) (hq : q.hits w = true) :
    r.meets q = true := by
  have hr : w.toNat &&& r.mask = r.val := by simpa [Row.hits] using hr
  have hq : w.toNat &&& q.mask = q.val := by simpa [Row.hits] using hq
  rw [Row.meets, beq_iff_eq, ← hr, ← hq, Nat.and_assoc, Nat.and_assoc, Nat.and_comm r.mask]

/-- The positions, from `j` on, of the rows of a list that share a word with row `i`. -/
def meetingsOf (r : Row) (i : Nat) : List Row → Nat → List (Nat × Nat)
  | [], _ => []
  | q :: rs, j => if r.meets q then (i, j) :: meetingsOf r i rs (j + 1) else meetingsOf r i rs (j + 1)

/-- The pairs of positions, from `i` on, of rows that share a word. -/
def meetings : List Row → Nat → List (Nat × Nat)
  | [], _ => []
  | r :: rs, i => meetingsOf r i rs (i + 1) ++ meetings rs (i + 1)

theorem mem_meetingsOf {r q : Row} {i : Nat} {rs : List Row} {j k : Nat} (hk : rs[k]? = some q)
    (h : r.meets q = true) : (i, j + k) ∈ meetingsOf r i rs j := by
  induction rs generalizing j k with
  | nil => simp at hk
  | cons p rs ih =>
    unfold meetingsOf
    cases k with
    | zero =>
      obtain rfl : p = q := by simpa using hk
      simp [h]
    | succ k =>
      have := ih (j := j + 1) (by simpa using hk)
      rw [Nat.add_right_comm, Nat.add_assoc] at this
      split
      · exact List.mem_cons_of_mem _ this
      · exact this

theorem mem_meetings {r q : Row} {rs : List Row} {i j k : Nat} (hj : rs[j]? = some r) (hk : rs[k]? = some q)
    (hjk : j < k) (h : r.meets q = true) : (i + j, i + k) ∈ meetings rs i := by
  induction rs generalizing i j k with
  | nil => simp at hj
  | cons p rs ih =>
    unfold meetings
    obtain ⟨k, rfl⟩ : ∃ m, k = m + 1 := ⟨k - 1, by omega⟩
    cases j with
    | zero =>
      obtain rfl : p = r := by simpa using hj
      have := mem_meetingsOf (i := i) (j := i + 1) (show rs[k]? = some q by simpa using hk) h
      rw [Nat.add_right_comm, Nat.add_assoc] at this
      exact List.mem_append_left _ this
    | succ j =>
      have := ih (i := i + 1) (show rs[j]? = some r by simpa using hj) (show rs[k]? = some q by simpa using hk) (by omega)
      rw [Nat.add_right_comm, Nat.add_assoc, Nat.add_right_comm i 1 k, Nat.add_assoc] at this
      exact List.mem_append_right _ this

/-- No word that matches both rows makes both instructions well formed in a legal configuration. -/
def Row.Excludes (r q : Row) : Prop :=
  ∀ c w, c.legal = true → r.hits w = true → q.hits w = true → (r.build w).wf c = true → (q.build w).wf c = true → False

/-- The row at a position; past the end, one that matches no word. -/
def rowAt (rows : List Row) (k : Nat) : Row := rows.getD k ⟨0, 1, fun _ => .pause⟩

theorem rowAt_eq {rows : List Row} {k : Nat} {r : Row} (h : rows[k]? = some r) : rowAt rows k = r := by
  simp [rowAt, h]

/-- Where the rows that share a word exclude each other, all rows that a word matches build the same well-formed
instruction. -/
theorem build_unique {rows : List Row}
    (hx : ∀ p ∈ meetings rows 0, (rowAt rows p.1).Excludes (rowAt rows p.2)) {c : Config} {w : InstBits}
    (hl : c.legal = true) {r q : Row} (hr : r ∈ rows) (hq : q ∈ rows) (hrh : r.hits w = true) (hqh : q.hits w = true)
    (hrw : (r.build w).wf c = true) (hqw : (q.build w).wf c = true) : q.build w = r.build w := by
  obtain ⟨j, hj⟩ := List.mem_iff_getElem?.mp hr
  obtain ⟨k, hk⟩ := List.mem_iff_getElem?.mp hq
  have excludes : ∀ {j k : Nat} {r q : Row}, rows[j]? = some r → rows[k]? = some q → j < k → r.meets q = true →
      r.Excludes q := by
    intro j k r q hj hk hjk hm
    have := hx _ (mem_meetings (i := 0) hj hk hjk hm)
    rwa [Nat.zero_add, Nat.zero_add, rowAt_eq hj, rowAt_eq hk] at this
  rcases Nat.lt_trichotomy j k with hjk | rfl | hjk
  · exact (excludes hj hk hjk (Row.meets_of_hits hrh hqh) c w hl hrh hqh hrw hqw).elim
  · rw [hj] at hk; rw [Option.some.inj hk]
  · exact (excludes hk hj hjk (Row.meets_of_hits hqh hrh) c w hl hqh hrh hqw hrw).elim

/-- A field within the mask of a row has the same bits in every word that the row matches. -/
theorem Row.field_of_hits {mask val : Nat} {build : InstBits → Instr} {w : InstBits}
    (h : (⟨mask, val, build⟩ : Row).hits w = true) (p n : Nat)
    (hf : mask &&& (2 ^ n - 1) * 2 ^ p = (2 ^ n - 1) * 2 ^ p := by decide) :
    w.extractLsb' p n = (BitVec.ofNat 32 val).extractLsb' p n := by
  have h : w.toNat &&& mask = val := by simpa [Row.hits] using h
  refine BitVec.eq_of_getLsbD_eq fun i hi => ?_
  rw [BitVec.getLsbD_extractLsb', BitVec.getLsbD_extractLsb', ← h]
  have hm : mask.testBit (p + i) = true := by
    have := congrArg (Nat.testBit · (p + i)) hf
    simp only [Nat.testBit_and, Nat.testBit_mul_two_pow, Nat.testBit_two_pow_sub_one] at this
    simpa [hi] using this
  by_cases h32 : p + i < 32
  · simp [hi, h32, hm, BitVec.getLsbD_ofNat]
  · simp [BitVec.getLsbD_of_ge _ _ (Nat.not_lt.mp h32)]

/-! ### Exclusion by XLEN -/

theorem Row.excludes_of_xlen {r q : Row} (x : Xlen) (hr : ∀ {c : Config} {w}, (r.build w).wf c = true → c.xlen = x)
    (hq : ∀ {c : Config} {w}, (q.build w).wf c = true → c.xlen ≠ x) : r.Excludes q :=
  fun _ _ _ _ _ hrw hqw => hq hqw (hr hrw)

theorem Row.excludes_of_xlen' {r q : Row} (x : Xlen) (hr : ∀ {c : Config} {w}, (r.build w).wf c = true → c.xlen ≠ x)
    (hq : ∀ {c : Config} {w}, (q.build w).wf c = true → c.xlen = x) : r.Excludes q :=
  fun _ _ _ _ _ hrw hqw => hr hrw (hq hqw)

theorem xlen_of_wf_slliRv32 {c : Config} {u v y} (h : (Instr.slliRv32 u v y).wf c = true) : c.xlen = .rv32 := by
  unfold Instr.wf at h; simp_all

theorem xlen_of_wf_srliRv32 {c : Config} {u v y} (h : (Instr.srliRv32 u v y).wf c = true) : c.xlen = .rv32 := by
  unfold Instr.wf at h; simp_all

theorem xlen_of_wf_sraiRv32 {c : Config} {u v y} (h : (Instr.sraiRv32 u v y).wf c = true) : c.xlen = .rv32 := by
  unfold Instr.wf at h; simp_all

theorem xlen_of_wf_cFlw {c : Config} {u v y} (h : (Instr.cFlw u v y).wf c = true) : c.xlen = .rv32 := by
  unfold Instr.wf at h; simp_all

theorem xlen_of_wf_cFsw {c : Config} {u v y} (h : (Instr.cFsw u v y).wf c = true) : c.xlen = .rv32 := by
  unfold Instr.wf at h; simp_all

theorem xlen_of_wf_cJal {c : Config} {u} (h : (Instr.cJal u).wf c = true) : c.xlen = .rv32 := by
  unfold Instr.wf at h; simp_all

theorem xlen_of_wf_cFlwsp {c : Config} {u v} (h : (Instr.cFlwsp u v).wf c = true) : c.xlen = .rv32 := by
  unfold Instr.wf at h; simp_all

theorem xlen_of_wf_cFswsp {c : Config} {u v} (h : (Instr.cFswsp u v).wf c = true) : c.xlen = .rv32 := by
  unfold Instr.wf at h; simp_all

theorem xlen_of_wf_slliRv64 {c : Config} {u v y} (h : (Instr.slliRv64 u v y).wf c = true) : c.xlen = .rv64 := by
  unfold Instr.wf at h; simp_all

theorem xlen_of_wf_srliRv64 {c : Config} {u v y} (h : (Instr.srliRv64 u v y).wf c = true) : c.xlen = .rv64 := by
  unfold Instr.wf at h; simp_all

theorem xlen_of_wf_sraiRv64 {c : Config} {u v y} (h : (Instr.sraiRv64 u v y).wf c = true) : c.xlen = .rv64 := by
  unfold Instr.wf at h; simp_all

theorem xlen_of_wf_slliRv128 {c : Config} {u v y} (h : (Instr.slliRv128 u v y).wf c = true) : c.xlen = .rv128 := by
  unfold Instr.wf at h; simp_all

theorem xlen_of_wf_srliRv128 {c : Config} {u v y} (h : (Instr.srliRv128 u v y).wf c = true) : c.xlen = .rv128 := by
  unfold Instr.wf at h; simp_all

theorem xlen_of_wf_sraiRv128 {c : Config} {u v y} (h : (Instr.sraiRv128 u v y).wf c = true) : c.xlen = .rv128 := by
  unfold Instr.wf at h; simp_all

theorem xlen_of_wf_cLq {c : Config} {u v y} (h : (Instr.cLq u v y).wf c = true) : c.xlen = .rv128 := by
  unfold Instr.wf at h; simp_all

theorem xlen_of_wf_cSq {c : Config} {u v y} (h : (Instr.cSq u v y).wf c = true) : c.xlen = .rv128 := by
  unfold Instr.wf at h; simp_all

theorem xlen_of_wf_cLqsp {c : Config} {u v} (h : (Instr.cLqsp u v).wf c = true) : c.xlen = .rv128 := by
  unfold Instr.wf at h; simp_all

theorem xlen_of_wf_cSqsp {c : Config} {u v} (h : (Instr.cSqsp u v).wf c = true) : c.xlen = .rv128 := by
  unfold Instr.wf at h; simp_all

theorem xlen_of_wf_cLd {c : Config} {u v y} (h : (Instr.cLd u v y).wf c = true) : c.xlen ≠ .rv32 := by
  unfold Instr.wf at h; simp_all

theorem xlen_of_wf_cSd {c : Config} {u v y} (h : (Instr.cSd u v y).wf c = true) : c.xlen ≠ .rv32 := by
  unfold Instr.wf at h; simp_all

theorem xlen_of_wf_cAddiw {c : Config} {u v} (h : (Instr.cAddiw u v).wf c = true) : c.xlen ≠ .rv32 := by
  unfold Instr.wf at h; simp_all

theorem xlen_of_wf_cLdsp {c : Config} {u v} (h : (Instr.cLdsp u v).wf c = true) : c.xlen ≠ .rv32 := by
  unfold Instr.wf at h; simp_all

theorem xlen_of_wf_cSdsp {c : Config} {u v} (h : (Instr.cSdsp u v).wf c = true) : c.xlen ≠ .rv32 := by
  unfold Instr.wf at h; simp_all

theorem xlen_of_wf_cFld {c : Config} {u v y} (h : (Instr.cFld u v y).wf c = true) : c.xlen ≠ .rv128 := by
  unfold Instr.wf at h; simp_all

theorem xlen_of_wf_cFsd {c : Config} {u v y} (h : (Instr.cFsd u v y).wf c = true) : c.xlen ≠ .rv128 := by
  unfold Instr.wf at h; simp_all

theorem xlen_of_wf_cFldsp {c : Config} {u v} (h : (Instr.cFldsp u v).wf c = true) : c.xlen ≠ .rv128 := by
  unfold Instr.wf at h; simp_all

theorem xlen_of_wf_cFsdsp {c : Config} {u v} (h : (Instr.cFsdsp u v).wf c = true) : c.xlen ≠ .rv128 := by
  unfold Instr.wf at h; simp_all

/-! ### Exclusion by the extensions: Zcmp and Zcmt exclude Zcd and XLEN = 128 (49_zc.md R701) -/

theorem not_zcd_of_zc {c : Config} (hl : c.legal = true) (h : (c.ext.zcmp || c.ext.zcmt) = true) : c.ext.zcd = false := by
  simp only [Config.legal, ExtSet.compatible, Bool.and_eq_true, Bool.not_eq_true'] at hl
  cases hz : c.ext.zcd <;> simp_all

/-- With XLEN = 128 there is no extension but C, Zca and Ztso. -/
theorem onlyC_of_rv128 {c : Config} (hl : c.legal = true) (h : c.xlen = .rv128) :
    c.ext = { c := c.ext.c, zca := c.ext.zca, ztso := c.ext.ztso } := by
  simp only [Config.legal, ExtSet.compatible, implies, h, ExtSet.onlyC, Bool.and_eq_true] at hl
  simpa using hl.1.1.1.1.1.2.2

theorem not_rv128_of_zc {c : Config} (hl : c.legal = true) (h : (c.ext.zcmp || c.ext.zcmt) = true) :
    c.xlen ≠ .rv128 := fun hx => by
  rw [onlyC_of_rv128 hl hx] at h; cases h

theorem zc_of_wf_cmPush {c : Config} {u v} (h : (Instr.cmPush u v).wf c = true) : (c.ext.zcmp || c.ext.zcmt) = true := by
  unfold Instr.wf at h; simp_all

theorem zc_of_wf_cmPop {c : Config} {u v} (h : (Instr.cmPop u v).wf c = true) : (c.ext.zcmp || c.ext.zcmt) = true := by
  unfold Instr.wf at h; simp_all

theorem zc_of_wf_cmPopretz {c : Config} {u v} (h : (Instr.cmPopretz u v).wf c = true) : (c.ext.zcmp || c.ext.zcmt) = true := by
  unfold Instr.wf at h; simp_all

theorem zc_of_wf_cmPopret {c : Config} {u v} (h : (Instr.cmPopret u v).wf c = true) : (c.ext.zcmp || c.ext.zcmt) = true := by
  unfold Instr.wf at h; simp_all

theorem zc_of_wf_cmMvsa01 {c : Config} {u v} (h : (Instr.cmMvsa01 u v).wf c = true) : (c.ext.zcmp || c.ext.zcmt) = true := by
  unfold Instr.wf at h; simp_all

theorem zc_of_wf_cmMva01s {c : Config} {u v} (h : (Instr.cmMva01s u v).wf c = true) : (c.ext.zcmp || c.ext.zcmt) = true := by
  unfold Instr.wf at h; simp_all

theorem zc_of_wf_cmJt {c : Config} {u} (h : (Instr.cmJt u).wf c = true) : (c.ext.zcmp || c.ext.zcmt) = true := by
  unfold Instr.wf at h; simp_all

theorem zc_of_wf_cmJalt {c : Config} {u} (h : (Instr.cmJalt u).wf c = true) : (c.ext.zcmp || c.ext.zcmt) = true := by
  unfold Instr.wf at h; simp_all

theorem zcd_of_wf_cFsdsp {c : Config} {u v} (h : (Instr.cFsdsp u v).wf c = true) : c.ext.zcd = true := by
  unfold Instr.wf at h; simp_all

theorem Row.excludes_cFsdsp {r : Row}
    (hr : ∀ {c : Config} {w}, (r.build w).wf c = true → (c.ext.zcmp || c.ext.zcmt) = true) :
    r.Excludes (rowAt rows16 74) := fun _ _ hl _ _ hrw hqw => by
  have := not_zcd_of_zc hl (hr hrw)
  rw [zcd_of_wf_cFsdsp hqw] at this; cases this

theorem Row.excludes_cSqsp {r : Row}
    (hr : ∀ {c : Config} {w}, (r.build w).wf c = true → (c.ext.zcmp || c.ext.zcmt) = true) :
    r.Excludes (rowAt rows16 75) := fun _ _ hl _ _ hrw hqw => not_rv128_of_zc hl (hr hrw) (xlen_of_wf_cSqsp hqw)

/-! ### Exclusion by the bits: a more specific row, and the operands that a general one leaves to it -/

/-- The bits of an NTL hint are no ADD of a configuration that has the hints (41_zifencei_hints_rv32e.md R293). -/
theorem isNtl_of_hint {c : Config} (hz : c.ext.zihintntl = true) {k : Reg} (hk : 2 ≤ k ∧ k ≤ 5) :
    c.isNtl 0 0 k = true := by
  obtain ⟨h2, h5⟩ := hk
  simpa [Config.isNtl, hz] using ⟨h2, h5⟩

theorem Row.ntl_excludes_add {val : Nat} {i : Instr} (hz : ∀ {c : Config}, i.wf c = true → c.ext.zihintntl = true)
    (h0 : (BitVec.ofNat 32 val).extractLsb' 7 5 = 0 ∧ (BitVec.ofNat 32 val).extractLsb' 15 5 = 0 := by decide)
    (hk : 2 ≤ (BitVec.ofNat 32 val).extractLsb' 20 5 ∧ (BitVec.ofNat 32 val).extractLsb' 20 5 ≤ 5 := by decide) :
    Row.Excludes ⟨0xFFFFFFFF, val, fun _ => i⟩ (rowAt rows32 127) := by
  intro c w _ hr _ hi hq
  have hq : (!c.isNtl (w.extractLsb' 7 5) (w.extractLsb' 15 5) (w.extractLsb' 20 5)) = true :=
    (Bool.and_eq_true_iff.mp hq).2
  rw [field_of_hits hr 7 5, field_of_hits hr 15 5, field_of_hits hr 20 5, h0.1, h0.2, isNtl_of_hint (hz hi) hk] at hq
  cases hq

theorem Row.ntl_excludes_cAdd {val : Nat} {i : Instr} (hz : ∀ {c : Config}, i.wf c = true → c.ext.zihintntl = true)
    (h0 : (BitVec.ofNat 32 val).extractLsb' 7 5 = 0 := by decide)
    (hk : 2 ≤ (BitVec.ofNat 32 val).extractLsb' 2 5 ∧ (BitVec.ofNat 32 val).extractLsb' 2 5 ≤ 5 := by decide) :
    Row.Excludes ⟨0xFFFF, val, fun _ => i⟩ (rowAt rows16 48) := by
  intro c w _ hr _ hi hq
  have hq : (!c.isNtl (w.extractLsb' 7 5) 0 (w.extractLsb' 2 5)) = true := (Bool.and_eq_true_iff.mp hq).2
  rw [field_of_hits hr 7 5, field_of_hits hr 2 5, h0, isNtl_of_hint (hz hi) hk] at hq
  cases hq

theorem Row.pause_excludes_fence : Row.Excludes (rowAt rows32 0) (rowAt rows32 279) := by
  intro c w _ hr _ hi hq
  have hz : c.ext.zihintpause = true := hi
  have hq : (!c.isOtherFence (w.extractLsb' 28 4) (w.extractLsb' 24 4) (w.extractLsb' 20 4) (w.extractLsb' 15 5)
    (w.extractLsb' 7 5)) = true := hq
  rw [field_of_hits hr 28 4, field_of_hits hr 24 4, field_of_hits hr 20 4, field_of_hits hr 15 5,
    field_of_hits hr 7 5] at hq
  simp [Config.isOtherFence, hz] at hq

theorem Row.fenceTso_excludes_fence : Row.Excludes (rowAt rows32 13) (rowAt rows32 279) := by
  intro c w _ hr _ _ hq
  have hq : (!c.isOtherFence (w.extractLsb' 28 4) (w.extractLsb' 24 4) (w.extractLsb' 20 4) (w.extractLsb' 15 5)
    (w.extractLsb' 7 5)) = true := hq
  rw [field_of_hits hr 28 4, field_of_hits hr 24 4, field_of_hits hr 20 4] at hq
  simp [Config.isOtherFence] at hq

/-- The bits of a prefetch are no ORI of a configuration that has it (48_zfinx_zfa_cmo_zawrs.md R680). -/
theorem Row.prefetch_excludes_ori {val : Nat} {mk : Reg → BitVec 7 → Instr}
    (hz : ∀ {c : Config} {a b}, (mk a b).wf c = true → c.ext.zicbop = true)
    (h0 : (BitVec.ofNat 32 val).extractLsb' 7 5 = 0 := by decide)
    (hk : (BitVec.ofNat 32 val).extractLsb' 20 5 = 0 ∨ (BitVec.ofNat 32 val).extractLsb' 20 5 = 1 ∨
      (BitVec.ofNat 32 val).extractLsb' 20 5 = 3 := by decide) :
    Row.Excludes ⟨0x01F07FFF, val, fun w => mk (w.extractLsb' 15 5) (w.extractLsb' 25 7)⟩ (rowAt rows32 262) := by
  intro c w _ hr _ hi hq
  have hq : (!c.isPrefetch (w.extractLsb' 7 5) (w.extractLsb' 20 12)) = true := (Bool.and_eq_true_iff.mp hq).2
  have himm : (w.extractLsb' 20 12).extractLsb' 0 5 = w.extractLsb' 20 5 := extractLsb'_extractLsb' w 20 12 0 5 (by decide)
  rw [Config.isPrefetch, himm, field_of_hits hr 7 5, field_of_hits hr 20 5, h0, hz hi] at hq
  rcases hk with hk | hk | hk <;> rw [hk] at hq <;> cases hq

/-- A row whose general instruction leaves the register 0 of a field, or the immediate 0, to the more specific row. -/
theorem Row.excludes_of_field {mask val : Nat} {build : InstBits → Instr} {q : Row} (p n : Nat)
    (hq : ∀ {c : Config} {w}, (q.build w).wf c = true → w.extractLsb' p n ≠ (BitVec.ofNat 32 val).extractLsb' p n)
    (hf : mask &&& (2 ^ n - 1) * 2 ^ p = (2 ^ n - 1) * 2 ^ p := by decide) :
    Row.Excludes ⟨mask, val, build⟩ q := fun _ _ _ hr _ _ hqw => hq hqw (field_of_hits hr p n hf)

theorem rs2_of_wf_cMv {c : Config} {u v} (h : (Instr.cMv u v).wf c = true) : v ≠ 0 := by
  unfold Instr.wf at h; simp_all

theorem rs2_of_wf_cAdd {c : Config} {u v} (h : (Instr.cAdd u v).wf c = true) : v ≠ 0 := by
  unfold Instr.wf at h; simp_all

theorem rs1_of_wf_cJalr {c : Config} {u} (h : (Instr.cJalr u).wf c = true) : u ≠ 0 := by
  unfold Instr.wf at h; simp_all

theorem rd_of_wf_cAddi {c : Config} {u v} (h : (Instr.cAddi u v).wf c = true) : u ≠ 0 := by
  unfold Instr.wf at h; simp_all

theorem rd_of_wf_cLui {c : Config} {u v} (h : (Instr.cLui u v).wf c = true) : u ≠ 2 := by
  unfold Instr.wf at h; simp_all

theorem imm_of_wf_cLui {c : Config} {u v} (h : (Instr.cLui u v).wf c = true) : v ≠ 0 := by
  unfold Instr.wf at h; simp_all

theorem nzuimm_of_wf_cAddi4spn {c : Config} {u v} (h : (Instr.cAddi4spn u v).wf c = true) : v ≠ 0 := by
  unfold Instr.wf at h; simp_all

/-- The bits of C.MOP.n are those of C.LUI with the immediate 0. -/
theorem Row.cMop_excludes_cLui {val : Nat} {i : Instr}
    (h0 : (BitVec.ofNat 32 val).extractLsb' 12 1 ++ (BitVec.ofNat 32 val).extractLsb' 2 5 = 0 := by decide) :
    Row.Excludes ⟨0xFFFF, val, fun _ => i⟩ (rowAt rows16 64) := by
  intro c w _ hr _ _ hq
  refine imm_of_wf_cLui hq ?_
  rw [field_of_hits hr 12 1, field_of_hits hr 2 5]; exact h0

theorem Row.cIllegal_excludes_cAddi4spn : Row.Excludes (rowAt rows16 4) (rowAt rows16 49) := by
  intro c w _ hr _ _ hq
  refine nzuimm_of_wf_cAddi4spn hq ?_
  rw [field_of_hits hr 7 4, field_of_hits hr 11 2, field_of_hits hr 5 1, field_of_hits hr 6 1]; decide

/-- The indices of CM.JT are those of CM.JALT below 32. -/
theorem Row.cmJt_excludes_cmJalt : Row.Excludes (rowAt rows16 22) (rowAt rows16 43) := by
  intro c w _ hr _ _ hq
  have hq : (c.ext.zcmt && !decide (w.extractLsb' 2 8 < 32)) = true := hq
  have hhigh : (w.extractLsb' 2 8).extractLsb' 5 3 = 0 := by
    rw [extractLsb'_extractLsb' w 2 8 5 3 (by decide), field_of_hits hr 7 3]; decide
  have hlow : ∀ v : BitVec 8, v.extractLsb' 5 3 = 0 → v < 32 := by decide
  rw [decide_eq_true (hlow _ hhigh), Bool.not_true, Bool.and_false] at hq
  cases hq

/-! ### The rows that share a word exclude each other -/

open Row

theorem rows32_meetings : meetings rows32 0 = [
    (0, 279), (3, 127), (4, 127), (5, 127), (6, 127), (13, 279), (65, 262), (66, 262), (67, 262), (124, 216), (124, 219),
    (125, 217), (125, 220), (126, 218), (126, 221), (216, 219), (217, 220), (218, 221)] := by decide +kernel

theorem rows32_excludes : ∀ p ∈ meetings rows32 0, (rowAt rows32 p.1).Excludes (rowAt rows32 p.2) := by
  rw [rows32_meetings, ← List.forall_iff_forall_mem]
  exact ⟨pause_excludes_fence, ntl_excludes_add id, ntl_excludes_add id, ntl_excludes_add id, ntl_excludes_add id,
    fenceTso_excludes_fence, prefetch_excludes_ori fun h => (Bool.and_eq_true_iff.mp h).1,
    prefetch_excludes_ori fun h => (Bool.and_eq_true_iff.mp h).1,
    prefetch_excludes_ori fun h => (Bool.and_eq_true_iff.mp h).1,
    excludes_of_xlen .rv32 xlen_of_wf_slliRv32 (fun h => by rw [xlen_of_wf_slliRv64 h]; decide),
    excludes_of_xlen .rv32 xlen_of_wf_slliRv32 (fun h => by rw [xlen_of_wf_slliRv128 h]; decide),
    excludes_of_xlen .rv32 xlen_of_wf_srliRv32 (fun h => by rw [xlen_of_wf_srliRv64 h]; decide),
    excludes_of_xlen .rv32 xlen_of_wf_srliRv32 (fun h => by rw [xlen_of_wf_srliRv128 h]; decide),
    excludes_of_xlen .rv32 xlen_of_wf_sraiRv32 (fun h => by rw [xlen_of_wf_sraiRv64 h]; decide),
    excludes_of_xlen .rv32 xlen_of_wf_sraiRv32 (fun h => by rw [xlen_of_wf_sraiRv128 h]; decide),
    excludes_of_xlen .rv64 xlen_of_wf_slliRv64 (fun h => by rw [xlen_of_wf_slliRv128 h]; decide),
    excludes_of_xlen .rv64 xlen_of_wf_srliRv64 (fun h => by rw [xlen_of_wf_srliRv128 h]; decide),
    excludes_of_xlen .rv64 xlen_of_wf_sraiRv64 (fun h => by rw [xlen_of_wf_sraiRv128 h]; decide)⟩

theorem rows16_meetings : meetings rows16 0 = [
    (0, 48), (1, 48), (2, 48), (3, 48), (4, 49), (5, 64), (6, 64), (7, 64), (8, 64), (9, 64), (10, 64), (11, 64),
    (12, 64), (13, 21), (13, 48), (20, 47), (21, 48), (22, 43), (22, 74), (22, 75), (23, 60), (24, 64), (32, 74),
    (32, 75), (33, 74), (33, 75), (34, 74), (34, 75), (35, 74), (35, 75), (36, 74), (36, 75), (37, 74), (37, 75),
    (43, 74), (43, 75), (50, 51), (53, 54), (55, 56), (58, 59), (61, 62), (69, 70), (72, 73), (74, 75), (77, 78)] := by decide +kernel

theorem rows16_excludes : ∀ p ∈ meetings rows16 0, (rowAt rows16 p.1).Excludes (rowAt rows16 p.2) := by
  rw [rows16_meetings, ← List.forall_iff_forall_mem]
  exact ⟨(ntl_excludes_cAdd fun h => (Bool.and_eq_true_iff.mp h).1),
    (ntl_excludes_cAdd fun h => (Bool.and_eq_true_iff.mp h).1),
    (ntl_excludes_cAdd fun h => (Bool.and_eq_true_iff.mp h).1),
    (ntl_excludes_cAdd fun h => (Bool.and_eq_true_iff.mp h).1), cIllegal_excludes_cAddi4spn, cMop_excludes_cLui,
    cMop_excludes_cLui, cMop_excludes_cLui, cMop_excludes_cLui, cMop_excludes_cLui, cMop_excludes_cLui,
    cMop_excludes_cLui, cMop_excludes_cLui, excludes_of_field 7 5 rs1_of_wf_cJalr,
    excludes_of_field 2 5 rs2_of_wf_cAdd, excludes_of_field 2 5 rs2_of_wf_cMv, excludes_of_field 2 5 rs2_of_wf_cAdd,
    cmJt_excludes_cmJalt, excludes_cFsdsp zc_of_wf_cmJt, excludes_cSqsp zc_of_wf_cmJt,
    excludes_of_field 7 5 rd_of_wf_cAddi, excludes_of_field 7 5 rd_of_wf_cLui, excludes_cFsdsp zc_of_wf_cmPush,
    excludes_cSqsp zc_of_wf_cmPush, excludes_cFsdsp zc_of_wf_cmPop, excludes_cSqsp zc_of_wf_cmPop,
    excludes_cFsdsp zc_of_wf_cmPopretz, excludes_cSqsp zc_of_wf_cmPopretz, excludes_cFsdsp zc_of_wf_cmPopret,
    excludes_cSqsp zc_of_wf_cmPopret, excludes_cFsdsp zc_of_wf_cmMvsa01, excludes_cSqsp zc_of_wf_cmMvsa01,
    excludes_cFsdsp zc_of_wf_cmMva01s, excludes_cSqsp zc_of_wf_cmMva01s, excludes_cFsdsp zc_of_wf_cmJalt,
    excludes_cSqsp zc_of_wf_cmJalt, excludes_of_xlen' .rv128 xlen_of_wf_cFld (fun h => xlen_of_wf_cLq h),
    excludes_of_xlen .rv32 xlen_of_wf_cFlw xlen_of_wf_cLd,
    excludes_of_xlen' .rv128 xlen_of_wf_cFsd (fun h => xlen_of_wf_cSq h),
    excludes_of_xlen .rv32 xlen_of_wf_cFsw xlen_of_wf_cSd, excludes_of_xlen .rv32 xlen_of_wf_cJal xlen_of_wf_cAddiw,
    excludes_of_xlen' .rv128 xlen_of_wf_cFldsp (fun h => xlen_of_wf_cLqsp h),
    excludes_of_xlen .rv32 xlen_of_wf_cFlwsp xlen_of_wf_cLdsp,
    excludes_of_xlen' .rv128 xlen_of_wf_cFsdsp (fun h => xlen_of_wf_cSqsp h),
    excludes_of_xlen .rv32 xlen_of_wf_cFswsp xlen_of_wf_cSdsp⟩

end Sys2Proof
end

section
/-! PROOFS. The decoder and the encoder are inverse on the well-formed instructions of a legal configuration
(30_encoding.md R174, R175, R208): the statements about them, from what holds of each row. -/

namespace Sys2Proof

/-! ### Which rows a word can match: the length of an instruction is in its lowest bits (30_encoding.md R150) -/

theorem lowBits_toNat (w : InstBits) (n : Nat) (hn : n ≤ 16) :
    (((w.setWidth 16).extractLsb' 0 n).toNat) = w.toNat % 2 ^ n := by
  rw [BitVec.extractLsb'_toNat, Nat.shiftRight_zero, BitVec.toNat_setWidth,
    Nat.mod_mod_of_dvd _ (Nat.pow_dvd_pow 2 hn)]

theorem isShort_iff (w : InstBits) : isShort (w.setWidth 16) = true ↔ w.toNat % 4 ≠ 3 := by
  rw [isShort, bne_iff_ne, Ne, ← BitVec.toNat_inj, lowBits_toNat w 2 (by decide)]; rfl

theorem isLong_iff (w : InstBits) : isLong (w.setWidth 16) = true ↔ w.toNat % 32 = 31 := by
  rw [isLong, beq_iff_eq, ← BitVec.toNat_inj, lowBits_toNat w 5 (by decide)]; rfl

/-- What a row whose mask holds the lowest `n` bits says of them. -/
theorem Row.lowBits_of_hits {r : Row} {w : InstBits} {n : Nat} (hm : r.mask &&& (2 ^ n - 1) = 2 ^ n - 1)
    (h : r.hits w = true) : w.toNat % 2 ^ n = r.val % 2 ^ n := by
  rw [Row.hits, beq_iff_eq] at h
  rw [← h, ← Nat.and_two_pow_sub_one_eq_mod, ← Nat.and_two_pow_sub_one_eq_mod, Nat.and_assoc, hm]

theorem rows32_lowBits : ∀ r ∈ rows32, r.mask &&& 31 = 31 ∧ r.val % 4 = 3 ∧ r.val % 32 ≠ 31 := by decide +kernel

theorem rows16_lowBits : ∀ r ∈ rows16, r.mask &&& 3 = 3 ∧ r.val % 4 ≠ 3 := by decide +kernel

theorem rows32_length {r : Row} (hr : r ∈ rows32) {w : InstBits} (h : r.hits w = true) :
    isShort (w.setWidth 16) = false ∧ isLong (w.setWidth 16) = false := by
  obtain ⟨hm, h4, h32⟩ := rows32_lowBits r hr
  have hw := Row.lowBits_of_hits (n := 5) hm h
  rw [← Bool.not_eq_true, ← Bool.not_eq_true, isShort_iff, isLong_iff]
  omega

theorem rows16_length {r : Row} (hr : r ∈ rows16) {w : InstBits} (h : r.hits w = true) :
    isShort (w.setWidth 16) = true := by
  obtain ⟨hm, h4⟩ := rows16_lowBits r hr
  have hw := Row.lowBits_of_hits (n := 2) hm h
  rw [isShort_iff]
  omega

/-! ### A 16-bit instruction is well formed only with IALIGN = 16 -/

/-- The extensions without those that have 16-bit instructions. -/
def ExtSet.withoutZca (e : ExtSet) : ExtSet :=
  { e with zca := false, zcf := false, zcd := false, zcb := false, zcmp := false, zcmt := false, zcmop := false }

theorem rows16part0_withoutZca : rows16part0.Forall fun r =>
    ∀ (c : Config) w, (r.build w).wf { c with ext := c.ext.withoutZca } = false :=
  ⟨fun _ _ => Bool.and_false _, fun _ _ => Bool.and_false _, fun _ _ => Bool.and_false _, fun _ _ => Bool.and_false _,
    fun _ _ => rfl, fun _ _ => rfl, fun _ _ => rfl, fun _ _ => rfl, fun _ _ => rfl, fun _ _ => rfl,
    fun _ _ => rfl, fun _ _ => rfl, fun _ _ => rfl, fun _ _ => rfl, fun _ _ => rfl, fun _ _ => rfl,
    fun _ _ => rfl, fun _ _ => rfl, fun _ _ => rfl, fun _ _ => rfl, fun _ _ => rfl, fun _ _ => rfl,
    fun _ _ => rfl, fun _ _ => rfl, fun _ _ => rfl, fun _ _ => rfl, fun _ _ => rfl, fun _ _ => rfl,
    fun _ _ => rfl, fun _ _ => rfl, fun _ _ => rfl, fun _ _ => rfl, fun _ _ => rfl, fun _ _ => rfl,
    fun _ _ => rfl, fun _ _ => rfl, fun _ _ => rfl, fun _ _ => rfl, fun _ _ => rfl, fun _ _ => rfl,
    fun _ _ => rfl, fun _ _ => rfl, fun _ _ => rfl, fun _ _ => rfl, fun _ _ => rfl, fun _ _ => rfl,
    fun _ _ => rfl, fun _ _ => rfl, fun _ _ => rfl, fun _ _ => rfl, fun _ _ => rfl, fun _ _ => rfl,
    fun _ _ => rfl, fun _ _ => rfl, fun _ _ => rfl, fun _ _ => rfl, fun _ _ => rfl, fun _ _ => rfl,
    fun _ _ => rfl, fun _ _ => rfl⟩

theorem rows16part1_withoutZca : rows16part1.Forall fun r =>
    ∀ (c : Config) w, (r.build w).wf { c with ext := c.ext.withoutZca } = false :=
  ⟨fun _ _ => rfl, fun _ _ => rfl, fun _ _ => rfl, fun _ _ => rfl, fun _ _ => rfl, fun _ _ => rfl,
    fun _ _ => rfl, fun _ _ => rfl, fun _ _ => rfl, fun _ _ => rfl, fun _ _ => rfl, fun _ _ => rfl,
    fun _ _ => rfl, fun _ _ => rfl, fun _ _ => rfl, fun _ _ => rfl, fun _ _ => rfl, fun _ _ => rfl,
    fun _ _ => rfl⟩

/-- Every extension with 16-bit instructions brings Zca with it (00_scope.md R10). -/
theorem withoutZca_of_zca {e : ExtSet} {x : Xlen} (hl : e.closed x = true) (h : e.zca = false) : e.withoutZca = e := by
  cases e
  simp_all [ExtSet.withoutZca, ExtSet.closed, implies]

theorem closed_of_legal {c : Config} (hl : c.legal = true) : c.ext.closed c.xlen = true := by
  simp only [Config.legal, Bool.and_eq_true] at hl
  exact hl.1.1.1.1.1.1

theorem ialign16_of_wf {c : Config} (hl : c.legal = true) {r : Row} (hr : r ∈ rows16) {w : InstBits}
    (h : (r.build w).wf c = true) : c.ialign16 = true := by
  cases hz : c.ext.zca with
  | true => rw [Config.ialign16, hz, Bool.or_true]
  | false =>
    have off : (r.build w).wf { c with ext := c.ext.withoutZca } = false := by
      rcases List.mem_append.mp hr with hr | hr
      · exact List.forall_iff_forall_mem.mp rows16part0_withoutZca r hr c w
      · exact List.forall_iff_forall_mem.mp rows16part1_withoutZca r hr c w
    rw [withoutZca_of_zca (closed_of_legal hl) hz] at off
    rw [off] at h; cases h

/-! ### Every instruction has a row -/

theorem Instr.ctorIdx_lt (i : Instr) : i.ctorIdx < 397 := by
  cases i <;> exact Nat.le_of_ble_eq_true rfl

theorem rows_ctorIdx : ∀ k < 397, k ∈ (rows32 ++ rows16).map fun r => (r.build 0).ctorIdx := by decide +kernel

/-- The row of an instruction. -/
theorem exists_row (i : Instr) : ∃ r, (r ∈ rows32 ∧ r.Covers 0xFFFFFFFF i) ∨ (r ∈ rows16 ∧ r.Covers 0xFFFF i) := by
  obtain ⟨r, hr, hi⟩ := List.mem_map.mp (rows_ctorIdx _ i.ctorIdx_lt)
  rcases List.mem_append.mp hr with hr | hr
  · exact ⟨r, .inl ⟨hr, (rows32_faithful r hr).covers i hi.symm⟩⟩
  · exact ⟨r, .inr ⟨hr, (rows16_faithful r hr).covers i hi.symm⟩⟩

theorem findRow_encode {used : InstBits} {c : Config} {i : Instr} {rows : List Row} {r : Row} (hl : c.legal = true)
    (hx : ∀ p ∈ meetings rows 0, (rowAt rows p.1).Excludes (rowAt rows p.2)) (hr : r ∈ rows)
    (hc : r.Covers used i) (hi : i.wf c = true) : findRow c (encode i) rows = some i := by
  have hw : (r.build (encode i)).wf c = true := by rw [hc.build]; exact hi
  rw [findRow_eq hr hc.hits hw fun q hq hqh hqw => build_unique hx hl hr hq hc.hits hqh hw hqw, hc.build]

/-! ### What the decoder answers -/

theorem decode_cases {c : Config} {w : InstBits} {i : Instr} (h : decode c w = .ok i) :
    (isShort (w.setWidth 16) = true ∧ c.ialign16 = true ∧ findRow c (w &&& 0xFFFF#32) rows16 = some i) ∨
      (isShort (w.setWidth 16) = false ∧ findRow c w rows32 = some i) := by
  unfold decode at h
  split at h
  · unfold decode16 at h
    split at h
    · cases h
    · split at h
      · cases h; exact .inl ⟨‹_›, ‹_›, ‹_›⟩
      · cases h
  · unfold decode32 at h
    split at h
    · cases h
    · split at h
      · cases h; exact .inr ⟨‹_›, ‹_›⟩
      · cases h

theorem decode_short {c : Config} {w : InstBits} (hs : isShort (w.setWidth 16) = true) (hc : c.ialign16 = true)
    {i : Instr} (h : findRow c (w &&& 0xFFFF#32) rows16 = some i) : decode c w = .ok i := by
  simp only [decode, decode16, hs, hc, h]

theorem decode_wide {c : Config} {w : InstBits} (hs : isShort (w.setWidth 16) = false)
    (hlong : isLong (w.setWidth 16) = false) {i : Instr} (h : findRow c w rows32 = some i) : decode c w = .ok i := by
  simp only [decode, decode32, hs, hlong, h]

theorem wf_of_decode {c : Config} {w : InstBits} {i : Instr} (h : decode c w = .ok i) : i.wf c = true := by
  rcases decode_cases h with ⟨_, _, h⟩ | ⟨_, h⟩ <;>
  · obtain ⟨r, _, _, hw, rfl⟩ := findRow_some h
    exact hw

theorem length_of_decode {c : Config} {w : InstBits} {i : Instr} (h : decode c w = .ok i) :
    (isShort (w.setWidth 16) = true ∧ c.ialign16 = true ∧ i.len = 2 ∧ encode i = w &&& 0xFFFF) ∨
      (isShort (w.setWidth 16) = false ∧ i.len = 4 ∧ encode i = w) := by
  rcases decode_cases h with ⟨hs, hc, h⟩ | ⟨hs, h⟩
  · obtain ⟨r, hr, hh, _, rfl⟩ := findRow_some h
    have hf := rows16_faithful r hr
    exact .inl ⟨hs, hc, hf.len _, hf.reencode _ (by rw [BitVec.and_assoc]; rfl) hh⟩
  · obtain ⟨r, hr, hh, _, rfl⟩ := findRow_some h
    have hf := rows32_faithful r hr
    exact .inr ⟨hs, hf.len _, hf.reencode _ (BitVec.and_allOnes) hh⟩

theorem decode_encode {c : Config} {i : Instr} (hl : c.legal = true) (hi : i.wf c = true) :
    decode c (encode i) = .ok i := by
  obtain ⟨r, ⟨hr, hc⟩ | ⟨hr, hc⟩⟩ := exists_row i
  · obtain ⟨hs, hlong⟩ := rows32_length hr hc.hits
    exact decode_wide hs hlong (findRow_encode hl rows32_excludes hr hc hi)
  · have hw : (r.build (encode i)).wf c = true := by rw [hc.build]; exact hi
    have hwithin : encode i &&& 0xFFFF#32 = encode i := by simpa using hc.within
    refine decode_short (rows16_length hr hc.hits) (ialign16_of_wf hl hr hw) ?_
    rw [hwithin]
    exact findRow_encode hl rows16_excludes hr hc hi

end Sys2Proof

namespace Sys2Proof.Proofs
open Sys2Proof Sys2Proof.Machine

/-- Settles O6: every instruction has a row that matches its encoding and builds it again, and no other row does so. -/
theorem decodeOfEncodeGivesTheInstruction : Obligations.DecodeOfEncodeGivesTheInstruction :=
  fun _ _ hl hi => decode_encode hl hi

/-- Settles O7: the row that matched builds a well-formed instruction, which encodes to the word. -/
theorem decodedInstructionsReencode : Obligations.DecodedInstructionsReencode := by
  intro c w i h
  refine ⟨wf_of_decode h, ?_⟩
  rcases length_of_decode h with ⟨hs, _, hlen, henc⟩ | ⟨hs, hlen, henc⟩ <;> rw [hs]
  · exact ⟨hlen, henc⟩
  · exact ⟨hlen, henc⟩

/-- Settles O8: each word is the encoding of its instruction, which is well formed in the configuration of reset. -/
theorem sampleWordsDecode : Obligations.SampleWordsDecode := by
  have decodes : ∀ {w : InstBits} {i : Instr}, encode i = w → i.wf configReset = true → decode configReset w = .ok i :=
    fun he hi => he ▸ decode_encode (by decide) hi
  exact ⟨decodes rfl rfl, decodes rfl rfl, decodes rfl rfl, decodes rfl rfl, decodes rfl rfl, decodes rfl rfl,
    decodes rfl rfl, decodes rfl rfl, decodes rfl rfl, decodes rfl rfl⟩

end Sys2Proof.Proofs
end

section
/-! PROOFS. Every step keeps the invariant of the machine: jvt takes legal values alone (10_state.md R56), a register takes
values of its width (R30, R40), and pc moves by the length of an instruction or to an aligned target (R35 to R37). -/

namespace Sys2Proof

/-! ### The legal values of jvt (10_state.md R56) -/

theorem clearLow_toNat {n : Nat} (v : BitVec n) (k : Nat) : (v >>> k <<< k).toNat = v.toNat / 2 ^ k * 2 ^ k := by
  rw [BitVec.toNat_shiftLeft, BitVec.toNat_ushiftRight, Nat.shiftLeft_eq, Nat.shiftRight_eq_div_pow]
  exact Nat.mod_eq_of_lt (lt_of_le_of_lt (Nat.div_mul_le_self _ _) v.isLt)

theorem clearLow_mod {n : Nat} (v : BitVec n) {j k : Nat} (h : j ≤ k) : (v >>> k <<< k).toNat % 2 ^ j = 0 := by
  rw [clearLow_toNat]
  exact Nat.mod_eq_zero_of_dvd (Dvd.dvd.mul_left (Nat.pow_dvd_pow 2 h) _)

theorem Config.jvtValue_mod (c : Config) (v : Cell) : (c.jvtValue v).toNat % 64 = 0 := clearLow_mod (j := 6) _ le_rfl

/-- MODE of a legal value is 0. -/
theorem Config.jvtLegal_mod (c : Config) (d : Nat) (v : BitVec c.bits) : (c.jvtLegal d v).toNat % 64 = 0 := by
  unfold Config.jvtLegal
  split
  · exact clearLow_mod (j := 6) v le_rfl
  · split
    · exact clearLow_mod (j := 6) v le_rfl
    · exact c.jvtValue_mod _
    · exact clearLow_mod (j := 6) _ (le_max_left _ _)
    · exact c.jvtValue_mod _

/-- BASE can hold a legal value. -/
theorem Config.jvtHolds_jvtLegal (c : Config) (d : Nat) (v : BitVec c.bits) : c.jvtHolds (c.jvtLegal d v) = true := by
  unfold Config.jvtLegal
  split
  · assumption
  · cases hb : c.jvtBase with
    | any => simp only [Config.jvtHolds, hb]
    | readOnly b => simp only [Config.jvtHolds, hb, beq_self_eq_true]
    | alignedTo k => simp only [Config.jvtHolds, hb, beq_iff_eq]; exact clearLow_mod _ le_rfl
    | oneOf b bs =>
      simp only [Config.jvtHolds, hb]
      have hlt : (Config.jvtChoice d (v.setWidth 128)).toNat % (bs.length + 1) < (b :: bs).length :=
        Nat.mod_lt _ (Nat.succ_pos _)
      refine List.any_eq_true.mpr ⟨_, ?_, beq_self_eq_true _⟩
      rw [List.getD_eq_getElem _ _ hlt]
      exact List.getElem_mem hlt

end Sys2Proof

namespace Sys2Proof.Machine

theorem setWidth_cell (c : Config) (v : BitVec c.bits) : (v.setWidth 128).setWidth c.bits = v := by
  rw [BitVec.setWidth_setWidth_of_le v (bits_le_128 _), BitVec.setWidth_eq]

theorem toNat_cell (c : Config) (v : BitVec c.bits) : (v.setWidth 128).toNat = v.toNat := by
  rw [BitVec.toNat_setWidth]
  exact Nat.mod_eq_of_lt (lt_of_lt_of_le v.isLt (Nat.pow_le_pow_right (by decide) (bits_le_128 _)))

theorem setWidth_cell_toNat {c : Config} {n : Nat} (v : BitVec n) (hn : n ≤ c.bits) :
    (v.setWidth 128).toNat < 2 ^ c.bits := by
  rw [BitVec.toNat_setWidth]
  exact lt_of_le_of_lt (Nat.mod_le _ _) (lt_of_lt_of_le v.isLt (Nat.pow_le_pow_right (by decide) hn))

/-- What jvt reads as, by its cell. -/
theorem readJvt_of_jvt {s : State} {v : BitVec s.cfg.bits} (h : s.jvt = v.setWidth 128) :
    s.readJvt = match s.cfg.jvtBase with | .readOnly b => s.cfg.jvtValue b | _ => v := by
  cases hb : s.cfg.jvtBase <;> simp only [State.readJvt, hb, h, setWidth_cell]

/-! ### jvt along a step -/

theorem jvtOk_congr {s t : State} (hc : t.cfg = s.cfg) (hj : t.jvt = s.jvt) (h : s.jvtOk) : t.jvtOk := by
  have view : ∀ u : State, u.jvtOk = State.jvtOk { State.reset with cfg := u.cfg, jvt := u.jvt } := fun _ => rfl
  rw [view, hc, hj, ← view]; exact h

/-- The write of a legal value. -/
theorem jvtOk_of_jvtLegal {s t : State} (hc : t.cfg = s.cfg) {d : Nat} {v : BitVec s.cfg.bits}
    (hj : t.jvt = (s.cfg.jvtLegal d v).setWidth 128) : t.jvtOk := by
  let u : State := { s with jvt := (s.cfg.jvtLegal d v).setWidth 128 }
  have hu : u.jvt = (u.cfg.jvtLegal d v).setWidth 128 := rfl
  refine jvtOk_congr (s := u) hc hj ⟨?_, ?_⟩
  · rw [hu, toNat_cell]
    exact u.cfg.jvtLegal_mod d v
  · rw [readJvt_of_jvt hu]
    split
    · next b hb => rw [Config.jvtHolds, hb]; exact beq_self_eq_true _
    · exact u.cfg.jvtHolds_jvtLegal d v

theorem csrWrite_jvt (s : State) (a : BitVec 12) (v : BitVec s.cfg.bits) :
    (s.csrWrite a v).jvt = if a = 0x017 then (s.cfg.jvtLegal s.draws v).setWidth 128 else s.jvt := by
  unfold State.csrWrite
  split_ifs <;> simp_all

theorem update_jvtOk {i : Instr} {s t : State} (h : Update i s t) (hs : s.jvtOk) : t.jvtOk := by
  cases h with
  | csrWrite a v _ =>
    by_cases ha : a = 0x017
    · exact jvtOk_of_jvtLegal (s := s) (by simp) ((csrWrite_jvt s a v).trans (if_pos ha))
    · exact jvtOk_congr (by simp) ((csrWrite_jvt s a v).trans (if_neg ha)) hs
  | _ => exact jvtOk_congr (by simp) (by simp) hs

theorem serveControl_jvtOk (s : State) (v : Service) (hs : s.jvtOk) : (s.serveControl v).jvtOk := by
  cases hj : v.jvt with
  | none => exact jvtOk_congr (s := s) (t := s.serveControl v) rfl (by simp only [State.serveControl, hj]) hs
  | some c =>
    exact jvtOk_of_jvtLegal (s := s) (t := s.serveControl v) (d := s.draws) (v := c.setWidth s.cfg.bits) rfl
      (by simp only [State.serveControl, hj])

theorem stable_jvtOk : Stable State.jvtOk where
  update := update_jvtOk
  serve s v h := serve_induct v h (fun _ _ _ => jvtOk_congr (by simp) (by simp))
    (fun _ _ _ => jvtOk_congr (by simp) (by simp)) (fun _ _ => jvtOk_congr (by simp) (by simp))
    fun t => serveControl_jvtOk t v
  congr hs hc _ _ hj _ := jvtOk_congr hc hj hs

/-! ### The widths of the registers along a step -/

theorem widthsOk_congr {s t : State} (hc : t.cfg = s.cfg) (hx : t.x = s.x) (hf : t.f = s.f) (hj : t.jvt = s.jvt)
    (h : s.widthsOk) : t.widthsOk := by
  unfold State.widthsOk at h ⊢
  rw [hc, hx, hf, hj]; exact h

theorem setX_widthsOk {s : State} (r : Reg) {n : Nat} (v : BitVec n) (hn : n ≤ s.cfg.bits) (h : s.widthsOk) :
    (s.setX r v).widthsOk := by
  obtain ⟨hx, hf, hj⟩ := h
  unfold State.setX
  split
  · exact ⟨hx, hf, hj⟩
  · refine ⟨fun q => ?_, hf, hj⟩
    simp only [Fin.getElem_fin, Vector.getElem_set]
    split
    · exact setWidth_cell_toNat v hn
    · exact hx q

theorem setF_widthsOk {s : State} (r : Reg) {v : Cell} (hv : v.toNat < 2 ^ s.cfg.flen) (h : s.widthsOk) :
    (s.setF r v).widthsOk := by
  obtain ⟨hx, hf, hj⟩ := h
  refine ⟨hx, fun q => ?_, hj⟩
  simp only [State.setF, Fin.getElem_fin, Vector.getElem_set]
  split
  · exact hv
  · exact hf q

theorem setWidth_toNat_lt {n : Nat} (v : BitVec n) (m : Nat) : (v.setWidth m).toNat < 2 ^ n := by
  rw [BitVec.toNat_setWidth]
  exact lt_of_le_of_lt (Nat.mod_le _ _) v.isLt

theorem jvt_widthsOk {s t : State} (hc : t.cfg = s.cfg) (hx : t.x = s.x) (hf : t.f = s.f)
    (hj : t.jvt.toNat < 2 ^ s.cfg.bits) (h : s.widthsOk) : t.widthsOk := by
  obtain ⟨hsx, hsf, -⟩ := h
  unfold State.widthsOk
  rw [hc, hx, hf]; exact ⟨hsx, hsf, hj⟩

theorem update_widthsOk {i : Instr} {s t : State} (h : Update i s t) (hs : s.widthsOk) : t.widthsOk := by
  cases h with
  | setX r v hn => exact setX_widthsOk r v hn hs
  | setF r v => exact setF_widthsOk r (setWidth_toNat_lt _ _) hs
  | csrWrite a v _ =>
    refine jvt_widthsOk (by simp) (by simp) (by simp) ?_ hs
    rw [csrWrite_jvt]
    split
    · exact setWidth_toNat_lt _ _
    · exact hs.2.2
  | _ => exact widthsOk_congr (by simp) (by simp) (by simp) (by simp) hs

theorem serveControl_widthsOk (s : State) (v : Service) (hs : s.widthsOk) : (s.serveControl v).widthsOk := by
  refine jvt_widthsOk (s := s) (t := s.serveControl v) rfl rfl rfl ?_ hs
  simp only [State.serveControl]
  split
  · exact hs.2.2
  · exact setWidth_toNat_lt _ _

theorem stable_widthsOk (c : Config) : Stable fun s => s.cfg = c ∧ s.widthsOk where
  update h hs := ⟨(update_cfg h).trans hs.1, update_widthsOk h hs.2⟩
  serve s v hs := serve_induct (P := fun t => t.cfg = c ∧ t.widthsOk) v hs
    (fun _ r d ht => ⟨by simpa using ht.1, setX_widthsOk r _ (by rw [hs.1, ht.1]) ht.2⟩)
    (fun _ r d ht => ⟨ht.1, setF_widthsOk r (by rw [hs.1, ht.1]; exact setWidth_toNat_lt _ _) ht.2⟩)
    (fun _ _ ht => ⟨by simpa using ht.1, widthsOk_congr (by simp) (by simp) (by simp) (by simp) ht.2⟩)
    fun t ht => ⟨ht.1, serveControl_widthsOk t v ht.2⟩
  congr hs hc hx hf hj _ := ⟨hc.trans hs.1, widthsOk_congr hc hx hf hj hs.2⟩

/-! ### pc along a step -/

/-- An address of XLEN bits that an instruction may stand at. -/
def AlignedTarget (c : Config) (v : BitVec c.bits) : Prop := v.toNat % c.ialignBytes = 0

theorem pcOk_of_pc {s t : State} (hc : t.cfg = s.cfg) (hp : t.pc = s.pc) (h : s.pcOk) : t.pcOk := by
  unfold State.pcOk at h ⊢
  rw [hc, hp]; exact h

theorem pcOk_of_target {c : Config} {t : State} (hc : t.cfg = c) {v : BitVec c.bits} (hp : t.pc = v.setWidth 128)
    (hv : AlignedTarget c v) : t.pcOk := by
  subst hc
  unfold State.pcOk
  rw [hp, toNat_cell]
  exact ⟨v.isLt, hv⟩

theorem ialignBytes_dvd (c : Config) : c.ialignBytes ∣ 2 ^ c.bits := by
  unfold Config.ialignBytes
  have h4 : 4 ∣ 2 ^ c.bits := Nat.pow_dvd_pow 2 (m := 2) (by have := bits_ge_32 c; omega)
  split
  · exact Dvd.dvd.trans (by decide) h4
  · exact h4

/-- An instruction's bytes are a multiple of IALIGN/8. -/
def LengthOk (c : Config) (len : Nat) : Prop := len % c.ialignBytes = 0

theorem lengthOk_four (c : Config) : LengthOk c 4 := by
  unfold LengthOk Config.ialignBytes
  split <;> rfl

theorem lengthOk_two {c : Config} (h : c.ialign16 = true) : LengthOk c 2 := by
  unfold LengthOk Config.ialignBytes
  rw [if_pos h]

theorem lengthOk_of_decode {c : Config} {w : InstBits} {i : Instr} (h : decode c w = .ok i) : LengthOk c i.len := by
  rcases length_of_decode h with ⟨-, hc, hl, -⟩ | ⟨-, hl, -⟩ <;> rw [hl]
  · exact lengthOk_two hc
  · exact lengthOk_four c

theorem nextPc_aligned {s : State} (h : s.pcOk) {len : Nat} (hl : LengthOk s.cfg len) :
    AlignedTarget s.cfg (s.nextPc len) := by
  have hd := ialignBytes_dvd s.cfg
  unfold AlignedTarget State.nextPc State.readPc
  rw [BitVec.toNat_add, BitVec.toNat_setWidth, BitVec.toNat_ofNat, ← Nat.add_mod, Nat.mod_mod_of_dvd _ hd, Nat.add_mod,
    h.2, hl]
  simp

theorem alignPc_aligned (s : State) (a : Cell) : AlignedTarget s.cfg (s.alignPc a) := by
  unfold AlignedTarget State.alignPc Config.ialignBytes
  split
  · exact clearLow_mod (j := 1) _ le_rfl
  · exact clearLow_mod (j := 2) _ le_rfl

theorem serviceTarget_aligned {s : State} (h : s.pcOk) {len : Nat} (hl : LengthOk s.cfg len) (v : Service) :
    AlignedTarget s.cfg (s.serviceTarget len v) := by
  rcases serviceTarget_cases s len v with he | ⟨a, he⟩ <;> rw [he]
  · exact nextPc_aligned h hl
  · exact alignPc_aligned s a

theorem raise_pcOk {s : State} (h : s.pcOk) (e : Exc) {len : Nat} (hl : LengthOk s.cfg len) : (s.raise e len).pcOk := by
  rcases raise_cases s e len with he | ⟨v, he⟩ | ⟨v, he | he⟩ <;> rw [he]
  · exact pcOk_of_pc rfl rfl h
  · exact pcOk_of_pc (serve_rest s v).1 (serve_rest s v).2.1 h
  · exact pcOk_of_target (serve_rest s v).1 rfl (serviceTarget_aligned h hl v)
  · exact pcOk_of_target (serve_rest s v).1 rfl (serviceTarget_aligned h hl v)

/-- A transfer of control goes to an aligned target: an instruction that is not checked for it is compressed. -/
theorem target_aligned {s : State} (h : s.pcOk) {len : Nat} (hl : LengthOk s.cfg len) {v : BitVec s.cfg.bits}
    (hv : s.TargetOk len v) : AlignedTarget s.cfg v := by
  obtain ⟨heven, hfour⟩ := hv
  have hpc := h.2
  unfold AlignedTarget
  unfold LengthOk at hl
  unfold Config.ialignBytes at hl hpc ⊢
  cases hc : s.cfg.ialign16 <;> 
    simp only [hc, if_true, if_false, Bool.false_eq_true, false_or] at hl hpc hfour ⊢
  · omega
  · exact heven hpc

theorem exec_pcOk {i : Instr} {s t : State} (hs : s.pcOk) (hl : LengthOk s.cfg i.len) (h : exec i s = .next t) :
    t.pcOk := by
  obtain ⟨u, t', ht, hu, he⟩ := exec_effect i s
  obtain rfl : t = t' := by rw [h] at ht; cases ht; rfl
  have hc : u.cfg = s.cfg := (stable_cfg s.cfg).updates hu rfl
  have hpu : u.pcOk := pcOk_of_pc hc (updates_control hu).2.2 hs
  have hlu : LengthOk u.cfg i.len := hc ▸ hl
  cases he with
  | retire => exact pcOk_of_target (c := u.cfg) rfl rfl (nextPc_aligned hpu hlu)
  | transfer v hv => exact pcOk_of_target (c := s.cfg) hc rfl (target_aligned hs hl hv)
  | raise e => exact raise_pcOk hpu e hlu
  | stall _ => exact pcOk_of_pc rfl rfl hs

theorem ialign16_of_bits16 {s : State} {w : InstBits} (h : s.fetch = .bits16 w) : s.cfg.ialign16 = true := by
  unfold State.fetch at h
  simp only at h
  split_ifs at h with _ hs _
  exact (Bool.and_eq_true_iff.mp hs).2

theorem step_pcOk {s t : State} (h : step s = .next t) (hs : s.pcOk) : t.pcOk := by
  rcases step_cases h with ⟨-, rfl | rfl⟩ | rfl | ⟨w, i, -, hd, h⟩ | ⟨w, e, hf, rfl⟩ | ⟨e, rfl⟩
  · exact pcOk_of_pc rfl rfl hs
  · exact pcOk_of_target (c := s.cfg) rfl rfl (nextPc_aligned hs (lengthOk_four _))
  · rcases takeInterrupt_cases s with he | he <;> rw [he] <;> exact pcOk_of_pc rfl rfl hs
  · exact exec_pcOk hs (lengthOk_of_decode hd) h
  · exact raise_pcOk hs e (lengthOk_two (ialign16_of_bits16 hf))
  · exact raise_pcOk hs e (lengthOk_four _)

end Sys2Proof.Machine

namespace Sys2Proof.Proofs
open Sys2Proof Sys2Proof.Machine

/-- Settles O3: each part of the invariant is kept by every update, service and ending of a step. -/
theorem stepKeepsTheInvariant : Obligations.StepKeepsTheInvariant := fun _ _ hs h =>
  { legal := by rw [step_cfg h]; exact hs.legal
    mem := stable_memOk.step h hs.mem
    pc := step_pcOk h hs.pc
    jvt := stable_jvtOk.step h hs.jvt
    widths := ((stable_widthsOk _).step h ⟨rfl, hs.widths⟩).2 }

/-- Settles O1, from the definition of the reset state. -/
theorem resetValuesAreTheLogs : Obligations.ResetValuesAreTheLogs := by
  have hx : ∀ (r : Reg) (n : Nat), State.reset.readX n r = 0 := fun r n => by
    simp [State.readX, State.reset, BitVec.setWidth_zero]
  have hf : ∀ r : Reg, State.reset.readF r = 0 := fun r => by simp [State.readF, State.reset]
  exact ⟨rfl, rfl, hx, hf, rfl, rfl, rfl, rfl, rfl, rfl, rfl, rfl, rfl, fun _ => rfl, rfl, rfl, rfl⟩

/-- Settles O2: the values of reset are within every bound. -/
theorem resetMeetsTheInvariant : Obligations.ResetMeetsTheInvariant where
  legal := by decide
  mem := rfl
  pc := ⟨by decide, by decide⟩
  jvt := ⟨by decide, by decide⟩
  widths := ⟨by decide, by decide, by decide⟩

end Sys2Proof.Proofs
end

section
/-! PROOFS. Steps: a ready hart runs what is at pc, the bytes at pc are the instruction run (20_memory.md R73), and what the
environment's action leaves of the state (60_exceptions.md R751, R752, R761, R773). -/

namespace Sys2Proof.Machine

/-! ### A ready hart -/

theorem step_ready {s : State} (h : s.Ready) : step s = fetchAndExecute s := by
  simp only [step, h.live, runHart, h.awake, h.quiet, Bool.false_eq_true, if_false]

theorem step_of_fetch {s : State} (h : s.Ready) {w : InstBits} {i : Instr}
    (hf : s.fetch = .bits16 w ∨ s.fetch = .bits32 w) (hd : decode s.cfg w = .ok i) : step s = exec i s := by
  rw [step_ready h]
  rcases hf with hf | hf <;> simp only [fetchAndExecute, hf, execBits, hd]

theorem step_of_undefined {s : State} (h : s.Ready) {w : InstBits} {e : DecodeError} (hd : decode s.cfg w = .error e) :
    (s.fetch = .bits16 w → step s = .next (s.raise (.illegalInstruction w) 2)) ∧
      (s.fetch = .bits32 w → step s = .next (s.raise (.illegalInstruction w) 4)) := by
  rw [step_ready h]
  constructor <;> intro hf <;> simp only [fetchAndExecute, hf, execBits, hd]

theorem step_halted {s : State} {r : TrapReport} (h : s.halted = some r) : step s = .fault (.hartTerminated r) := by
  simp only [step, h]

/-! ### The bytes at pc -/

theorem FetchesCurrent.mono {s : State} {a b n m : Nat} (h : s.FetchesCurrent a n)
    (hs : ∀ c ∈ span s.cfg.bits b m, c ∈ span s.cfg.bits a n) : s.FetchesCurrent b m :=
  fun store hst p hp hmem => h store hst p hp (hs _ hmem)

theorem fetchable_mono {c : Config} {a b n m : Nat} (h : c.fetchable a n = true)
    (hs : ∀ d ∈ span c.bits b m, d ∈ span c.bits a n) : c.fetchable b m = true := by
  unfold Config.fetchable Config.allIn at *
  rw [List.all_eq_true] at *
  exact fun d hd => h d (hs d hd)

/-- The bytes of a parcel within an access are bytes of the access. -/
theorem span_parcel {bits a n j : Nat} (hj : j + 2 ≤ n) : ∀ c ∈ span bits ((a + j) % 2 ^ bits) 2, c ∈ span bits a n := by
  intro c hc
  obtain ⟨k, hk, rfl⟩ := (mem_span _ _ _ _).mp hc
  exact (mem_span _ _ _ _).mpr ⟨j + k, by omega, by rw [Nat.mod_add_mod, Nat.add_assoc]⟩

/-- A fetch that sees the bytes of memory returns the parcel they make, little-endian. -/
theorem fetchParcel_of_bytes {s : State} {a j : Nat} {w : InstBits} (hc : s.FetchesCurrent a 2)
    (h0 : s.byte (a % 2 ^ s.cfg.bits) = w.extractLsb' j 8)
    (h1 : s.byte ((a + 1) % 2 ^ s.cfg.bits) = w.extractLsb' (j + 8) 8) : s.fetchParcel a = w.extractLsb' j 16 := by
  rw [State.fetchParcel, parcelBytes_current s a hc, h0, h1]
  apply BitVec.eq_of_toNat_eq
  have hj : w.toNat / 2 ^ (j + 8) = w.toNat / 2 ^ j / 256 := by rw [Nat.pow_add, ← Nat.div_div_eq_div_mul]
  simp only [leToNat, BitVec.toNat_ofNat, BitVec.extractLsb'_toNat, Nat.shiftRight_eq_div_pow, hj]
  omega

theorem extractLsb'_zero_setWidth {n : Nat} (w : BitVec n) (m : Nat) : w.extractLsb' 0 m = w.setWidth m := by
  apply BitVec.eq_of_toNat_eq
  rw [BitVec.extractLsb'_toNat, BitVec.toNat_setWidth, Nat.shiftRight_zero]

theorem setWidth_low16 (w : InstBits) : (w.setWidth 16).setWidth 32 = w &&& 0xFFFF#32 := by
  apply BitVec.eq_of_toNat_eq
  rw [BitVec.toNat_and, BitVec.toNat_setWidth, BitVec.toNat_setWidth]
  exact (Nat.mod_eq_of_lt (by omega)).trans (Nat.and_two_pow_sub_one_eq_mod w.toNat 16).symm

theorem fetch_of_bytes {s : State} {i : Instr} (hl : s.cfg.legal = true) (hi : i.wf s.cfg = true)
    (hc : s.FetchesCurrent s.pc.toNat i.len) (hp : s.cfg.fetchable s.pc.toNat i.len = true)
    (hb : ∀ k, k < i.len → s.byte ((s.pc.toNat + k) % 2 ^ s.cfg.bits) = (encode i).extractLsb' (8 * k) 8) :
    s.fetch = .bits16 (encode i) ∨ s.fetch = .bits32 (encode i) := by
  have hlen := length_of_decode (decode_encode hl hi)
  have h2 : 2 ≤ i.len := by rcases hlen with ⟨-, -, hlen, -⟩ | ⟨-, hlen, -⟩ <;> omega
  have hsub : ∀ c ∈ span s.cfg.bits s.pc.toNat 2, c ∈ span s.cfg.bits s.pc.toNat i.len := fun c hc => by
    obtain ⟨k, hk, rfl⟩ := (mem_span _ _ _ _).mp hc
    exact (mem_span _ _ _ _).mpr ⟨k, by omega, rfl⟩
  have hp0 : s.fetchParcel s.pc.toNat = (encode i).setWidth 16 := by
    rw [fetchParcel_of_bytes (w := encode i) (j := 0) (FetchesCurrent.mono hc hsub) (hb 0 (by omega)) (hb 1 (by omega)),
      extractLsb'_zero_setWidth]
  have hf0 : s.cfg.fetchable s.pc.toNat 2 = true := fetchable_mono hp hsub
  unfold State.fetch
  simp only [hf0, hp0, if_true]
  rcases hlen with ⟨hs, h16, -, henc⟩ | ⟨hs, h4, -⟩
  · rw [hs, h16]
    refine .inl (congrArg Fetched.bits16 ?_)
    rw [setWidth_low16]; exact henc.symm
  · rw [h4] at hc hp hb
    have hf2 := fetchable_mono hp (span_parcel (j := 2) le_rfl)
    have hp2 : s.fetchParcel ((s.pc.toNat + 2) % 2 ^ s.cfg.bits) = (encode i).extractLsb' 16 16 :=
      fetchParcel_of_bytes (FetchesCurrent.mono hc (span_parcel (j := 2) le_rfl))
        (by rw [Nat.mod_mod]; exact hb 2 (by decide))
        (by rw [Nat.mod_add_mod, Nat.add_assoc]; exact hb 3 (by decide))
    rw [hs, hf2, hp2]
    refine .inr (congrArg Fetched.bits32 ?_)
    have halves : (encode i).extractLsb' 16 16 ++ (encode i).extractLsb' 0 16 = (encode i).extractLsb' 0 (16 + 16) :=
      BitVec.extractLsb'_append_extractLsb'_eq_extractLsb' (Nat.zero_add 16).symm
    rw [← extractLsb'_zero_setWidth, halves, BitVec.extractLsb'_eq_self]

/-! ### Interrupts and fatal exceptions -/

theorem takeInterrupt_keepsPc (s : State) : s.takeInterrupt.pc = s.pc ∧ s.takeInterrupt.instret = s.instret := by
  rcases takeInterrupt_cases s with h | h <;> rw [h] <;> exact ⟨rfl, rfl⟩

theorem takeInterrupt_fatal {s : State} (h : s.trapAction (.interrupt s.interruptCause) = .fatal) :
    s.takeInterrupt = s.terminate (.interrupt s.interruptCause) := by
  simp only [State.takeInterrupt, h]

theorem takeInterrupt_served {s : State} (h : s.trapAction (.interrupt s.interruptCause) ≠ .fatal) :
    s.takeInterrupt = { s.tick with interruptPending := false } := by
  have hs : s.trapAction (.interrupt s.interruptCause) = .invisible :=
    (trapAction_cases s _).resolve_left h
  simp only [State.takeInterrupt, hs]

/-! ### Services -/

theorem raise_requested {s : State} {e : Exc} (h : s.trapAction e = .requested) (len : Nat) :
    s.raise e len = s.resume e len (Config.service s e) := by
  simp only [State.raise, h]

theorem raise_invisible {s : State} {e : Exc} (h : s.trapAction e = .invisible) (len : Nat) :
    s.raise e len = s.emulate len (Config.service s e) := by
  simp only [State.raise, h]

theorem resume_instret (s : State) (e : Exc) (len : Nat) (v : Service) :
    (s.resume e len v).instret = s.instret ∧ (s.resume e len v).cfg = s.cfg := by
  obtain ⟨hc, -, hi, -⟩ := serve_rest s v
  unfold State.resume
  split
  · exact ⟨rfl, rfl⟩
  · exact ⟨hi, hc⟩

theorem emulate_instret (s : State) (len : Nat) (v : Service) :
    (s.emulate len v).instret = (if v.retry then s.instret else s.instret + 1) ∧ (s.emulate len v).cfg = s.cfg := by
  obtain ⟨hc, -, hi, -⟩ := serve_rest s v
  unfold State.emulate
  split
  · exact ⟨hi, hc⟩
  · exact ⟨congrArg (· + 1) hi, hc⟩

/-- A field that a service may write is left as it says. -/
theorem eq_none_or_some_getD {α : Type} (o : Option α) (d : α) : o = none ∨ o = some (o.getD d) := by
  cases o
  · exact .inl rfl
  · exact .inr rfl

theorem alignPc_toNat (s : State) (a : Cell) :
    (s.alignPc a).toNat = a.toNat % 2 ^ s.cfg.bits / s.cfg.ialignBytes * s.cfg.ialignBytes := by
  unfold State.alignPc Config.ialignBytes
  split <;> rw [clearLow_toNat, BitVec.toNat_setWidth] <;> rfl

/-- Only pc, instret and time differ. -/
theorem keepsRest_tick_pc (s : State) (p : Cell) (n : BitVec 64) :
    s.KeepsRest { s.tick with pc := p, instret := n } [] [] [] :=
  { x := fun _ _ _ => rfl, f := fun _ _ => rfl, mem := fun _ _ => rfl, cfg := rfl, frm := rfl, jvt := rfl, stalled := rfl
    halted := rfl, pending := rfl, enabled := rfl, cause := rfl, fflags := rfl, reservation := rfl, ioTrace := rfl
    stale := rfl }

/-- An exception that is a request leaves instret. -/
theorem raise_request_instret {e : Exc} (h : e.isRequest = true) (s : State) (len : Nat) :
    (s.raise e len).instret = s.instret := by
  rcases raise_request s len h with h | h <;> rw [h]
  · rfl
  · exact (resume_instret s e len _).1

theorem trapAction_allFatal {s : State} (h : s.allFatal) (e : Exc) : s.trapAction e = .fatal := trapAction_fatal (h e)

theorem raise_allFatal {s : State} (h : s.allFatal) (e : Exc) (len : Nat) : s.raise e len = s.terminate e :=
  raise_fatal (trapAction_allFatal h e) len

end Sys2Proof.Machine

namespace Sys2Proof.Proofs
open Sys2Proof Sys2Proof.Machine

/-- Settles O9, from the definition of the step. -/
theorem stepRunsTheDecodedInstruction : Obligations.StepRunsTheDecodedInstruction :=
  fun _ _ _ hr hf hd => step_of_fetch hr hf hd

/-- Settles O10: the bytes at pc are fetched as they stand, and the encoding decodes to the instruction (O6). -/
theorem bytesAtPcAreTheInstructionRun : Obligations.BytesAtPcAreTheInstructionRun :=
  fun _ _ hr hl hi hc hp hb => step_of_fetch hr (fetch_of_bytes hl hi hc hp hb) (decode_encode hl hi)

/-- Settles O11: the cases of the step in which no instruction is executed. -/
theorem stepsThatRunNoInstruction : Obligations.StepsThatRunNoInstruction := by
  refine fun s => ⟨fun r h => step_halted h, fun hl ha hp he => ?_, fun h => takeInterrupt_fatal h, fun h => ?_,
    fun hr => ⟨fun w e hf hd => (step_of_undefined hr hd).1 hf, fun w e hf hd => (step_of_undefined hr hd).2 hf, fun hf => ?_⟩⟩
  · refine ⟨?_, takeInterrupt_keepsPc s⟩
    simp only [step, hl, runHart, ha, hp, he, Bool.and_self, Bool.false_eq_true, if_false, if_true]
  · rw [takeInterrupt_served h]; rfl
  · rw [step_ready hr]; simp only [fetchAndExecute, hf]

/-- Settles O12: a fatal exception terminates the hart, and a terminated hart takes no step. -/
theorem fatalTrapChangesNothingButTheReport : Obligations.FatalTrapChangesNothingButTheReport := by
  intro s e len h
  rw [raise_fatal h]
  refine ⟨rfl, fun t ht => ?_⟩
  rw [step_halted (r := { cause := e, pc := s.pc }) rfl] at ht
  cases ht

/-- Settles O13: what the return from a trap does beside the service, and a service that writes nothing. -/
theorem servicedTrapResumesOrCompletes : Obligations.ServicedTrapResumesOrCompletes := by
  refine fun s e len => ⟨fun h => raise_requested h len, fun h => raise_invisible h len, fun v => ?_, fun v => ?_,
    fun target => ?_⟩
  · obtain ⟨hri, hrc⟩ := resume_instret s e len v
    obtain ⟨hei, hec⟩ := emulate_instret s len v
    exact ⟨hri, hrc, hei, hec⟩
  · exact ⟨fun h => if_pos h, eq_none_or_some_getD _ _, eq_none_or_some_getD _ _, eq_none_or_some_getD _ _⟩
  · intro quiet t u w
    have hserve : s.serve quiet = s := serve_nothing s
    have ht : t = { s.tick with pc := (s.serviceTarget len quiet).setWidth 128, instret := s.instret } := by
      unfold t State.resume
      rw [hserve]; rfl
    have hu : u = { s.tick with pc := (s.serviceTarget len quiet).setWidth 128, instret := s.instret + 1 } := by
      unfold u State.emulate
      rw [hserve]; rfl
    have hw : w = { s.tick with pc := s.pc, instret := s.instret } := by
      show (s.serve quiet).tick = _
      rw [hserve]; rfl
    rw [ht, hu, hw]
    refine ⟨?_, ?_, rfl, rfl, rfl, rfl, keepsRest_tick_pc _ _ _, keepsRest_tick_pc _ _ _, keepsRest_tick_pc _ _ _⟩
    · rintro rfl; exact ⟨rfl, rfl⟩
    · rintro a rfl
      exact ⟨(toNat_cell _ _).trans (alignPc_toNat s a), rfl⟩

/-- Settles O14: the four raise, and requests are returned from without retiring. -/
theorem callsBreakpointsAndZerosRaise : Obligations.CallsBreakpointsAndZerosRaise := by
  intro s
  have hecall : Raises .ecall s .environmentCall 4 := rfl
  have hebreak : Raises .ebreak s (.breakpoint s.pc) 4 := rfl
  have hcEbreak : Raises .cEbreak s (.breakpoint s.pc) 2 := rfl
  have hcIllegal : Raises .cIllegal s (.illegalInstruction 0) 2 := rfl
  have kept : ∀ {i : Instr} {e : Exc} {len : Nat}, Raises i s e len → e.isRequest = true →
      ∀ t, exec i s = .next t → t.instret = s.instret := by
    intro i e len h he t ht
    obtain rfl : t = s.raise e len := by rw [h] at ht; cases ht; rfl
    exact raise_request_instret he s len
  have ends : ∀ {i : Instr} {e : Exc} {len : Nat}, Raises i s e len → s.allFatal → exec i s = .next (s.terminate e) :=
    fun h hf => h.trans (congrArg _ (raise_allFatal hf _ _))
  refine ⟨hecall, hebreak, hcEbreak, hcIllegal, ?_, fun hf => ?_⟩
  · simp only [List.forall_mem_cons, List.not_mem_nil, false_imp_iff, implies_true, and_true]
    exact ⟨kept hecall rfl, kept hebreak rfl, kept hcEbreak rfl⟩
  · simp only [List.forall_mem_cons, List.not_mem_nil, false_imp_iff, implies_true, and_true]
    exact ⟨ends hecall hf, ends hebreak hf, ends hcEbreak hf, ends hcIllegal hf⟩

end Sys2Proof.Proofs
end

section
/-! PROOFS. The integer instructions: results (40_rv32i.md, 42_rv64i_rv128i.md, 43_m_a.md, 47_c_zimop_zcmop.md, 49_zc.md),
and the instructions without an effect (41_zifencei_hints_rv32e.md). -/

namespace Sys2Proof.Machine

/-- An instruction that writes the value of a model's operation to rd, with the value in the statement's terms. -/
theorem writesX_of_eq {i : Instr} {s : State} {len : Nat} {rd : Reg} {r v : BitVec s.cfg.bits}
    (h : exec i s = .next ((s.setX rd r).retire len)) (hv : r = v) : WritesX i s len rd v :=
  hv ▸ writesX_of_exec h

/-- A right shift that keeps the sign is the floor of the quotient by the power of two. -/
theorem writesX_of_sra {i : Instr} {s : State} {len k : Nat} {rd rs1 : Reg}
    (h : exec i s = opShift len rd rs1 k shiftRightArith s) :
    WritesX i s len rd (BitVec.ofInt s.cfg.bits ((s.readX s.cfg.bits rs1).toInt / 2 ^ k)) :=
  writesX_of_eq h (sshiftRight_eq _ _ _)

/-! ### The conditions of the branches -/

theorem condEq_iff (n : Nat) (a b : BitVec n) : condEq n a b = true ↔ a = b := beq_iff_eq

theorem condNe_iff (n : Nat) (a b : BitVec n) : condNe n a b = true ↔ a ≠ b := bne_iff_ne

theorem condLt_iff (n : Nat) (a b : BitVec n) : condLt n a b = true ↔ a.toInt < b.toInt := BitVec.slt_iff_toInt_lt

theorem condGe_iff (n : Nat) (a b : BitVec n) : condGe n a b = true ↔ b.toInt ≤ a.toInt := by
  rw [condGe, Bool.not_eq_true', ← Bool.not_eq_true, BitVec.slt_iff_toInt_lt, not_lt]

theorem condLtu_iff (n : Nat) (a b : BitVec n) : condLtu n a b = true ↔ a.toNat < b.toNat := BitVec.ult_iff_toNat_lt

theorem condGeu_iff (n : Nat) (a b : BitVec n) : condGeu n a b = true ↔ b.toNat ≤ a.toNat := by
  rw [condGeu, Bool.not_eq_true', ← Bool.not_eq_true, BitVec.ult_iff_toNat_lt, not_lt]

end Sys2Proof.Machine

namespace Sys2Proof.Proofs
open Sys2Proof Sys2Proof.Machine

/-- Settles O16: each instruction is its integer operation on the register and the immediate. -/
theorem immediateInstructionsWriteTheirResult : Obligations.ImmediateInstructionsWriteTheirResult := by
  refine ⟨fun s rd rs1 imm imm20 => ?_, fun s rd rs1 s32 s64 s128 => ?_⟩
  · refine ⟨?addi, ?slti, ?sltiu, ?xori, ?ori, ?andi, ?lui, ?auipc⟩
    case slti => exact writesX_of_eq rfl (intSlt_eq _ _ _)
    case sltiu => exact writesX_of_eq rfl (intSltu_eq _ _ _)
    case lui => exact writesX_of_eq rfl (immU_eq _ _)
    case auipc => exact writesX_of_eq rfl (congrArg (s.readPc s.cfg.bits + ·) (immU_eq _ _))
    case addi | xori | ori | andi => exact writesX_of_exec rfl
  · refine ⟨?slli32, ?srli32, ?srai32, ?slli64, ?srli64, ?srai64, ?slli128, ?srli128, ?srai128⟩
    case srai32 | srai64 | srai128 => exact writesX_of_sra rfl
    case slli32 | srli32 | slli64 | srli64 | slli128 | srli128 => exact writesX_of_exec rfl

/-- Settles O18: each instruction is the integer operation of its name, at width XLEN or at width 32. -/
theorem multiplyAndDivideWriteTheirResult : Obligations.MultiplyAndDivideWriteTheirResult := by
  refine ⟨fun s rd rs1 rs2 => ?_, fun s rd rs1 rs2 => ?_⟩
  · exact ⟨writesX_of_opReg rfl (intMul_eq _ _ _), writesX_of_opReg rfl (intMulh_eq _ _ _),
      writesX_of_opReg rfl (intMulhsu_eq _ _ _), writesX_of_opReg rfl (intMulhu_eq _ _ _),
      writesX_of_opReg rfl (intDiv_eq _ _ _), writesX_of_opReg rfl (intDivu_eq _ _ _),
      writesX_of_opReg rfl (intRem_eq _ _ _), writesX_of_opReg rfl (intRemu_eq _ _ _)⟩
  · exact ⟨writesX_of_word rfl (intMul_eq _ _ _), writesX_of_word rfl (intDiv_eq _ _ _),
      writesX_of_word rfl (intDivu_eq _ _ _), writesX_of_word rfl (intRem_eq _ _ _),
      writesX_of_word rfl (intRemu_eq _ _ _)⟩

/-- Settles O20: each compressed instruction is the operation it stands for, 2 bytes long. -/
theorem compressedArithmeticWritesItsResult : Obligations.CompressedArithmeticWritesItsResult := by
  refine ⟨fun s rd rs2 rdp rs2p imm nzimm shamt nzuimm => ?_, fun s rdp rs2p => ?_⟩
  · refine ⟨?addi4spn, ?addi, ?addiw, ?li, ?lui, ?addi16sp, ?andi, ?sub, ?xor, ?or, ?and, ?subw, ?addw, ?mv, ?add, ?srli,
      ?srai, ?slli⟩
    case addi4spn => exact writesX_of_eq rfl (congrArg (s.readX s.cfg.bits 2 + ·) (append_zero_setWidth nzuimm 2 _))
    case lui => exact writesX_of_eq rfl (append_zero_signExtend imm 12 _)
    case addi16sp =>
      exact writesX_of_eq rfl (congrArg (s.readX s.cfg.bits 2 + ·) (append_zero_signExtend nzimm 4 _))
    case srai => exact writesX_of_sra rfl
    case addi | addiw | li | andi | sub | xor | or | and | subw | addw | mv | add | srli | slli =>
      exact writesX_of_exec rfl
  · refine ⟨?zextB, ?sextB, ?zextH, ?sextH, ?zextW, ?not, ?mul⟩
    case mul => exact writesX_of_opReg rfl (intMul_eq_nat _ _ _)
    case zextB | sextB | zextH | sextH | zextW | not => exact writesX_of_exec rfl

/-- Settles O21: a may-be operation writes 0, and a hint, fence or prefetch is a retirement alone. -/
theorem mayBeOperationsHintsAndFences : Obligations.MayBeOperationsHintsAndFences := by
  refine ⟨fun s rd rs1 rs2 => ?_, fun s rs1 rd fm pred succ off imm => ⟨?_, ?_⟩⟩
  · repeat refine List.forall_mem_cons.mpr ⟨writesX_of_exec rfl, ?_⟩
    exact List.forall_mem_nil _
  · repeat refine List.forall_mem_cons.mpr ⟨noEffect_of_exec rfl, ?_⟩
    exact List.forall_mem_nil _
  · repeat refine List.forall_mem_cons.mpr ⟨noEffect_of_exec rfl, ?_⟩
    exact List.forall_mem_nil _

/-- Settles O22: FENCE.I forgets every older value that a fetch may return. -/
theorem fenceISynchronisesTheFetch : Obligations.FenceISynchronisesTheFetch := by
  intro s imm rs1 rd
  let t : State := s.syncFetch.retire 4
  have hstale : t.stale = [] := rfl
  refine ⟨t, rfl, ⟨rfl, rfl⟩, (syncFetch_keeps s).trans (retire_keeps _ 4).toKeeps, rfl, rfl, rfl, hstale, fun a => ?_⟩
  have hparcel := parcelBytes_current t a fun store hs => by rw [hstale] at hs; cases hs
  refine ⟨hparcel, fun hio => ?_⟩
  have hload : ∀ k < 2, t.loadByte ((a + k) % 2 ^ t.cfg.bits) = t.byte ((a + k) % 2 ^ t.cfg.bits) := fun k hk => by
    rw [State.loadByte, hio _ ((mem_span _ _ _ _).mpr ⟨k, hk, rfl⟩)]; rfl
  rw [hparcel]
  show _ = [t.loadByte ((a + 0) % 2 ^ t.cfg.bits), t.loadByte ((a + 1) % 2 ^ t.cfg.bits)]
  rw [hload 0 (by decide), hload 1 (by decide)]; rfl

/-- Settles O23: each jump is `jump` with the target of its operands. -/
theorem jumpsGoToTheirTarget : Obligations.JumpsGoToTheirTarget := by
  intro s rd rs1 off imm coff
  simp only [← pcRel_eq, ← jalrTarget_zero]
  exact ⟨jumpsTo_of_exec (target := fun s => s.pcRel off) rfl, jumpsTo_of_exec (target := fun s => s.jalrTarget rs1 imm) rfl,
    jumpsTo_of_exec (target := fun s => s.pcRel coff) rfl, jumpsTo_of_exec (target := fun s => s.pcRel coff) rfl,
    jumpsTo_of_exec (target := fun s => s.jalrTarget rs1 0) rfl, jumpsTo_of_exec (target := fun s => s.jalrTarget rs1 0) rfl⟩

/-- Settles O24: each branch is `branch` with its condition. -/
theorem branchesTakenAndNotTaken : Obligations.BranchesTakenAndNotTaken := by
  intro s rs1 rs2 rs1p off coff
  simp only [← pcRel_eq]
  exact ⟨branchesTo_of_exec rfl (condEq_iff _ _ _), branchesTo_of_exec rfl (condNe_iff _ _ _),
    branchesTo_of_exec rfl (condLt_iff _ _ _), branchesTo_of_exec rfl (condGe_iff _ _ _),
    branchesTo_of_exec rfl (condLtu_iff _ _ _), branchesTo_of_exec rfl (condGeu_iff _ _ _),
    branchesTo_of_exec rfl (condEq_iff _ _ _), branchesTo_of_exec rfl (condNe_iff _ _ _)⟩

/-- Settles O25: `jump` and a taken `branch` raise before the link is written. -/
theorem misalignedTargetsRaiseOnTheTransfer : Obligations.MisalignedTargetsRaiseOnTheTransfer := by
  intro s rd rs1 rs2 off imm boff hi
  simp only [← pcRel_eq]
  refine ⟨jump_raises (target := fun s => s.pcRel off) rfl hi,
    jump_raises (target := fun s => s.jalrTarget rs1 imm) rfl hi, fun ht => ?_⟩
  exact ⟨fun h => branch_raises rfl ((condEq_iff _ _ _).mpr h) hi ht,
    fun h => branch_raises rfl ((condNe_iff _ _ _).mpr h) hi ht,
    fun h => branch_raises rfl ((condLt_iff _ _ _).mpr h) hi ht,
    fun h => branch_raises rfl ((condGe_iff _ _ _).mpr h) hi ht,
    fun h => branch_raises rfl ((condLtu_iff _ _ _).mpr h) hi ht,
    fun h => branch_raises rfl ((condGeu_iff _ _ _).mpr h) hi ht⟩

end Sys2Proof.Proofs
end

section
/-! PROOFS. The loads and stores (40_rv32i.md, 42_rv64i_rv128i.md, 45_f.md to 47_c_zimop_zcmop.md, 49_zc.md): values, the
bytes written, completion and exceptions (20_memory.md R72, R77 to R82). -/

namespace Sys2Proof.Machine

/-! ### A load or store that nothing stops completes -/

/-- The instruction completes and retires, and changes no byte outside the listed ones. -/
def Completes (i : Instr) (s : State) (len : Nat) (bytes : List Nat) : Prop :=
  ∃ t, exec i s = .next t ∧ s.RetiredTo t (s.after len) ∧ t.halted = s.halted ∧ ∀ a, a ∉ bytes → t.byte a = s.byte a

theorem loadX_completes {i : Instr} {s : State} {len n : Nat} {signed : Bool} {rd : Reg} {ea : State → Nat}
    (he : exec i s = loadX len n signed rd ea s) (h : s.Accesses true (ea s) n .load) : Completes i s len [] := by
  obtain ⟨t, ht, -, hret, hkeep, -⟩ := loadsX_of_exec he h
  exact ⟨t, ht, hret, hkeep.halted, hkeep.mem⟩

theorem loadF_completes {i : Instr} {s : State} {len : Nat} {f : Fmt} {rd : Reg} {ea : State → Nat}
    (he : exec i s = loadF len f rd ea s) (n : Nat) (hn : f.width = 8 * n)
    (h : s.Accesses (s.fpGranule n) (ea s) n .load) : Completes i s len [] := by
  obtain ⟨t, ht, -, hret, hkeep, -⟩ := loadsF_of_exec he n hn h
  exact ⟨t, ht, hret, hkeep.halted, hkeep.mem⟩

/-- A write and a retirement. -/
theorem completes_of_write {i : Instr} {s : State} {len ea n v : Nat}
    (h : exec i s = .next ((s.writeMem ea n v).retire len)) : Completes i s len (span s.cfg.bits ea n) := by
  have hpc : (s.writeMem ea n v).after len = s.after len := after_congr (by simp) (by simp) len
  refine ⟨_, h, ⟨hpc, congrArg (· + 1) (by simp)⟩, (by simp : (s.writeMem ea n v).halted = s.halted), fun a ha => ?_⟩
  exact writeMem_byte_ne s ea n v a ha

theorem storeX_completes {i : Instr} {s : State} {len n : Nat} {rs2 : Reg} {ea : State → Nat}
    (he : exec i s = storeX len n rs2 ea s) (h : s.Accesses true (ea s) n .store) :
    Completes i s len (span s.cfg.bits (ea s) n) :=
  completes_of_write (he.trans (by rw [storeX, store_of_accesses h]))

theorem storeF_completes {i : Instr} {s : State} {len : Nat} {f : Fmt} {rs2 : Reg} {ea : State → Nat}
    (he : exec i s = storeF len f rs2 ea s) (n : Nat) (hn : f.width = 8 * n)
    (h : s.Accesses (s.fpGranule n) (ea s) n .store) : Completes i s len (span s.cfg.bits (ea s) n) := by
  have hb : f.width / 8 = n := by omega
  rw [← magFp_eq s f n hn] at h
  exact completes_of_write (he.trans (by rw [storeF, hb, store_of_accesses h]))

theorem loadForm_completes {i : Instr} {s : State} {len n ea : Nat} (hf : i.loadForm s = some (len, n, ea))
    (h : s.Accesses (i.granule s n) ea n .load) : Completes i s len [] := by
  cases i with
  | lb _ rs1 imm => cases hf; exact loadX_completes (ea := fun s => s.ea rs1 imm) rfl h
  | lh _ rs1 imm => cases hf; exact loadX_completes (ea := fun s => s.ea rs1 imm) rfl h
  | lw _ rs1 imm => cases hf; exact loadX_completes (ea := fun s => s.ea rs1 imm) rfl h
  | lbu _ rs1 imm => cases hf; exact loadX_completes (ea := fun s => s.ea rs1 imm) rfl h
  | lhu _ rs1 imm => cases hf; exact loadX_completes (ea := fun s => s.ea rs1 imm) rfl h
  | ld _ rs1 imm => cases hf; exact loadX_completes (ea := fun s => s.ea rs1 imm) rfl h
  | lwu _ rs1 imm => cases hf; exact loadX_completes (ea := fun s => s.ea rs1 imm) rfl h
  | flw _ rs1 imm => cases hf; exact loadF_completes (f := .s) (ea := fun s => s.ea rs1 imm) rfl 4 rfl h
  | fld _ rs1 imm => cases hf; exact loadF_completes (f := .d) (ea := fun s => s.ea rs1 imm) rfl 8 rfl h
  | flq _ rs1 imm => cases hf; exact loadF_completes (f := .q) (ea := fun s => s.ea rs1 imm) rfl 16 rfl h
  | flh _ rs1 imm => cases hf; exact loadF_completes (f := .h) (ea := fun s => s.ea rs1 imm) rfl 2 rfl h
  | cFld _ rs1p uimm => cases hf; exact loadF_completes (f := .d) (ea := fun s => s.eaScaled (wideReg rs1p) uimm 3) rfl 8 rfl h
  | cLq _ rs1p uimm => cases hf; exact loadX_completes (ea := fun s => s.eaScaled (wideReg rs1p) uimm 4) rfl h
  | cLw _ rs1p uimm => cases hf; exact loadX_completes (ea := fun s => s.eaScaled (wideReg rs1p) uimm 2) rfl h
  | cFlw _ rs1p uimm => cases hf; exact loadF_completes (f := .s) (ea := fun s => s.eaScaled (wideReg rs1p) uimm 2) rfl 4 rfl h
  | cLd _ rs1p uimm => cases hf; exact loadX_completes (ea := fun s => s.eaScaled (wideReg rs1p) uimm 3) rfl h
  | cFldsp _ uimm => cases hf; exact loadF_completes (f := .d) (ea := fun s => s.eaScaled 2 uimm 3) rfl 8 rfl h
  | cLqsp _ uimm => cases hf; exact loadX_completes (ea := fun s => s.eaScaled 2 uimm 4) rfl h
  | cLwsp _ uimm => cases hf; exact loadX_completes (ea := fun s => s.eaScaled 2 uimm 2) rfl h
  | cFlwsp _ uimm => cases hf; exact loadF_completes (f := .s) (ea := fun s => s.eaScaled 2 uimm 2) rfl 4 rfl h
  | cLdsp _ uimm => cases hf; exact loadX_completes (ea := fun s => s.eaScaled 2 uimm 3) rfl h
  | cLbu _ rs1p uimm => cases hf; exact loadX_completes (ea := fun s => s.eaScaled (wideReg rs1p) uimm 0) rfl h
  | cLhu _ rs1p uimm => cases hf; exact loadX_completes (ea := fun s => s.eaScaled (wideReg rs1p) uimm 1) rfl h
  | cLh _ rs1p uimm => cases hf; exact loadX_completes (ea := fun s => s.eaScaled (wideReg rs1p) uimm 1) rfl h
  | _ => cases hf

theorem storeForm_completes {i : Instr} {s : State} {len n ea : Nat} (hf : i.storeForm s = some (len, n, ea))
    (h : s.Accesses (i.granule s n) ea n .store) : Completes i s len (span s.cfg.bits ea n) := by
  cases i with
  | sb rs1 _ imm => cases hf; exact storeX_completes (ea := fun s => s.ea rs1 imm) rfl h
  | sh rs1 _ imm => cases hf; exact storeX_completes (ea := fun s => s.ea rs1 imm) rfl h
  | sw rs1 _ imm => cases hf; exact storeX_completes (ea := fun s => s.ea rs1 imm) rfl h
  | sd rs1 _ imm => cases hf; exact storeX_completes (ea := fun s => s.ea rs1 imm) rfl h
  | fsw rs1 _ imm => cases hf; exact storeF_completes (f := .s) (ea := fun s => s.ea rs1 imm) rfl 4 rfl h
  | fsd rs1 _ imm => cases hf; exact storeF_completes (f := .d) (ea := fun s => s.ea rs1 imm) rfl 8 rfl h
  | fsq rs1 _ imm => cases hf; exact storeF_completes (f := .q) (ea := fun s => s.ea rs1 imm) rfl 16 rfl h
  | fsh rs1 _ imm => cases hf; exact storeF_completes (f := .h) (ea := fun s => s.ea rs1 imm) rfl 2 rfl h
  | cFsd rs1p _ uimm => cases hf; exact storeF_completes (f := .d) (ea := fun s => s.eaScaled (wideReg rs1p) uimm 3) rfl 8 rfl h
  | cSq rs1p _ uimm => cases hf; exact storeX_completes (ea := fun s => s.eaScaled (wideReg rs1p) uimm 4) rfl h
  | cSw rs1p _ uimm => cases hf; exact storeX_completes (ea := fun s => s.eaScaled (wideReg rs1p) uimm 2) rfl h
  | cFsw rs1p _ uimm => cases hf; exact storeF_completes (f := .s) (ea := fun s => s.eaScaled (wideReg rs1p) uimm 2) rfl 4 rfl h
  | cSd rs1p _ uimm => cases hf; exact storeX_completes (ea := fun s => s.eaScaled (wideReg rs1p) uimm 3) rfl h
  | cFsdsp _ uimm => cases hf; exact storeF_completes (f := .d) (ea := fun s => s.eaScaled 2 uimm 3) rfl 8 rfl h
  | cSqsp _ uimm => cases hf; exact storeX_completes (ea := fun s => s.eaScaled 2 uimm 4) rfl h
  | cSwsp _ uimm => cases hf; exact storeX_completes (ea := fun s => s.eaScaled 2 uimm 2) rfl h
  | cFswsp _ uimm => cases hf; exact storeF_completes (f := .s) (ea := fun s => s.eaScaled 2 uimm 2) rfl 4 rfl h
  | cSdsp _ uimm => cases hf; exact storeX_completes (ea := fun s => s.eaScaled 2 uimm 3) rfl h
  | cSb rs1p _ uimm => cases hf; exact storeX_completes (ea := fun s => s.eaScaled (wideReg rs1p) uimm 0) rfl h
  | cSh rs1p _ uimm => cases hf; exact storeX_completes (ea := fun s => s.eaScaled (wideReg rs1p) uimm 1) rfl h
  | _ => cases hf

/-! ### The exception of an access -/

theorem check_inaccessible {s : State} {mag : Bool} {ea n : Nat} {kind : AccessKind} (h : s.AlignmentOk mag ea n kind)
    (ha : s.cfg.accessible ea n kind = false) : s.check mag ea n kind = some (accessFaultExc kind ea) := by
  rw [State.check, checkAs_aligned h, ha]; rfl

/-- Misaligned under may_trap, outside one granule: the environment completes the access, or it raises. -/
theorem check_misaligned {s : State} {mag : Bool} {ea n : Nat} {kind : AccessKind} (hea : ea % n ≠ 0)
    (hm : s.cfg.misaligned = .mayTrap) (hg : (mag && s.cfg.inGranule ea n) = false) :
    Config.misalignedOk s.draws ea n kind = true ∨ s.check mag ea n kind =
      some (if Config.misalignedAsAccessFault s.draws ea n kind then accessFaultExc kind ea else misalignedExc kind ea) := by
  refine or_iff_not_imp_left.mpr fun hok => checkAs_misaligned ?_ _
  rintro (h | h | ⟨h1, h2⟩ | h)
  · exact hea h
  · rw [hm] at h; cases h
  · rw [h1, h2] at hg; cases hg
  · exact hok h

/-! ### Reading what was written -/

theorem readMem_writeMem {s : State} {ea n : Nat} (v : Nat) (hm : s.memOk) (hn : n ≤ 2 ^ s.cfg.bits)
    (hio : ∀ a ∈ span s.cfg.bits ea n, s.cfg.isIo a = false) :
    ((s.writeMem ea n v).readMem ea n).1 = v % 2 ^ (8 * n) := by
  have hc : (s.writeMem ea n v).cfg = s.cfg := by simp
  have hbytes : (s.writeMem ea n v).loadBytes ea n = natToBytes s.cfg.endian n v := by
    refine List.ext_getElem? fun k => ?_
    by_cases hk : k < n
    · have hnio := hio _ ((mem_span _ _ _ _).mpr ⟨k, hk, rfl⟩)
      rw [State.loadBytes, List.getElem?_map, hc, span_getElem? _ _ _ _ hk, natToBytes_getElem? _ _ _ _ hk, Option.map_some,
        State.loadByte, hc, hnio, if_neg (by decide), writeMem_holds s ea n v hm hn k hk, hnio, if_neg (by decide)]
    · rw [List.getElem?_eq_none (by rw [State.loadBytes, List.length_map, span_length]; omega),
        List.getElem?_eq_none (by rw [natToBytes_length]; omega)]
  rw [State.readMem, hbytes, hc, bytesToNat_natToBytes]

end Sys2Proof.Machine

namespace Sys2Proof.Proofs
open Sys2Proof Sys2Proof.Machine

/-- Settles O26: each load is `loadX` at its effective address. -/
theorem integerLoadsExtendTheBytes : Obligations.IntegerLoadsExtendTheBytes := by
  intro s rd rs1 imm rdp rs1p
  refine ⟨fun uimm => ?_, fun uimm => ?_, fun uimm => ?_, fun uimm => ?_, ?_⟩
  · exact ⟨loadsX_of_exec (ea := fun s => s.eaScaled (wideReg rs1p) uimm 4) rfl,
      loadsX_of_exec (ea := fun s => s.eaScaled (wideReg rs1p) uimm 2) rfl,
      loadsX_of_exec (ea := fun s => s.eaScaled (wideReg rs1p) uimm 3) rfl⟩
  · exact ⟨loadsX_of_exec (ea := fun s => s.eaScaled 2 uimm 4) rfl,
      loadsX_of_exec (ea := fun s => s.eaScaled 2 uimm 2) rfl,
      loadsX_of_exec (ea := fun s => s.eaScaled 2 uimm 3) rfl⟩
  · exact loadsX_of_exec (ea := fun s => s.eaScaled (wideReg rs1p) uimm 0) rfl
  · exact ⟨loadsX_of_exec (ea := fun s => s.eaScaled (wideReg rs1p) uimm 1) rfl,
      loadsX_of_exec (ea := fun s => s.eaScaled (wideReg rs1p) uimm 1) rfl⟩
  · exact ⟨loadsX_of_exec (ea := fun s => s.ea rs1 imm) rfl,
      loadsX_of_exec (ea := fun s => s.ea rs1 imm) rfl,
      loadsX_of_exec (ea := fun s => s.ea rs1 imm) rfl,
      loadsX_of_exec (ea := fun s => s.ea rs1 imm) rfl,
      loadsX_of_exec (ea := fun s => s.ea rs1 imm) rfl,
      loadsX_of_exec (ea := fun s => s.ea rs1 imm) rfl,
      loadsX_of_exec (ea := fun s => s.ea rs1 imm) rfl⟩

/-- Settles O27: each store is `storeX` at its effective address. -/
theorem integerStoresWriteTheirBytes : Obligations.IntegerStoresWriteTheirBytes := by
  intro s rs1 rs2 imm rs1p rs2p
  refine ⟨fun uimm => ?_, fun uimm => ?_, fun uimm => ?_, fun uimm => ?_, ?_⟩
  · exact ⟨storesX_of_exec (ea := fun s => s.eaScaled (wideReg rs1p) uimm 4) rfl (by decide),
      storesX_of_exec (ea := fun s => s.eaScaled (wideReg rs1p) uimm 2) rfl (by decide),
      storesX_of_exec (ea := fun s => s.eaScaled (wideReg rs1p) uimm 3) rfl (by decide)⟩
  · exact ⟨storesX_of_exec (ea := fun s => s.eaScaled 2 uimm 4) rfl (by decide),
      storesX_of_exec (ea := fun s => s.eaScaled 2 uimm 2) rfl (by decide),
      storesX_of_exec (ea := fun s => s.eaScaled 2 uimm 3) rfl (by decide)⟩
  · exact storesX_of_exec (ea := fun s => s.eaScaled (wideReg rs1p) uimm 0) rfl (by decide)
  · exact storesX_of_exec (ea := fun s => s.eaScaled (wideReg rs1p) uimm 1) rfl (by decide)
  · exact ⟨storesX_of_exec (ea := fun s => s.ea rs1 imm) rfl (by decide),
      storesX_of_exec (ea := fun s => s.ea rs1 imm) rfl (by decide),
      storesX_of_exec (ea := fun s => s.ea rs1 imm) rfl (by decide),
      storesX_of_exec (ea := fun s => s.ea rs1 imm) rfl (by decide)⟩

/-- Settles O28: each load is `loadF` and each store `storeF` of its format, at its effective address. -/
theorem floatLoadsAndStoresMoveBytes : Obligations.FloatLoadsAndStoresMoveBytes := by
  refine ⟨fun s rd rs1 imm rdp rs1p => ⟨fun uimm => ?_, fun uimm => ?_, ?_⟩,
    fun s rs1 rs2 imm rs1p rs2p => ⟨fun uimm => ?_, fun uimm => ?_, ?_⟩⟩
  · exact ⟨loadsF_of_exec (f := .d) (ea := fun s => s.eaScaled (wideReg rs1p) uimm 3) rfl 8 rfl,
      loadsF_of_exec (f := .s) (ea := fun s => s.eaScaled (wideReg rs1p) uimm 2) rfl 4 rfl⟩
  · exact ⟨loadsF_of_exec (f := .d) (ea := fun s => s.eaScaled 2 uimm 3) rfl 8 rfl,
      loadsF_of_exec (f := .s) (ea := fun s => s.eaScaled 2 uimm 2) rfl 4 rfl⟩
  · exact ⟨loadsF_of_exec (f := .s) (ea := fun s => s.ea rs1 imm) rfl 4 rfl,
      loadsF_of_exec (f := .d) (ea := fun s => s.ea rs1 imm) rfl 8 rfl,
      loadsF_of_exec (f := .q) (ea := fun s => s.ea rs1 imm) rfl 16 rfl,
      loadsF_of_exec (f := .h) (ea := fun s => s.ea rs1 imm) rfl 2 rfl⟩
  · exact ⟨storesF_of_exec (f := .d) (ea := fun s => s.eaScaled (wideReg rs1p) uimm 3) rfl 8 rfl,
      storesF_of_exec (f := .s) (ea := fun s => s.eaScaled (wideReg rs1p) uimm 2) rfl 4 rfl⟩
  · exact ⟨storesF_of_exec (f := .d) (ea := fun s => s.eaScaled 2 uimm 3) rfl 8 rfl,
      storesF_of_exec (f := .s) (ea := fun s => s.eaScaled 2 uimm 2) rfl 4 rfl⟩
  · exact ⟨storesF_of_exec (f := .s) (ea := fun s => s.ea rs1 imm) rfl 4 rfl,
      storesF_of_exec (f := .d) (ea := fun s => s.ea rs1 imm) rfl 8 rfl,
      storesF_of_exec (f := .q) (ea := fun s => s.ea rs1 imm) rfl 16 rfl,
      storesF_of_exec (f := .h) (ea := fun s => s.ea rs1 imm) rfl 2 rfl⟩

/-- Settles O29: a load or store checks its access first, and completes where the check finds nothing. -/
theorem loadsAndStoresCompleteOrRaise : Obligations.LoadsAndStoresCompleteOrRaise := by
  intro s i len n ea aligned
  refine ⟨fun hf => ⟨fun hal hac => ?_, fun hal hac => ?_, fun hea hm hg => ?_⟩,
    fun hf => ⟨fun hal hac => ?_, fun hal hac => ?_, fun hea hm hg => ?_⟩⟩
  · obtain ⟨t, ht, hret, hh, hb⟩ := loadForm_completes hf ⟨hac, hal⟩
    exact ⟨t, ht, hret, hh, fun a => hb a List.not_mem_nil⟩
  · exact loadForm_raises hf (check_inaccessible hal hac)
  · exact (check_misaligned hea hm hg).imp_right fun h => loadForm_raises hf h
  · exact storeForm_completes hf ⟨hac, hal⟩
  · exact storeForm_raises hf (check_inaccessible hal hac)
  · exact (check_misaligned hea hm hg).imp_right fun h => storeForm_raises hf h

/-- Settles O30: the bytes read are the bytes written, and their value is the value written. -/
theorem readAfterWriteGivesTheValue : Obligations.ReadAfterWriteGivesTheValue := by
  intro s ea n v hm hn hio
  have hread := readMem_writeMem v hm hn hio
  refine ⟨?_, hread, fun a ha => writeMem_byte_ne s ea n v a ha⟩
  rw [← seenAt_eq _ _ _ (by simpa using hio)]
  rwa [readMem_eq] at hread

end Sys2Proof.Proofs
end

section
/-! PROOFS. The atomics, WRS and the CSRs (43_m_a.md, 44_zicsr_counters.md, 48_zfinx_zfa_cmo_zawrs.md R690 to R692). -/

namespace Sys2Proof.Machine

/-! ### LR: the reservation set (43_m_a.md R369) -/

/-- An aligned access of a power of two of bytes does not wrap around the address space. -/
theorem aligned_end_le {c : Config} {ea n j : Nat} (hn : n = 2 ^ j) (hj : j ≤ 5) (h : ea % n = 0)
    (hea : ea < 2 ^ c.bits) : ea + n ≤ 2 ^ c.bits := by
  have hd : n ∣ 2 ^ c.bits := hn ▸ Nat.pow_dvd_pow 2 (by have := bits_ge_32 c; omega)
  obtain ⟨q, hq⟩ := hd
  obtain ⟨p, hp⟩ := Nat.dvd_of_mod_eq_zero h
  rw [hp, hq] at hea ⊢
  rw [← Nat.mul_succ]
  exact Nat.mul_le_mul_left n (Nat.lt_of_mul_lt_mul_left hea)

theorem mem_span_of_end_le {bits ea n a : Nat} (hend : ea + n ≤ 2 ^ bits) :
    a ∈ span bits ea n ↔ ea ≤ a ∧ a < ea + n := by
  rw [mem_span]
  constructor
  · rintro ⟨k, hk, rfl⟩
    rw [Nat.mod_eq_of_lt (by omega)]; omega
  · rintro ⟨h1, h2⟩
    exact ⟨a - ea, by omega, by rw [Nat.mod_eq_of_lt (by omega)]; omega⟩

/-- The aligned block of 2^k bytes around an address. -/
theorem mem_block_iff (ea a k : Nat) : (ea / 2 ^ k * 2 ^ k ≤ a ∧ a < ea / 2 ^ k * 2 ^ k + 2 ^ k) ↔ a / 2 ^ k = ea / 2 ^ k := by
  rw [Nat.div_eq_iff (Nat.two_pow_pos k), Nat.mul_comm (ea / 2 ^ k)]
  have := Nat.two_pow_pos k
  omega

/-- The bytes of an aligned access lie in the block around its address. -/
theorem div_eq_of_aligned {ea n j k a : Nat} (hn : n = 2 ^ j) (hk : n ≤ 2 ^ k) (h : ea % n = 0)
    (ha : ea ≤ a ∧ a < ea + n) : a / 2 ^ k = ea / 2 ^ k := by
  have hd : n ∣ 2 ^ k := hn ▸ Nat.pow_dvd_pow 2 ((Nat.pow_le_pow_iff_right (by decide)).mp (hn ▸ hk))
  obtain ⟨q, hq⟩ := hd
  obtain ⟨p, hp⟩ := Nat.dvd_of_mod_eq_zero h
  have hpos : 0 < n := hn ▸ Nat.two_pow_pos j
  have hdiv : ∀ b, ea ≤ b → b < ea + n → b / n = p := fun b h1 h2 => by
    rw [Nat.div_eq_iff hpos, Nat.mul_comm p]; omega
  rw [hq, ← Nat.div_div_eq_div_mul, ← Nat.div_div_eq_div_mul, hdiv a ha.1 ha.2, hdiv ea le_rfl (by omega)]

/-- The reservation an LR of `n` bytes registers: what its set holds, by RESERVATION_SET. -/
theorem reserve_set {s : State} {ea n j : Nat} (hn : n = 2 ^ j) (hj : j ≤ 5) (h : ea % n = 0) (hea : ea < 2 ^ s.cfg.bits) :
    ∃ r, (s.reserve ea n).reservation = some r ∧ r.addr = ea ∧ r.size = n ∧
      (∀ a ∈ span s.cfg.bits ea n, r.contains a = true) ∧
      (s.cfg.reservation = .exact → ∀ a, r.contains a = true → ea ≤ a ∧ a < ea + n) ∧
      (∀ k, s.cfg.reservation = .granule k → n ≤ 2 ^ k → ∀ a, r.contains a = true ↔ a / 2 ^ k = ea / 2 ^ k) := by
  have hc : ∀ b, (Reservation.mk ea n (s.reservationExtra ea n)).contains b = true ↔
      (ea ≤ b ∧ b < ea + n) ∨ ∃ p ∈ s.reservationExtra ea n, p.1 ≤ b ∧ b < p.1 + p.2 := fun b => by
    simp [Reservation.contains]
  refine ⟨_, rfl, rfl, rfl, fun a ha => ?_, fun he a ha => ?_, fun k hk hnk a => ?_⟩
  · exact (hc a).mpr (.inl ((mem_span_of_end_le (aligned_end_le hn hj h hea)).mp ha))
  · rcases (hc a).mp ha with ha | ⟨p, hp, -⟩
    · exact ha
    · rw [State.reservationExtra, he] at hp; cases hp
  · have hx : s.reservationExtra ea n = [(ea / 2 ^ k * 2 ^ k, 2 ^ k)] := by rw [State.reservationExtra, hk]
    have hblock : (∃ p ∈ s.reservationExtra ea n, p.1 ≤ a ∧ a < p.1 + p.2) ↔ a / 2 ^ k = ea / 2 ^ k := by
      rw [hx]; simp only [List.mem_singleton, exists_eq_left, mem_block_iff]
    exact (hc a).trans ((or_congr_right hblock).trans (or_iff_right_of_imp (div_eq_of_aligned hn hnk h)))

/-! ### LR and SC as the statements say them -/

theorem atomicAddr_lt (s : State) (rs1 : Reg) : s.atomicAddr rs1 < 2 ^ s.cfg.bits := BitVec.isLt _

theorem loadReserved_registers {i : Instr} {s : State} {n j : Nat} {rd rs1 : Reg} (he : exec i s = loadReserved n rd rs1 s)
    (hn : n = 2 ^ j) (hj : j ≤ 5) (h1 : s.atomicAddr rs1 % n = 0)
    (h2 : s.cfg.accessible (s.atomicAddr rs1) n .load = true) (h3 : s.cfg.lrscAt (s.atomicAddr rs1) n = true) :
    ∃ t r, exec i s = .next t ∧ t.reservation = some r ∧ r.addr = s.atomicAddr rs1 ∧ r.size = n ∧
      (∀ a ∈ span s.cfg.bits (s.atomicAddr rs1) n, r.contains a = true) ∧
      (s.cfg.reservation = .exact → ∀ a, r.contains a = true → s.atomicAddr rs1 ≤ a ∧ a < s.atomicAddr rs1 + n) ∧
      (∀ k, s.cfg.reservation = .granule k → n ≤ 2 ^ k → ∀ a, r.contains a = true ↔ a / 2 ^ k = s.atomicAddr rs1 / 2 ^ k) ∧
      t.readX s.cfg.bits rd =
        (if rd = 0 then 0 else (BitVec.ofNat (8 * n) (s.seenAt (s.atomicAddr rs1) n)).signExtend s.cfg.bits) ∧
      s.RetiredTo t (s.after 4) ∧ s.Keeps t [rd] [] [] ∧ t.fflags = s.fflags ∧ t.stale = s.stale ∧
      t.ioTrace = s.ioTrace ++ s.ioEvents (s.atomicAddr rs1) n (.read (s.atomicAddr rs1) n) := by
  have hea := atomicAddr_lt s rs1
  rw [loadReserved_eq rd rs1 h1 h2 h3] at he
  generalize s.atomicAddr rs1 = ea at *
  let u : State := s.noteRead ea n
  have hu : u.cfg = s.cfg := by simp [u]
  have hset := reserve_set (s := u) hn hj h1 (by rw [hu]; exact hea)
  rw [hu] at hset
  obtain ⟨r, hr, haddr, hsize, hin, hexact, hgranule⟩ := hset
  refine ⟨_, r, he, ?_, haddr, hsize, hin, hexact, hgranule, ?_, ⟨?_, ?_⟩, ?_, by simp, by simp, ?_⟩
  · simpa [u] using hr
  · rw [State.retire, State.retireTo_readX, readX_setX_self _ _ _ (bits_le_128 _)]
  · rw [retire_pc]; exact after_congr (by simp) (by simp) 4
  · rw [retire_instret]; simp
  · simpa using (((noteRead_keeps s ea n).trans (reserve_keeps _ ea n)).trans (setX_keeps _ rd _).toKeeps).trans
      (retire_keeps _ 4).toKeeps
  · rw [← noteRead_ioTrace]; simp

/-- SC at an aligned address that may be written: it succeeds, or it fails. -/
theorem storeConditional_completes {i : Instr} {s : State} {n : Nat} {rd rs1 rs2 : Reg}
    (he : exec i s = storeConditional n rd rs1 rs2 s) (hn : n ≤ 16) (hm : s.memOk) (h1 : s.atomicAddr rs1 % n = 0)
    (h2 : s.cfg.accessible (s.atomicAddr rs1) n .store = true) (h3 : s.cfg.lrscAt (s.atomicAddr rs1) n = true) :
    ∃ t, exec i s = .next t ∧ t.reservation = none ∧ s.RetiredTo t (s.after 4) ∧ t.fflags = s.fflags ∧
      ((t.readX s.cfg.bits rd = 0 ∧ s.HoldsAt t (s.atomicAddr rs1) n (s.readX s.cfg.bits rs2).toNat ∧
          s.Keeps t [rd] [] (span s.cfg.bits (s.atomicAddr rs1) n) ∧ s.reserved (s.atomicAddr rs1) n = true ∧
          s.StaleWithin t (span s.cfg.bits (s.atomicAddr rs1) n) ∧
          t.ioTrace = s.ioTrace ++ s.ioEvents (s.atomicAddr rs1) n
            (.write (s.atomicAddr rs1) (s.bytesOf n (s.readX s.cfg.bits rs2).toNat))) ∨
        (t.readX s.cfg.bits rd = (if rd = 0 then 0 else 1) ∧ s.Keeps t [rd] [] [] ∧ t.ioTrace = s.ioTrace ∧
          t.stale = s.stale ∧ (s.reserved (s.atomicAddr rs1) n = false ∨ s.cfg.scFail = .nondeterministic))) := by
  rw [storeConditional_eq rd rs1 rs2 h1 h2 h3] at he
  generalize s.atomicAddr rs1 = ea at *
  generalize (s.readX s.cfg.bits rs2).toNat = v at *
  by_cases hs : s.scSucceeds ea n = true
  · rw [if_pos hs] at he
    refine ⟨_, he, by simp [State.unreserve], ⟨?_, ?_⟩, by simp, .inl ⟨?_, ?_, ?_, ?_, ?_, ?_⟩⟩
    · rw [retire_pc]; exact after_congr (by simp) (by simp) 4
    · rw [retire_instret]; simp
    · rw [State.retire, State.retireTo_readX, readX_setX_self _ _ _ (bits_le_128 _), ite_self]
    · intro k hk
      rw [State.retire, State.retireTo_byte, State.setX_byte]
      exact writeMem_holds s ea n v hm (width_le_space _ n hn) k hk
    · simpa using (((writeMem_keeps s ea n v).trans (unreserve_keeps _)).trans (setX_keeps _ rd _).toKeeps).trans
        (retire_keeps _ 4).toKeeps
    · exact (Bool.and_eq_true_iff.mp hs).1
    · simpa [State.StaleWithin] using writeMem_stale s ea n v
    · rw [State.retire, State.retireTo_ioTrace, State.setX_ioTrace]
      exact writeMem_ioTrace s ea n v
  · rw [if_neg hs] at he
    refine ⟨_, he, by simp [State.unreserve], ⟨?_, ?_⟩, by simp, .inr ⟨?_, ?_, by simp, by simp, ?_⟩⟩
    · rw [retire_pc]; exact after_congr (by simp) (by simp) 4
    · rw [retire_instret]; simp
    · rw [State.retire, State.retireTo_readX, readX_setX_self _ _ _ (bits_le_128 _)]
    · simpa using ((unreserve_keeps s).trans (setX_keeps _ rd _).toKeeps).trans (retire_keeps _ 4).toKeeps
    · rw [State.scSucceeds, Bool.and_eq_true, not_and_or, Bool.not_eq_true, Bool.not_eq_true, Bool.not_eq_false',
        Bool.and_eq_true, beq_iff_eq] at hs
      exact hs.imp_right And.left

/-! ### AMO: the operations as exact functions, and the exceptions -/

theorem amoMin_eq (w : Nat) : amoMin w = fun a b => if a.toInt < b.toInt then a else b := by
  funext a b; simp only [amoMin, BitVec.slt_iff_toInt_lt]

theorem amoMax_eq (w : Nat) : amoMax w = fun a b => if b.toInt < a.toInt then a else b := by
  funext a b; simp only [amoMax, BitVec.slt_iff_toInt_lt]

theorem amoMinu_eq (w : Nat) : amoMinu w = fun a b => if a.toNat < b.toNat then a else b := by
  funext a b; simp only [amoMinu, BitVec.ult_iff_toNat_lt]

theorem amoMaxu_eq (w : Nat) : amoMaxu w = fun a b => if b.toNat < a.toNat then a else b := by
  funext a b; simp only [amoMaxu, BitVec.ult_iff_toNat_lt]

/-- An AMO with its operation in the statement's words. -/
theorem amoUpdates_of_eq {i : Instr} {s : State} {n : Nat} {cls : AmoClass} {rd rs1 rs2 : Reg}
    {op f : BitVec (8 * n) → BitVec (8 * n) → BitVec (8 * n)} (h : exec i s = amo n cls rd rs1 rs2 op s) (hn : n ≤ 16)
    (hop : op = f) : AmoUpdates i s n cls rd rs1 rs2 f := hop ▸ amoUpdates_of_exec h hn

/-- A region that refuses an access refuses it for all its bytes. -/
theorem allIn_false {c : Config} {addrs : List Nat} {p : Region → Bool}
    (h : ∃ a ∈ addrs, ∃ r, c.regionAt a = some r ∧ p r = false) : c.allIn addrs p = false := by
  obtain ⟨a, ha, r, hr, hp⟩ := h
  rw [Config.allIn, List.all_eq_false]
  exact ⟨a, ha, by simp [hr, hp]⟩

theorem lrscAt_false {c : Config} {ea n : Nat} {kind : AccessKind}
    (h : c.accessible ea n kind = false ∨ ∃ a ∈ span c.bits ea n, ∃ r, c.regionAt a = some r ∧ r.lrsc = false) :
    (c.accessible ea n kind && c.lrscAt ea n) = false := by
  rcases h with h | h
  · rw [h, Bool.false_and]
  · rw [Config.lrscAt, allIn_false h, Bool.and_false]

theorem amoAt_false {c : Config} {ea n : Nat} {cls : AmoClass}
    (h : c.accessible ea n .load = false ∨ c.accessible ea n .store = false ∨
      ∃ a ∈ span c.bits ea n, ∃ r, c.regionAt a = some r ∧ r.amo.rank < cls.rank) : c.amoAt ea n cls = false := by
  rcases h with h | h | ⟨a, ha, r, hr, hlt⟩
  · rw [Config.amoAt, h, Bool.false_and, Bool.false_and]
  · rw [Config.amoAt, h, Bool.and_false, Bool.false_and]
  · rw [Config.amoAt, allIn_false ⟨a, ha, r, hr, decide_eq_false (by omega)⟩, Bool.and_false]

theorem amo_faults {i : Instr} {s : State} {n : Nat} {cls : AmoClass} {rd rs1 rs2 : Reg}
    {op : BitVec (8 * n) → BitVec (8 * n) → BitVec (8 * n)} (h : exec i s = amo n cls rd rs1 rs2 op s)
    (h1 : s.atomicAddr rs1 % n = 0 ∨ s.cfg.inGranule (s.atomicAddr rs1) n = true)
    (h2 : s.cfg.accessible (s.atomicAddr rs1) n .load = false ∨ s.cfg.accessible (s.atomicAddr rs1) n .store = false ∨
      ∃ a ∈ span s.cfg.bits (s.atomicAddr rs1) n, ∃ r, s.cfg.regionAt a = some r ∧ r.amo.rank < cls.rank) :
    Raises i s (.storeAccessFault (BitVec.ofNat 128 (s.atomicAddr rs1))) 4 :=
  h.trans (amo_inaccessible rd rs1 rs2 op h1 (amoAt_false h2))

/-! ### WRS (48_zfinx_zfa_cmo_zawrs.md R690) -/

theorem mayStall_false {s : State} (h : s.cfg.wrsStalls = false ∨ s.reservation = none ∨ s.interruptPending = true) :
    s.mayStall = false := by
  rcases h with h | h | h <;> simp [State.mayStall, h]

theorem mayStall_true {s : State} (h : s.mayStall = true) :
    s.cfg.wrsStalls = true ∧ s.reservation ≠ none ∧ s.interruptPending = false := by
  simp only [State.mayStall, Bool.and_eq_true, Bool.not_eq_true', Option.isSome_iff_ne_none] at h
  exact ⟨h.1.1.1, h.1.1.2, h.1.2⟩

theorem waitReservation_noEffect {i : Instr} {s : State} (h : exec i s = waitReservation s) (hs : s.mayStall = false) :
    NoEffect i s 4 := noEffect_of_exec (h.trans (if_neg (by rw [hs]; decide)))

theorem waitReservation_cases {i : Instr} {s : State} (h : exec i s = waitReservation s) : NoEffect i s 4 ∨
    ∃ t, exec i s = .next t ∧ ({ s with stalled := true } : State).OnlyTimePasses t ∧
      s.cfg.wrsStalls = true ∧ s.reservation ≠ none ∧ s.interruptPending = false := by
  cases hs : s.mayStall with
  | false => exact .inl (waitReservation_noEffect h hs)
  | true => exact .inr ⟨_, h.trans (if_pos hs), rfl, mayStall_true hs⟩

/-! ### The CSR instructions -/

theorem exec_csrrw (rd rs1 : BitVec 5) (a : BitVec 12) (s : State) : exec (.csrrw rd rs1 a) s =
    csrAccess (.csrrw rd rs1 a) a (rd != 0) true rd csrSwap (fun s => s.readX s.cfg.bits rs1) s := rfl

theorem exec_csrrs (rd rs1 : BitVec 5) (a : BitVec 12) (s : State) : exec (.csrrs rd rs1 a) s =
    csrAccess (.csrrs rd rs1 a) a true (rs1 != 0) rd csrSet (fun s => s.readX s.cfg.bits rs1) s := rfl

theorem exec_csrrc (rd rs1 : BitVec 5) (a : BitVec 12) (s : State) : exec (.csrrc rd rs1 a) s =
    csrAccess (.csrrc rd rs1 a) a true (rs1 != 0) rd csrClear (fun s => s.readX s.cfg.bits rs1) s := rfl

theorem exec_csrrwi (rd uimm : BitVec 5) (a : BitVec 12) (s : State) : exec (.csrrwi rd uimm a) s =
    csrAccess (.csrrwi rd uimm a) a (rd != 0) true rd csrSwap (fun s => uimm.setWidth s.cfg.bits) s := rfl

theorem exec_csrrsi (rd uimm : BitVec 5) (a : BitVec 12) (s : State) : exec (.csrrsi rd uimm a) s =
    csrAccess (.csrrsi rd uimm a) a true (uimm != 0) rd csrSet (fun s => uimm.setWidth s.cfg.bits) s := rfl

theorem exec_csrrci (rd uimm : BitVec 5) (a : BitVec 12) (s : State) : exec (.csrrci rd uimm a) s =
    csrAccess (.csrrci rd uimm a) a true (uimm != 0) rd csrClear (fun s => uimm.setWidth s.cfg.bits) s := rfl

section
variable {i j : Instr} {s : State} {a : BitVec 12} {reads writes : Bool} {rd : Reg}
  {op : (n : Nat) → BitVec n → BitVec n → BitVec n} {src : (s : State) → BitVec s.cfg.bits} {old : BitVec s.cfg.bits}

/-- A CSR instruction that writes. -/
theorem csrReplaces_write (ho : s.csrRead a = some old) (hro : csrReadOnly a = false)
    (h : exec i s = csrAccess j a reads writes rd op src s) (hr : reads = false → rd = 0) (hw : writes = true)
    {v : BitVec s.cfg.bits} (hv : op s.cfg.bits old (src s) = v) : CsrReplaces i s a rd old (some v) := by
  have := csrReplaces_of_exec h ho (fun _ => hro) hr
  rwa [if_pos hw, hv] at this

/-- A CSR instruction that only reads. -/
theorem csrReplaces_read (ho : s.csrRead a = some old) (h : exec i s = csrAccess j a true writes rd op src s)
    (hw : writes = false) : CsrReplaces i s a rd old none := by
  have := csrReplaces_of_exec h ho (fun h => by rw [hw] at h; cases h) nofun
  rwa [if_neg (by rw [hw]; decide)] at this

end

theorem eq_zero_of_bne_false {rd : Reg} (h : (rd != 0) = false) : rd = 0 := by simpa using h

theorem bne_true_of_ne_zero {r : Reg} (h : r ≠ 0) : (r != 0) = true := by simpa using h

end Sys2Proof.Machine

namespace Sys2Proof.Proofs
open Sys2Proof Sys2Proof.Machine

/-- Settles O31: LR.W and LR.D are `loadReserved` of 4 and 8 bytes. -/
theorem loadReservedRegistersTheBytes : Obligations.LoadReservedRegistersTheBytes := by
  intro s rd rs1 aq rl p hp ea h1 h2 h3
  simp only [List.mem_cons, List.not_mem_nil, or_false] at hp
  rcases hp with rfl | rfl
  · exact loadReserved_registers (j := 2) rfl rfl (by decide) h1 h2 h3
  · exact loadReserved_registers (j := 3) rfl rfl (by decide) h1 h2 h3

/-- Settles O32: SC.W and SC.D are `storeConditional` of 4 and 8 bytes. -/
theorem storeConditionalSucceedsOrFails : Obligations.StoreConditionalSucceedsOrFails := by
  intro s rd rs1 rs2 aq rl p hp ea hm h1 h2 h3
  simp only [List.mem_cons, List.not_mem_nil, or_false] at hp
  rcases hp with rfl | rfl
  · exact storeConditional_completes rfl (Nat.le_of_ble_eq_true rfl) hm h1 h2 h3
  · exact storeConditional_completes rfl (Nat.le_of_ble_eq_true rfl) hm h1 h2 h3

/-- Settles O33: each AMO is `amo` with its operation. -/
theorem atomicOperationsReadModifyWrite : Obligations.AtomicOperationsReadModifyWrite := by
  intro s rd rs1 rs2 aq rl
  refine ⟨?_, ?_, ?_, ?_, ?_, ?_, ?_, ?_, ?_, ?_, ?minW, ?minD, ?maxW, ?maxD, ?minuW, ?minuD, ?maxuW, ?maxuD⟩
  case minW | minD => exact amoUpdates_of_eq rfl (by decide) (amoMin_eq _)
  case maxW | maxD => exact amoUpdates_of_eq rfl (by decide) (amoMax_eq _)
  case minuW | minuD => exact amoUpdates_of_eq rfl (by decide) (amoMinu_eq _)
  case maxuW | maxuD => exact amoUpdates_of_eq rfl (by decide) (amoMaxu_eq _)
  all_goals exact amoUpdates_of_eq rfl (by decide) rfl

/-- Settles O34: the alignment is checked first, then the bytes and their regions. -/
theorem atomicsRaiseAtTheirAddress : Obligations.AtomicsRaiseAtTheirAddress := by
  intro s rd rs1 rs2 aq rl ea
  refine ⟨fun h => ⟨loadReserved_misaligned rd rs1 h, storeConditional_misaligned rd rs1 rs2 h⟩,
    fun h => ⟨loadReserved_misaligned rd rs1 h, storeConditional_misaligned rd rs1 rs2 h⟩, fun h hg => ?_, fun h hg => ?_,
    ?_, ?_⟩
  · repeat refine List.forall_mem_cons.mpr ⟨amo_raises rfl h hg, ?_⟩
    exact List.forall_mem_nil _
  · repeat refine List.forall_mem_cons.mpr ⟨amo_raises rfl h hg, ?_⟩
    exact List.forall_mem_nil _
  · repeat refine List.forall_mem_cons.mpr ⟨fun h => ⟨fun hx => loadReserved_inaccessible rd rs1 h (lrscAt_false hx),
      fun hx => storeConditional_inaccessible rd rs1 rs2 h (lrscAt_false hx)⟩, ?_⟩
    exact List.forall_mem_nil _
  · repeat refine List.forall_mem_cons.mpr ⟨fun h hx => amo_faults rfl h hx, ?_⟩
    exact List.forall_mem_nil _

/-- Settles O35: a WRS, and the step of a stalled hart, stall while `mayStall`, and else retire. -/
theorem waitOnReservationAdvancesOrStalls : Obligations.WaitOnReservationAdvancesOrStalls := by
  refine fun s => ⟨fun h => ⟨waitReservation_noEffect rfl (mayStall_false h), waitReservation_noEffect rfl (mayStall_false h)⟩,
    ?_, fun hst hl => ?_⟩
  · repeat refine List.forall_mem_cons.mpr ⟨waitReservation_cases rfl, ?_⟩
    exact List.forall_mem_nil _
  · have hstep : step s = stallStep s := by simp only [step, hl, runHart, hst, if_true]
    cases hs : s.mayStall with
    | true => exact ⟨s.tick, hstep.trans (if_pos hs), .inl ⟨rfl, mayStall_true hs⟩⟩
    | false => exact ⟨_, hstep.trans (if_neg (by rw [hs]; decide)), .inr rfl⟩

/-- Settles O36: each of the six is `csrAccess` with its operation. -/
theorem csrInstructionsReadAndWrite : Obligations.CsrInstructionsReadAndWrite := by
  intro s a old rd rs1 uimm ho v u
  refine ⟨fun hro => ?_, csrReplaces_read ho (exec_csrrs rd 0 a s) rfl, csrReplaces_read ho (exec_csrrc rd 0 a s) rfl,
    csrReplaces_read ho (exec_csrrsi rd 0 a s) rfl, csrReplaces_read ho (exec_csrrci rd 0 a s) rfl⟩
  exact ⟨csrReplaces_write ho hro (exec_csrrw rd rs1 a s) eq_zero_of_bne_false rfl rfl,
    csrReplaces_write ho hro (exec_csrrwi rd uimm a s) eq_zero_of_bne_false rfl rfl,
    fun h => ⟨csrReplaces_write ho hro (exec_csrrs rd rs1 a s) nofun (bne_true_of_ne_zero h) rfl,
      csrReplaces_write ho hro (exec_csrrc rd rs1 a s) nofun (bne_true_of_ne_zero h) rfl⟩,
    fun h => ⟨csrReplaces_write ho hro (exec_csrrsi rd uimm a s) nofun (bne_true_of_ne_zero h) rfl,
      csrReplaces_write ho hro (exec_csrrci rd uimm a s) nofun (bne_true_of_ne_zero h) rfl⟩⟩

/-- Settles O37: an absent CSR, or a write to a read-only one. -/
theorem csrViolationsRaiseIllegal : Obligations.CsrViolationsRaiseIllegal := by
  intro s a rd rs1 uimm
  refine ⟨fun h => ?_, fun ha => ?_⟩
  · simp only [List.forall_mem_cons]
    exact ⟨csrAccess_raises (exec_csrrw rd rs1 a s) (.inl h) rfl,
      csrAccess_raises (exec_csrrs rd rs1 a s) (.inl h) rfl,
      csrAccess_raises (exec_csrrc rd rs1 a s) (.inl h) rfl,
      csrAccess_raises (exec_csrrwi rd uimm a s) (.inl h) rfl,
      csrAccess_raises (exec_csrrsi rd uimm a s) (.inl h) rfl,
      csrAccess_raises (exec_csrrci rd uimm a s) (.inl h) rfl,
      List.forall_mem_nil _⟩
  · have hro : csrReadOnly a = true := beq_iff_eq.mpr ha
    simp only [List.forall_mem_cons]
    refine ⟨?_, fun h => ?_, fun h => ?_⟩
    · exact ⟨csrAccess_raises (exec_csrrw rd rs1 a s) (.inr ⟨rfl, hro⟩) rfl,
        csrAccess_raises (exec_csrrwi rd uimm a s) (.inr ⟨rfl, hro⟩) rfl,
        List.forall_mem_nil _⟩
    · exact ⟨csrAccess_raises (exec_csrrs rd rs1 a s) (.inr ⟨bne_true_of_ne_zero h, hro⟩) rfl,
        csrAccess_raises (exec_csrrc rd rs1 a s) (.inr ⟨bne_true_of_ne_zero h, hro⟩) rfl,
        List.forall_mem_nil _⟩
    · exact ⟨csrAccess_raises (exec_csrrsi rd uimm a s) (.inr ⟨bne_true_of_ne_zero h, hro⟩) rfl,
        csrAccess_raises (exec_csrrci rd uimm a s) (.inr ⟨bne_true_of_ne_zero h, hro⟩) rfl,
        List.forall_mem_nil _⟩

end Sys2Proof.Proofs
end

section
/-! PROOFS. The views of the CSRs: fcsr, frm, jvt and the counters (10_state.md R45 to R56, 44_zicsr_counters.md). -/

namespace Sys2Proof.Machine

/-! ### The address of a counter -/

theorem toNat_counterAddr (base k : Nat) (h : base + k < 4096) : (BitVec.ofNat 12 (base + k)).toNat = base + k := by
  rw [BitVec.toNat_ofNat]; exact Nat.mod_eq_of_lt h

theorem extractLsb'_high7 (a : BitVec 12) (v : BitVec 7) : a.extractLsb' 5 7 = v ↔ a.toNat / 32 = v.toNat := by
  rw [← BitVec.toNat_inj, BitVec.extractLsb'_toNat, Nat.shiftRight_eq_div_pow]
  have := a.isLt
  constructor <;> intro h <;> omega

theorem ne_control {a : BitVec 12} (h : a ∉ [0x001#12, 0x002#12, 0x003#12, 0x017#12]) :
    a ≠ 0x001 ∧ a ≠ 0x002 ∧ a ≠ 0x003 ∧ a ≠ 0x017 :=
  ⟨fun e => h (e ▸ by decide), fun e => h (e ▸ by decide), fun e => h (e ▸ by decide), fun e => h (e ▸ by decide)⟩

/-- A CSR read outside the four control registers is that of a counter, or absent. -/
theorem csrRead_other (s : State) {a : BitVec 12} (h : a ∉ [0x001#12, 0x002#12, 0x003#12, 0x017#12]) :
    s.csrRead a =
      if a.extractLsb' 5 7 = 0b1100000 then (s.counter (a.toNat % 32)).map (lowHalf s.cfg.bits)
      else if a.extractLsb' 5 7 = 0b1100100 then
        (if s.cfg.xlen = .rv32 then (s.counter (a.toNat % 32)).map (highHalf s.cfg.bits) else none)
      else none := by
  obtain ⟨h1, h2, h3, h4⟩ := ne_control h
  rw [State.csrRead, if_neg h1, if_neg h2, if_neg h3, if_neg h4]

theorem not_mem_control {a : BitVec 12} (h : 0xC00 ≤ a.toNat) : a ∉ [0x001#12, 0x002#12, 0x003#12, 0x017#12] := by
  simp only [List.mem_cons, List.not_mem_nil, or_false, not_or, ← BitVec.toNat_inj]
  refine ⟨?_, ?_, ?_, ?_⟩ <;> simp <;> omega

theorem csrRead_low (s : State) {k : Nat} (hk : k < 32) :
    s.csrRead (BitVec.ofNat 12 (0xC00 + k)) = (s.counter k).map (lowHalf s.cfg.bits) := by
  have ha := toNat_counterAddr 0xC00 k (by omega)
  rw [csrRead_other s (not_mem_control (by omega)), if_pos ((extractLsb'_high7 _ _).mpr (by rw [ha]; simp; omega)), ha]
  congr 2; omega

theorem csrRead_high (s : State) {k : Nat} (hk : k < 32) :
    s.csrRead (BitVec.ofNat 12 (0xC80 + k)) =
      if s.cfg.xlen = .rv32 then (s.counter k).map (highHalf s.cfg.bits) else none := by
  have ha := toNat_counterAddr 0xC80 k (by omega)
  rw [csrRead_other s (not_mem_control (by omega)), if_neg (mt (extractLsb'_high7 _ _).mp (by rw [ha]; simp; omega)),
    if_pos ((extractLsb'_high7 _ _).mpr (by rw [ha]; simp; omega)), ha]
  congr 3; omega

theorem csrRead_absent (s : State) {a : BitVec 12} (h : a ∉ [0x001#12, 0x002#12, 0x003#12, 0x017#12])
    (h1 : ¬(0xC00 ≤ a.toNat ∧ a.toNat ≤ 0xC1F)) (h2 : ¬(0xC80 ≤ a.toNat ∧ a.toNat ≤ 0xC9F)) : s.csrRead a = none := by
  rw [csrRead_other s h, if_neg (mt (extractLsb'_high7 _ _).mp (by simp; omega)),
    if_neg (mt (extractLsb'_high7 _ _).mp (by simp; omega))]

/-! ### The values of the counters -/

theorem lowHalf_ofNat (n x : Nat) (h : x < 2 ^ 64) : lowHalf n (BitVec.ofNat 64 x) = BitVec.ofNat n x := by
  apply BitVec.eq_of_toNat_eq
  rw [lowHalf, BitVec.toNat_setWidth, BitVec.toNat_ofNat, BitVec.toNat_ofNat, Nat.mod_eq_of_lt h]

theorem highHalf_eq (n : Nat) (v : BitVec 64) : highHalf n v = BitVec.ofNat n (v.toNat / 2 ^ 32) := by
  apply BitVec.eq_of_toNat_eq
  rw [highHalf, BitVec.toNat_setWidth, BitVec.toNat_ushiftRight, Nat.shiftRight_eq_div_pow, BitVec.toNat_ofNat]

theorem counter_base (s : State) : s.counter 0 = (if s.cfg.ext.zicntr then some s.cycle else none) ∧
    s.counter 1 = (if s.cfg.ext.zicntr then some s.time else none) ∧
    s.counter 2 = (if s.cfg.ext.zicntr then some s.instret else none) := ⟨rfl, rfl, rfl⟩

theorem counter_hpm (s : State) {k : Nat} (hk : 3 ≤ k) :
    s.counter k = if s.cfg.ext.zihpm then s.hpmValue k else none := by
  rw [State.counter, if_neg (by omega), if_neg (by omega), if_neg (by omega)]

theorem hpmValue_some {s : State} {k : Nat} {h : HpmCounter} (hf : s.hpm.find? (fun c => c.number == k) = some h) :
    s.hpmValue k = some (BitVec.ofNat 64 (h.value.toNat % 2 ^ h.width)) := by
  rw [State.hpmValue, hf]

theorem hpmValue_none {s : State} {k : Nat} (h : ∀ c ∈ s.hpm, c.number ≠ k) : s.hpmValue k = none := by
  have hf : s.hpm.find? (fun c => c.number == k) = none :=
    List.find?_eq_none.mpr fun c hc => by simpa using h c hc
  rw [State.hpmValue, hf]

/-- The value of an hpmcounter is one of 64 bits. -/
theorem hpm_lt (h : HpmCounter) : h.value.toNat % 2 ^ h.width < 2 ^ 64 :=
  lt_of_le_of_lt (Nat.mod_le _ _) h.value.isLt

/-- Time leaves a constant hpmcounter. -/
theorem constant_mem_tick {s : State} {h : HpmCounter} (hm : h ∈ s.hpm) (hc : h.source = .constant) : h ∈ s.tick.hpm :=
  List.mem_map.mpr ⟨h, hm, by rw [HpmCounter.advance, hc]⟩

/-! ### What a counter reads as -/

section
variable {s : State} {k : Fin 32} {v : BitVec 64}

theorem csrRead_low_some (h : s.counter k = some v) :
    s.csrRead (BitVec.ofNat 12 (0xC00 + k)) = some (v.setWidth s.cfg.bits) := by
  rw [csrRead_low s k.isLt, h]; rfl

theorem csrRead_high_some (hx : s.cfg.xlen = .rv32) (h : s.counter k = some v) :
    s.csrRead (BitVec.ofNat 12 (0xC80 + k)) = some (BitVec.ofNat s.cfg.bits (v.toNat / 2 ^ 32)) := by
  rw [csrRead_high s k.isLt, if_pos hx, h, Option.map_some, highHalf_eq]

theorem csrRead_high_absent (hx : s.cfg.xlen ≠ .rv32) (k : Fin 32) : s.csrRead (BitVec.ofNat 12 (0xC80 + k)) = none := by
  rw [csrRead_high s k.isLt, if_neg hx]

theorem csrRead_none (h : s.counter k = none) :
    s.csrRead (BitVec.ofNat 12 (0xC00 + k)) = none ∧ s.csrRead (BitVec.ofNat 12 (0xC80 + k)) = none := by
  rw [csrRead_low s k.isLt, csrRead_high s k.isLt, h]
  exact ⟨rfl, ite_self _⟩

end

/-! ### The writes of jvt -/

/-- Clearing the low six bits. -/
theorem clearSix (c : Config) (v : BitVec c.bits) : v &&& ~~~(63 : BitVec c.bits) = v >>> 6 <<< 6 := by
  have mask : ∀ n, n = 32 ∨ n = 64 ∨ n = 128 → (~~~63 : BitVec n) = BitVec.allOnes n <<< 6 := by
    rintro n (rfl | rfl | rfl) <;> decide
  rw [BitVec.shiftLeft_ushiftRight, mask _ (bits_eq c)]

theorem csrWrite_jvt_eq (s : State) (v : BitVec s.cfg.bits) :
    s.csrWrite 0x017 v = { s with jvt := (s.cfg.jvtLegal s.draws v).setWidth 128 } := rfl

theorem csrWrite_jvt_ok (s : State) (v : BitVec s.cfg.bits) : (s.csrWrite 0x017 v).jvtOk :=
  jvtOk_of_jvtLegal (s := s) rfl rfl

/-- A value that BASE can hold, its MODE cleared, is the value taken. -/
theorem readJvt_csrWrite {s : State} {v : BitVec s.cfg.bits} (h : s.cfg.jvtHolds (v &&& ~~~63) = true) :
    (s.csrWrite 0x017 v).readJvt.toNat = v.toNat / 64 * 64 := by
  rw [clearSix] at h
  have hl : s.cfg.jvtLegal s.draws v = v >>> 6 <<< 6 := if_pos h
  let u : State := { s with jvt := (v >>> 6 <<< 6).setWidth 128 }
  have hu : s.csrWrite 0x017 v = u := by rw [csrWrite_jvt_eq, hl]
  have hr : u.readJvt = v >>> 6 <<< 6 := by
    refine (readJvt_of_jvt (s := u) rfl).trans ?_
    split
    · next b hb =>
      have hb : s.cfg.jvtBase = .readOnly b := hb
      rw [Config.jvtHolds, hb] at h
      exact (beq_iff_eq.mp h).symm
    · rfl
  rw [hu, hr]; exact clearLow_toNat v 6

theorem csrWrite_other (s : State) {a : BitVec 12} (h : a ∉ [0x001#12, 0x002#12, 0x003#12, 0x017#12])
    (v : BitVec s.cfg.bits) : s.csrWrite a v = s := by
  obtain ⟨h1, h2, h3, h4⟩ := ne_control h
  rw [State.csrWrite, if_neg h1, if_neg h2, if_neg h3, if_neg h4]

theorem setWidth_ushiftRight_eq {n : Nat} (v : BitVec n) (k m : Nat) : (v >>> k).setWidth m = v.extractLsb' k m := by
  apply BitVec.eq_of_toNat_eq
  rw [BitVec.toNat_setWidth, BitVec.toNat_ushiftRight, BitVec.extractLsb'_toNat]

theorem csrWrite_fcsr_eq (s : State) (v : BitVec s.cfg.bits) :
    s.csrWrite 0x003 v = { s with frm := v.extractLsb' 5 3, fflags := v.setWidth 5 } := by
  rw [← setWidth_ushiftRight_eq]; rfl

theorem readJvt_readOnly {s : State} {b : Cell} (h : s.cfg.jvtBase = .readOnly b) :
    s.readJvt.toNat = b.toNat % 2 ^ s.cfg.bits / 64 * 64 := by
  rw [State.readJvt, h]
  refine (clearLow_toNat _ 6).trans ?_
  rw [BitVec.toNat_setWidth]; rfl

end Sys2Proof.Machine

namespace Sys2Proof.Proofs
open Sys2Proof Sys2Proof.Machine

/-- Settles O39, address by address. -/
theorem controlRegisterAndCounterViews : Obligations.ControlRegisterAndCounterViews := by
  refine ⟨fun s => ⟨fun h => ⟨csrRead_fcsr s h, ?_⟩, rfl, fun h => ⟨?_, ?_, ?_⟩, fun a h h1 h2 => csrRead_absent s h h1 h2,
    fun v => ?_, fun b h => readJvt_readOnly h, ?_⟩, fun s => ⟨fun h => ?_, fun h => ?_, fun h => ?_, fun k hk hk31 => ?_⟩⟩
  · simp [State.csrRead, h]
  · simp [State.csrRead, h]
  · simp [State.csrRead, h]
  · simp [State.csrRead, h]
  · obtain ⟨hmode, hholds⟩ := csrWrite_jvt_ok s v
    refine ⟨csrWrite_fcsr_eq s v, rfl, rfl, fun a h => csrWrite_other s h v, hmode, hholds, fun h => readJvt_csrWrite h,
      fun h => by rw [Config.jvtHolds, h]⟩
  · simp [State.csrRead]
  · obtain ⟨h0, h1, h2⟩ := counter_base s
    rw [if_pos h] at h0 h1 h2
    exact ⟨csrRead_low_some (k := 0) h0, csrRead_low_some (k := 1) h1, csrRead_low_some (k := 2) h2, fun hx =>
      ⟨csrRead_high_some (k := 0) hx h0, csrRead_high_some (k := 1) hx h1, csrRead_high_some (k := 2) hx h2⟩⟩
  · obtain ⟨h0, h1, h2⟩ := counter_base s
    rw [if_neg (by rw [h]; decide)] at h0 h1 h2
    obtain ⟨l0, u0⟩ := csrRead_none (k := 0) h0
    obtain ⟨l1, u1⟩ := csrRead_none (k := 1) h1
    obtain ⟨l2, u2⟩ := csrRead_none (k := 2) h2
    exact ⟨l0, l1, l2, u0, u1, u2⟩
  · exact ⟨csrRead_high_absent h 0, csrRead_high_absent h 1, csrRead_high_absent h 2⟩
  · have hc := counter_hpm s hk
    refine ⟨fun h hz hf => ?_, fun hn => ?_⟩
    · rw [if_pos hz, hpmValue_some hf] at hc
      refine ⟨?_, fun hx => ?_, fun hx => csrRead_high_absent hx ⟨k, by omega⟩, fun hs len => ?_⟩
      · exact (csrRead_low_some (k := ⟨k, by omega⟩) hc).trans (congrArg some (lowHalf_ofNat _ _ (hpm_lt h)))
      · rw [csrRead_high_some (k := ⟨k, by omega⟩) hx hc, BitVec.toNat_ofNat, Nat.mod_eq_of_lt (hpm_lt h)]
      · exact constant_mem_tick (List.mem_of_find?_eq_some hf) hs
    · refine csrRead_none (k := ⟨k, by omega⟩) (hc.trans ?_)
      rcases hn with hn | hn
      · rw [if_neg (by rw [hn]; decide)]
      · rw [hpmValue_none hn, ite_self]

end Sys2Proof.Proofs
end

section
/-! PROOFS. The floating-point instructions: what they write is the result of their operation (45_f.md, 46_d_q_zfh.md,
48_zfinx_zfa_cmo_zawrs.md); the operations themselves are in the parts after this one. -/

namespace Sys2Proof.Machine

/-! ### The sign injections -/

theorem Fmt.width_pos (f : Fmt) : 0 < f.width := by cases f <;> decide

theorem withSign_toNat (f : Fmt) (a : BitVec f.width) (neg : Bool) :
    (f.withSign a neg).toNat = 2 ^ (f.width - 1) * neg.toNat + a.toNat % 2 ^ (f.width - 1) := by
  have hw : 2 ^ f.width = 2 ^ (f.width - 1) * 2 := by rw [← Nat.pow_succ]; congr 1; have := Fmt.width_pos f; omega
  have hlt := Nat.mod_lt a.toNat (Nat.two_pow_pos (f.width - 1))
  rw [Fmt.withSign, BitVec.toNat_ofNat, Nat.mod_eq_of_lt]
  · cases neg <;> simp [Nat.add_comm]
  · rw [hw]; cases neg <;> simp <;> omega

/-- Every bit but the sign is kept. -/
theorem withSign_getLsbD_low {f : Fmt} (a : BitVec f.width) (neg : Bool) {k : Nat} (hk : k < f.width - 1) :
    (f.withSign a neg).getLsbD k = a.getLsbD k := by
  rw [BitVec.getLsbD, BitVec.getLsbD, withSign_toNat, Nat.testBit_two_pow_mul_add _ (Nat.mod_lt _ (Nat.two_pow_pos _)),
    if_pos hk, Nat.testBit_mod_two_pow, decide_eq_true hk, Bool.true_and]

theorem withSign_getLsbD_sign (f : Fmt) (a : BitVec f.width) (neg : Bool) :
    (f.withSign a neg).getLsbD (f.width - 1) = neg := by
  rw [BitVec.getLsbD, withSign_toNat, Nat.testBit_two_pow_mul_add _ (Nat.mod_lt _ (Nat.two_pow_pos _)),
    if_neg (lt_irrefl _), Nat.sub_self]
  cases neg <;> rfl

theorem signField_eq {f : Fmt} (v : BitVec f.width) : f.signField v = v.getLsbD (f.width - 1) := by
  rw [← BitVec.msb_eq_getLsbD_last, BitVec.msb_eq_decide]; rfl

theorem eq_some_of_toNat {w : Nat} {o : Option (BitVec w)} {v : BitVec w} (h : o.map BitVec.toNat = some v.toNat) :
    o = some v := by
  obtain ⟨u, rfl, hu⟩ := Option.map_eq_some_iff.mp h
  rw [BitVec.eq_of_toNat_eq hu]

/-! ### Comparisons -/

/-- A comparison, with its flags. -/
theorem fpCompare_writes {i : Instr} {s : State} {f : Fmt} {rd rs1 rs2 : Reg} {rel : Fp → Fp → Bool}
    {flags : Fp → Fp → FpFlags} (h : exec i s = fpCompare f rd rs1 rs2 rel flags s) :
    WritesXFlags i s rd (if rel (s.fpVal f rs1) (s.fpVal f rs2) then 1 else 0) (flags (s.fpVal f rs1) (s.fpVal f rs2)) :=
  writesXFlags_of_exec h

/-- An instruction on the bits of two operands, without a rounding mode. -/
theorem fpBits2_writes {i : Instr} {s : State} {f : Fmt} {rd rs1 rs2 : Reg}
    {op : BitVec f.width → BitVec f.width → BitVec f.width × FpFlags} (h : exec i s = fpBits2 f rd rs1 rs2 op s) :
    WritesFp i s f rd (op (s.fpArg f rs1) (s.fpArg f rs2)) := writesFp_of_exec h

/-! ### A reserved rounding mode -/

section
variable {i : Instr} {s : State} {rm : BitVec 3}

theorem fp1_raises {f : Fmt} {rd rs1 : Reg}
    {op : RoundingMode → Fp → BitVec f.width × FpFlags} (h : exec i s = fp1 i f rd rs1 rm op s)
    (hm : s.effectiveMode rm = none) (hl : i.len = 4) : Raises i s (.illegalInstruction (encode i)) 4 :=
  withMode_raises h hm hl

theorem fp2_raises {f : Fmt} {rd rs1 rs2 : Reg}
    {op : RoundingMode → Fp → Fp → BitVec f.width × FpFlags} (h : exec i s = fp2 i f rd rs1 rs2 rm op s)
    (hm : s.effectiveMode rm = none) (hl : i.len = 4) : Raises i s (.illegalInstruction (encode i)) 4 :=
  withMode_raises h hm hl

theorem fp3_raises {f : Fmt} {rd rs1 rs2 rs3 : Reg} {np na : Bool} (h : exec i s = fp3 i f rd rs1 rs2 rs3 rm np na s)
    (hm : s.effectiveMode rm = none) (hl : i.len = 4) : Raises i s (.illegalInstruction (encode i)) 4 :=
  withMode_raises h hm hl

theorem fpToInt_raises {f : Fmt} {rd rs1 : Reg} {w : Nat} {lo hi : Int} (h : exec i s = fpToInt i f rd rs1 rm w lo hi s)
    (hm : s.effectiveMode rm = none) (hl : i.len = 4) : Raises i s (.illegalInstruction (encode i)) 4 :=
  withMode_raises h hm hl

theorem fpOfInt_raises {f : Fmt} {rd rs1 : Reg} {w : Nat} {signed : Bool} (h : exec i s = fpOfInt i f rd rs1 rm w signed s)
    (hm : s.effectiveMode rm = none) (hl : i.len = 4) : Raises i s (.illegalInstruction (encode i)) 4 :=
  withMode_raises h hm hl

theorem fpConvert_raises {dst src : Fmt} {rd rs1 : Reg} (h : exec i s = fpConvert i dst src rd rs1 rm s)
    (hm : s.effectiveMode rm = none) (hl : i.len = 4) : Raises i s (.illegalInstruction (encode i)) 4 :=
  withMode_raises h hm hl

theorem fpRound_raises {f : Fmt} {exact : Bool} {rd rs1 : Reg} (h : exec i s = fpRound i f exact rd rs1 rm s)
    (hm : s.effectiveMode rm = none) (hl : i.len = 4) : Raises i s (.illegalInstruction (encode i)) 4 :=
  withMode_raises h hm hl

end

theorem rmField_raises {i : Instr} {s : State} {rm : BitVec 3} (h : i.rmField = some rm) (hm : s.effectiveMode rm = none) :
    Raises i s (.illegalInstruction (encode i)) 4 := by
  cases i with
  | fmaddS _ _ _ _ _ | fmsubS _ _ _ _ _ | fnmsubS _ _ _ _ _ | fnmaddS _ _ _ _ _ | fmaddD _ _ _ _ _
  | fmsubD _ _ _ _ _ | fnmsubD _ _ _ _ _ | fnmaddD _ _ _ _ _ | fmaddQ _ _ _ _ _ | fmsubQ _ _ _ _ _
  | fnmsubQ _ _ _ _ _ | fnmaddQ _ _ _ _ _ | fmaddH _ _ _ _ _ | fmsubH _ _ _ _ _ | fnmsubH _ _ _ _ _
  | fnmaddH _ _ _ _ _ => cases h; exact fp3_raises rfl hm rfl
  | faddS _ _ _ _ | fsubS _ _ _ _ | fmulS _ _ _ _ | fdivS _ _ _ _ | faddD _ _ _ _ | fsubD _ _ _ _ | fmulD _ _ _ _
  | fdivD _ _ _ _ | faddQ _ _ _ _ | fsubQ _ _ _ _ | fmulQ _ _ _ _ | fdivQ _ _ _ _ | faddH _ _ _ _ | fsubH _ _ _ _
  | fmulH _ _ _ _ | fdivH _ _ _ _ => cases h; exact fp2_raises rfl hm rfl
  | fsqrtS _ _ _ | fsqrtD _ _ _ | fsqrtQ _ _ _ | fsqrtH _ _ _ => cases h; exact fp1_raises rfl hm rfl
  | fcvtWS _ _ _ | fcvtWuS _ _ _ | fcvtLS _ _ _ | fcvtLuS _ _ _ | fcvtWD _ _ _ | fcvtWuD _ _ _ | fcvtLD _ _ _
  | fcvtLuD _ _ _ | fcvtWQ _ _ _ | fcvtWuQ _ _ _ | fcvtLQ _ _ _ | fcvtLuQ _ _ _ | fcvtWH _ _ _ | fcvtWuH _ _ _
  | fcvtLH _ _ _ | fcvtLuH _ _ _ => cases h; exact fpToInt_raises rfl hm rfl
  | fcvtSW _ _ _ | fcvtSWu _ _ _ | fcvtSL _ _ _ | fcvtSLu _ _ _ | fcvtDW _ _ _ | fcvtDWu _ _ _ | fcvtDL _ _ _
  | fcvtDLu _ _ _ | fcvtQW _ _ _ | fcvtQWu _ _ _ | fcvtQL _ _ _ | fcvtQLu _ _ _ | fcvtHW _ _ _ | fcvtHWu _ _ _
  | fcvtHL _ _ _ | fcvtHLu _ _ _ => cases h; exact fpOfInt_raises rfl hm rfl
  | fcvtSD _ _ _ | fcvtDS _ _ _ | fcvtSQ _ _ _ | fcvtQS _ _ _ | fcvtDQ _ _ _ | fcvtQD _ _ _ | fcvtSH _ _ _
  | fcvtHS _ _ _ | fcvtDH _ _ _ | fcvtHD _ _ _ | fcvtQH _ _ _ | fcvtHQ _ _ _ =>
    cases h; exact fpConvert_raises rfl hm rfl
  | froundS _ _ _ | froundnxS _ _ _ | froundD _ _ _ | froundnxD _ _ _ | froundH _ _ _ | froundnxH _ _ _
  | froundQ _ _ _ | froundnxQ _ _ _ => cases h; exact fpRound_raises rfl hm rfl
  | _ => cases h

theorem roundingModeOf_eq (rm : BitVec 3) : roundingModeOf rm =
    if rm = 0 then some .rne else if rm = 1 then some .rtz else if rm = 2 then some .rdn else if rm = 3 then some .rup
      else if rm = 4 then some .rmm else none := by
  revert rm; decide

/-! ### NaN boxing (10_state.md R42, R43) -/

theorem shiftRight_allOnes_iff {flen w : Nat} (v : BitVec flen) :
    v >>> w = BitVec.allOnes flen >>> w ↔ ∀ k, w ≤ k → k < flen → v.getLsbD k = true := by
  constructor
  · intro h k hw hk
    have := congrArg (fun u : BitVec flen => u.getLsbD (k - w)) h
    simpa [Nat.add_sub_cancel' hw, hk] using this
  · intro h
    refine BitVec.eq_of_getLsbD_eq fun i hi => ?_
    rw [BitVec.getLsbD_ushiftRight, BitVec.getLsbD_ushiftRight, BitVec.getLsbD_allOnes]
    by_cases hk : w + i < flen
    · rw [h _ (Nat.le_add_right _ _) hk, decide_eq_true hk]
    · rw [BitVec.getLsbD_of_ge _ _ (by omega), decide_eq_false hk]

theorem unbox_eq {flen w : Nat} (nan : BitVec w) (v : Cell) :
    unbox flen w nan v = if (∀ k, w ≤ k → k < flen → v.getLsbD k = true) then v.setWidth w else nan := by
  have hbits : (∀ k, w ≤ k → k < flen → (v.setWidth flen).getLsbD k = true) ↔
      ∀ k, w ≤ k → k < flen → v.getLsbD k = true :=
    forall₃_congr fun k _ hk => by rw [BitVec.getLsbD_setWidth, decide_eq_true hk, Bool.true_and]
  rw [unbox]
  exact if_congr ((shiftRight_allOnes_iff _).trans hbits) rfl rfl

end Sys2Proof.Machine

namespace Sys2Proof.Proofs
open Sys2Proof Sys2Proof.Machine

/-- Settles O40: each is `fp1`, `fp2` or `fp3` of its format and operation. -/
theorem floatArithmeticWritesItsResult : Obligations.FloatArithmeticWritesItsResult := by
  refine ⟨fun s rd rs1 rs2 rs3 rm mode hm => ?_, fun s rd rs1 rs2 rm mode hm => ?_⟩
  · exact ⟨fp3_writes false false rfl hm, fp3_writes false true rfl hm, fp3_writes true false rfl hm,
      fp3_writes true true rfl hm, fp3_writes false false rfl hm, fp3_writes false true rfl hm,
      fp3_writes true false rfl hm, fp3_writes true true rfl hm, fp3_writes false false rfl hm,
      fp3_writes false true rfl hm, fp3_writes true false rfl hm, fp3_writes true true rfl hm,
      fp3_writes false false rfl hm, fp3_writes false true rfl hm, fp3_writes true false rfl hm,
      fp3_writes true true rfl hm⟩
  · exact ⟨fp2_writes rfl hm, fp2_writes rfl hm, fp2_writes rfl hm, fp2_writes rfl hm, fp2_writes rfl hm,
      fp2_writes rfl hm, fp2_writes rfl hm, fp2_writes rfl hm, fp2_writes rfl hm, fp2_writes rfl hm,
      fp2_writes rfl hm, fp2_writes rfl hm, fp2_writes rfl hm, fp2_writes rfl hm, fp2_writes rfl hm,
      fp2_writes rfl hm, fp1_writes rfl hm, fp1_writes rfl hm, fp1_writes rfl hm, fp1_writes rfl hm⟩

/-- Settles O41: each is `fpToInt`, `fpOfInt`, `fpConvert` or `fpRound` of its formats. -/
theorem floatConversionsWriteTheirResult : Obligations.FloatConversionsWriteTheirResult := by
  refine ⟨fun s rd rs1 rm mode hm => ?_, fun s rd rs1 rm mode hm => ?_, fun s rd rs1 rm mode hm => ?_⟩
  · exact ⟨fpToInt_writes rfl hm, fpToInt_writes rfl hm, fpToInt_writes rfl hm, fpToInt_writes rfl hm,
      fpToInt_writes rfl hm, fpToInt_writes rfl hm, fpToInt_writes rfl hm, fpToInt_writes rfl hm,
      fpToInt_writes rfl hm, fpToInt_writes rfl hm, fpToInt_writes rfl hm, fpToInt_writes rfl hm,
      fpToInt_writes rfl hm, fpToInt_writes rfl hm, fpToInt_writes rfl hm, fpToInt_writes rfl hm⟩
  · exact ⟨fpOfInt_writes 32 true rfl hm, fpOfInt_writes 32 false rfl hm, fpOfInt_writes 64 true rfl hm,
      fpOfInt_writes 64 false rfl hm, fpOfInt_writes 32 true rfl hm, fpOfInt_writes 32 false rfl hm,
      fpOfInt_writes 64 true rfl hm, fpOfInt_writes 64 false rfl hm, fpOfInt_writes 32 true rfl hm,
      fpOfInt_writes 32 false rfl hm, fpOfInt_writes 64 true rfl hm, fpOfInt_writes 64 false rfl hm,
      fpOfInt_writes 32 true rfl hm, fpOfInt_writes 32 false rfl hm, fpOfInt_writes 64 true rfl hm,
      fpOfInt_writes 64 false rfl hm, fpConvert_writes rfl hm, fpConvert_writes rfl hm, fpConvert_writes rfl hm,
      fpConvert_writes rfl hm, fpConvert_writes rfl hm, fpConvert_writes rfl hm, fpConvert_writes rfl hm,
      fpConvert_writes rfl hm, fpConvert_writes rfl hm, fpConvert_writes rfl hm, fpConvert_writes rfl hm,
      fpConvert_writes rfl hm⟩
  · exact ⟨fpRound_writes rfl hm, fpRound_writes rfl hm, fpRound_writes rfl hm, fpRound_writes rfl hm,
      fpRound_writes rfl hm, fpRound_writes rfl hm, fpRound_writes rfl hm, fpRound_writes rfl hm⟩

/-- Settles O42: the sign injections and selections act on the bits of their operands; the table of FLI is evaluated. -/
theorem signInjectionAndSelectionWriteTheirResult : Obligations.SignInjectionAndSelectionWriteTheirResult := by
  refine ⟨fun s rd rs1 rs2 idx => ?_, fun f u v k => ?_, ?_⟩
  · exact ⟨fpBits2_writes rfl, fpBits2_writes rfl, fpBits2_writes rfl, fpBits2_writes rfl, fpBits2_writes rfl,
      fpBits2_writes rfl, fpBits2_writes rfl, fpBits2_writes rfl, fpBits2_writes rfl, fpBits2_writes rfl,
      fpBits2_writes rfl, fpBits2_writes rfl, fpBits2_writes rfl, fpBits2_writes rfl, fpBits2_writes rfl,
      fpBits2_writes rfl, fpBits2_writes rfl, fpBits2_writes rfl, fpBits2_writes rfl, fpBits2_writes rfl,
      fpBits2_writes rfl, fpBits2_writes rfl, fpBits2_writes rfl, fpBits2_writes rfl, fpBits2_writes rfl,
      fpBits2_writes rfl, fpBits2_writes rfl, fpBits2_writes rfl, writesFp_of_const rfl, writesFp_of_const rfl,
      writesFp_of_const rfl, writesFp_of_const rfl⟩
  · refine ⟨rfl, rfl, rfl, fun hk => ?_, fun hk => ?_⟩
    · exact ⟨withSign_getLsbD_low _ _ hk, withSign_getLsbD_low _ _ hk, withSign_getLsbD_low _ _ hk⟩
    · subst hk
      rw [← signField_eq v, ← signField_eq u, ← Bool.bne_eq_xor]
      exact ⟨withSign_getLsbD_sign f u _, withSign_getLsbD_sign f u _, withSign_getLsbD_sign f u _⟩
  · intro half single double quad idx
    refine ⟨eq_some_of_toNat ?_, eq_some_of_toNat ?_, eq_some_of_toNat ?_, eq_some_of_toNat ?_⟩
    all_goals revert idx; decide +kernel

/-- Settles O43: a comparison is `fpCompare`, and a class or a move writes what it reads. -/
theorem comparisonsClassesAndMovesWriteTheirResult : Obligations.ComparisonsClassesAndMovesWriteTheirResult := by
  refine ⟨fun s rd rs1 rs2 => ?_, fun s rd rs1 rs2 => ?_⟩
  · exact ⟨fpCompare_writes rfl, fpCompare_writes rfl, fpCompare_writes rfl, fpCompare_writes rfl,
      fpCompare_writes rfl, fpCompare_writes rfl, fpCompare_writes rfl, fpCompare_writes rfl, fpCompare_writes rfl,
      fpCompare_writes rfl, fpCompare_writes rfl, fpCompare_writes rfl, fpCompare_writes rfl, fpCompare_writes rfl,
      fpCompare_writes rfl, fpCompare_writes rfl, fpCompare_writes rfl, fpCompare_writes rfl, fpCompare_writes rfl,
      fpCompare_writes rfl, writesX_of_exec rfl, writesX_of_exec rfl, writesX_of_exec rfl, writesX_of_exec rfl⟩
  · exact ⟨writesX_of_exec rfl, writesX_of_exec rfl, writesX_of_exec rfl, writesF_of_exec rfl, writesF_of_exec rfl,
      writesF_of_exec rfl, writesX_of_exec rfl, writesX_of_exec rfl, writesF_of_exec rfl, writesF_of_exec rfl,
      writesXFlags_of_exec rfl⟩

/-- Settles O44: every instruction with an rm field runs in its effective mode, or raises. -/
theorem reservedRoundingModesRaiseIllegal : Obligations.ReservedRoundingModesRaiseIllegal := by
  refine fun s => ⟨fun rm h => ?_, roundingModeOf_eq s.frm, fun i rm hf hm => rmField_raises hf hm⟩
  rw [State.effectiveMode, if_neg h, roundingModeOf_eq]

/-- Settles O45. -/
theorem boxAndUnbox : Obligations.BoxAndUnbox := by
  intro flen f hflen hw
  have hf : flen ≤ 128 := by omega
  exact ⟨fun r => ⟨box_toNat hw hf r, unbox_box hw hf r _⟩, fun v => unbox_eq _ v⟩

end Sys2Proof.Proofs
end

section
/-! PROOFS. What only some instructions touch: frm, jvt and the flags, the reservation, memory. One lemma per ending, and
one induction over the updates of an instruction for each part of the state. -/

namespace Sys2Proof.Machine

/-! ### Endings -/

/-- An ending leaves the registers an exception may not touch as the updates left them, unless it is an exception. -/
theorem ending_keepsData {i : Instr} {s u t : State} (h : Ending i s u t) :
    (t.frm = u.frm ∧ t.jvt = u.jvt ∧ t.fflags = u.fflags ∧ t.reservation = u.reservation ∧ t.mem = u.mem) ∨
      ∃ e, t = u.raise e i.len := by
  cases h with
  | retire => exact .inl ⟨rfl, rfl, rfl, rfl, rfl⟩
  | transfer v _ => exact .inl ⟨rfl, rfl, rfl, rfl, rfl⟩
  | raise e => exact .inr ⟨e, rfl⟩
  | stall h => subst h; exact .inl ⟨rfl, rfl, rfl, rfl, rfl⟩

/-- Where every exception ends the hart, no ending touches more than pc, time, instret, the stall and the report. -/
theorem ending_keepsData_of_allFatal {i : Instr} {s u t : State} (hs : s.allFatal) (hu : Updates i s u)
    (h : Ending i s u t) :
    t.frm = u.frm ∧ t.jvt = u.jvt ∧ t.fflags = u.fflags ∧ t.reservation = u.reservation ∧ t.mem = u.mem := by
  rcases ending_keepsData h with h | ⟨e, rfl⟩
  · exact h
  · have hf : u.allFatal := by unfold State.allFatal; rw [updates_cfg hu]; exact hs
    rw [raise_allFatal hf]
    exact ⟨rfl, rfl, rfl, rfl, rfl⟩

theorem exec_effect_next {i : Instr} {s t : State} (h : exec i s = .next t) : ∃ u, Updates i s u ∧ Ending i s u t := by
  obtain ⟨u, t', ht, hu, he⟩ := exec_effect i s
  obtain rfl : t = t' := by rw [h] at ht; cases ht; rfl
  exact ⟨u, hu, he⟩

/-! ### frm, jvt and the flags -/

/-- From `s` to `t` frm and jvt are kept, and no flag is cleared. -/
def State.OnlySetsFlags (s t : State) : Prop :=
  t.frm = s.frm ∧ t.jvt = s.jvt ∧ ∃ flags, t.fflags = s.fflags ||| flags

theorem State.onlySetsFlags_of_eq {s t : State} (h1 : t.frm = s.frm) (h2 : t.jvt = s.jvt) (h3 : t.fflags = s.fflags) :
    s.OnlySetsFlags t := ⟨h1, h2, 0, h3.trans (BitVec.or_zero).symm⟩

theorem State.OnlySetsFlags.trans {s t u : State} (h : s.OnlySetsFlags t) (k : t.OnlySetsFlags u) :
    s.OnlySetsFlags u := by
  obtain ⟨h1, h2, fl, h3⟩ := h
  obtain ⟨k1, k2, fl', k3⟩ := k
  exact ⟨k1.trans h1, k2.trans h2, fl ||| fl', by rw [k3, h3, BitVec.or_assoc]⟩

theorem update_onlySetsFlags {i : Instr} {s t : State} (hi : i.isCsr = false) (h : Update i s t) : s.OnlySetsFlags t := by
  cases h with
  | accrue fl => exact ⟨rfl, rfl, fl, rfl⟩
  | csrWrite a v h => rw [hi] at h; cases h
  | _ => exact State.onlySetsFlags_of_eq (by simp) (by simp) (by simp)

theorem updates_onlySetsFlags {i : Instr} {s t : State} (hi : i.isCsr = false) (h : Updates i s t) :
    s.OnlySetsFlags t := by
  induction h with
  | refl => exact State.onlySetsFlags_of_eq rfl rfl rfl
  | tail _ h ih => exact ih.trans (update_onlySetsFlags hi h)

/-! ### The reservation and memory -/

theorem update_reservation {i : Instr} {s t : State} (hi : i.isLrSc = false) (h : Update i s t) :
    t.reservation = s.reservation := by
  cases h with
  | reserve a n h => rw [hi] at h; cases h
  | unreserve h => rw [hi] at h; cases h
  | _ => simp

theorem updates_reservation {i : Instr} {s t : State} (hi : i.isLrSc = false) (h : Updates i s t) :
    t.reservation = s.reservation := by
  induction h with
  | refl => rfl
  | tail _ h ih => exact (update_reservation hi h).trans ih

theorem update_mem {i : Instr} {s t : State} (hi : i.mayStore = false) (h : Update i s t) : t.mem = s.mem := by
  cases h with
  | write ea n v h => rw [hi] at h; cases h
  | _ => simp

theorem updates_mem {i : Instr} {s t : State} (hi : i.mayStore = false) (h : Updates i s t) : t.mem = s.mem := by
  induction h with
  | refl => rfl
  | tail _ h ih => exact (update_mem hi h).trans ih

end Sys2Proof.Machine

namespace Sys2Proof.Proofs
open Sys2Proof Sys2Proof.Machine

/-- Settles O57: every update but a CSR write keeps frm and jvt and clears no flag. -/
theorem onlyCsrInstructionsWriteControl : Obligations.OnlyCsrInstructionsWriteControl := by
  intro i s t hi h
  obtain ⟨u, hu, he⟩ := exec_effect_next h
  have hset := updates_onlySetsFlags hi hu
  refine ⟨⟨u, hset, ?_⟩, fun hf => ?_⟩
  · exact (ending_keepsData he).imp (fun ⟨h1, h2, h3, _, _⟩ => ⟨h1, h2, h3⟩) id
  · obtain ⟨h1, h2, h3, -, -⟩ := ending_keepsData_of_allFatal hf hu he
    exact hset.trans (State.onlySetsFlags_of_eq h1 h2 h3)

/-- Settles O58: only the updates of LR and SC touch the reservation. -/
theorem onlyLrAndScTouchTheReservation : Obligations.OnlyLrAndScTouchTheReservation := by
  intro i s t hi h
  obtain ⟨u, hu, he⟩ := exec_effect_next h
  have hkept := updates_reservation hi hu
  refine ⟨⟨u, hkept, ?_⟩, fun hf => ?_⟩
  · exact (ending_keepsData he).imp (fun ⟨_, _, _, h4, _⟩ => h4) id
  · obtain ⟨-, -, -, h4, -⟩ := ending_keepsData_of_allFatal hf hu he
    exact h4.trans hkept

/-- Settles O59: only the updates of the storing instructions write memory. -/
theorem onlyStoresWriteMemory : Obligations.OnlyStoresWriteMemory := by
  intro i s t hf hi h a
  obtain ⟨u, hu, he⟩ := exec_effect_next h
  obtain ⟨-, -, -, -, h5⟩ := ending_keepsData_of_allFatal hf hu he
  rw [State.byte, h5, updates_mem hi hu, ← State.byte]

end Sys2Proof.Proofs
end

section
/-! PROOFS. The cache-block operations (48_zfinx_zfa_cmo_zawrs.md R670 to R684), the double moves (49_zc.md R730, R731)
and the table jumps (49_zc.md R737 to R743). -/

namespace Sys2Proof.Machine

/-! ### Zeros to a block of any size -/

/-- Storing zeros: a byte of main memory that is stored to is 0, however often; any other byte is as it was. -/
theorem storeBytes_zeros_byte (s : State) (as : List Nat) (h : s.memOk) (a : Nat) :
    (s.storeBytes as (List.replicate as.length 0)).byte a = if a ∈ as ∧ s.cfg.isIo a = false then 0 else s.byte a := by
  induction as generalizing s with
  | nil => simp [State.storeBytes]
  | cons a0 as ih =>
    rw [List.length_cons, List.replicate_succ, State.storeBytes, ih _ (storeByte_memOk s a0 0 h), State.storeByte_cfg]
    by_cases hrest : a ∈ as ∧ s.cfg.isIo a = false
    · rw [if_pos hrest, if_pos ⟨List.mem_cons_of_mem _ hrest.1, hrest.2⟩]
    · rw [if_neg hrest]
      by_cases he : a = a0
      · subst he
        cases hio : s.cfg.isIo a with
        | false => rw [if_pos ⟨List.mem_cons_self, rfl⟩, storeByte_byte_self s a 0 h hio]
        | true => rw [if_neg (by simp), State.storeByte, if_pos hio]
      · rw [storeByte_byte_ne s a0 a 0 he, if_neg]
        rintro ⟨hm, hio⟩
        exact hrest ⟨(List.mem_cons.mp hm).resolve_left he, hio⟩

theorem bytesOf_zero (s : State) (n : Nat) : s.bytesOf n 0 = List.replicate n 0 := by
  simp [State.bytesOf, Nat.zero_div, List.map_const']

/-- Writing 0 over `n` bytes: those of main memory are 0, any other byte is as it was. -/
theorem writeMem_zero_byte (s : State) (ea n : Nat) (h : s.memOk) (a : Nat) :
    (s.writeMem ea n 0).byte a = if a ∈ span s.cfg.bits ea n ∧ s.cfg.isIo a = false then 0 else s.byte a := by
  have hz : natToBytes s.cfg.endian n 0 = List.replicate (span s.cfg.bits ea n).length 0 := by
    rw [natToBytes_eq, bytesOf_zero, span_length]
  have key := storeBytes_zeros_byte s (span s.cfg.bits ea n) h a
  rw [← hz] at key
  unfold State.writeMem State.noteWrite
  split <;> exact key

/-! ### The cache-block operations -/

theorem cboManage_noEffect {i : Instr} {s : State} {enabled : Bool} {rs1 : Reg} (h : exec i s = cboManage i enabled rs1 s)
    (he : enabled = true) (ha : s.cfg.cboAccess (s.readX s.cfg.bits rs1).toNat = true) : NoEffect i s 4 :=
  noEffect_of_exec (by rw [h, cboManage, if_pos he, addr_zero, if_pos ha])

theorem cboManage_disabled {i : Instr} {s : State} {enabled : Bool} {rs1 : Reg} (h : exec i s = cboManage i enabled rs1 s)
    (hl : i.len = 4) (he : enabled = false) : Raises i s (.illegalInstruction (encode i)) 4 := by
  rw [Raises, h, cboManage, if_neg (by simp [he]), State.raiseIllegal, hl]

theorem cboManage_denied {i : Instr} {s : State} {enabled : Bool} {rs1 : Reg} (h : exec i s = cboManage i enabled rs1 s)
    (he : enabled = true) (ha : s.cfg.cboAccess (s.readX s.cfg.bits rs1).toNat = false) :
    Raises i s (.storeAccessFault (BitVec.ofNat 128 (s.readX s.cfg.bits rs1).toNat)) 4 := by
  rw [Raises, h, cboManage, if_pos he, addr_zero, if_neg (by simp [ha])]; rfl

/-- What a management instruction does, enabled or not, permitted or not. -/
theorem cboManage_cases {i : Instr} {s : State} {enabled : Bool} {rs1 : Reg} (h : exec i s = cboManage i enabled rs1 s)
    (hl : i.len = 4) :
    (enabled = true → s.cfg.cboAccess (s.readX s.cfg.bits rs1).toNat = true → NoEffect i s 4) ∧
      (enabled = false → Raises i s (.illegalInstruction (encode i)) 4) ∧
      (enabled = true → s.cfg.cboAccess (s.readX s.cfg.bits rs1).toNat = false →
        Raises i s (.storeAccessFault (BitVec.ofNat 128 (s.readX s.cfg.bits rs1).toNat)) 4) :=
  ⟨cboManage_noEffect h, cboManage_disabled h hl, cboManage_denied h⟩

/-! ### The registers of the double moves -/

/-- The s register of a 3-bit specifier: x8, x9, x18 to x23. -/
theorem sreg_eq : ∀ r : Reg3,
    sreg r = if r.toNat < 2 then BitVec.ofNat 5 (8 + r.toNat) else BitVec.ofNat 5 (16 + r.toNat) := by decide

theorem sreg_inj : ∀ r1 r2 : Reg3, sreg r1 = sreg r2 → r1 = r2 := by decide

theorem sreg_ne_zero : ∀ r : Reg3, sreg r ≠ 0 := by decide

/-- Two moves to different registers, neither x0: each takes the old value of its source. -/
theorem moveTwo_ok {i : Instr} {s : State} {d1 d2 s1 s2 : Reg} (h : exec i s = moveTwo d1 d2 s1 s2 s) (hd : d1 ≠ d2)
    (h1 : d1 ≠ 0) (h2 : d2 ≠ 0) :
    ∃ t, exec i s = .next t ∧ t.readX s.cfg.bits d1 = s.readX s.cfg.bits s1 ∧
      t.readX s.cfg.bits d2 = s.readX s.cfg.bits s2 ∧ s.RetiredTo t (s.after 2) ∧ s.KeepsRest t [d1, d2] [] [] := by
  refine ⟨_, h, ?_, ?_, ⟨?_, ?_⟩, ?_⟩
  · rw [State.retire, State.retireTo_readX, readX_setX_ne _ _ _ _ _ hd, readX_setX_self _ _ _ (bits_le_128 _), if_neg h1]
  · rw [State.retire, State.retireTo_readX, readX_setX_self _ _ _ (bits_le_128 _), if_neg h2]
  · rw [retire_pc]; exact after_congr (by simp) (by simp) 2
  · rw [retire_instret]; simp
  · exact ((setX_keeps s d1 _).trans (setX_keeps _ d2 _)).trans (retire_keeps _ 2)

/-! ### The jump table -/

/-- An implicit read of parcels of which none of the bytes is stale returns the bytes of memory. -/
theorem fetchBytes_current {s : State} {a m : Nat} (h : s.FetchesCurrent a (2 * m)) :
    s.fetchBytes a (2 * m) = (span s.cfg.bits a (2 * m)).map s.byte := by
  have parcel : ∀ k, k < m → s.parcelBytes ((a + 2 * k) % 2 ^ s.cfg.bits) =
      [s.byte ((a + 2 * k) % 2 ^ s.cfg.bits), s.byte ((a + (2 * k + 1)) % 2 ^ s.cfg.bits)] := by
    intro k hk
    rw [parcelBytes_current s _ (FetchesCurrent.mono h (span_parcel (j := 2 * k) (by omega))), Nat.mod_mod,
      Nat.mod_add_mod, Nat.add_assoc]
  have pairs : ∀ k, k ≤ m → (List.range k).flatMap (fun k => s.parcelBytes ((a + 2 * k) % 2 ^ s.cfg.bits)) =
      (span s.cfg.bits a (2 * k)).map s.byte := by
    intro k
    induction k with
    | zero => intro _; rfl
    | succ k ih =>
      intro hk
      rw [List.range_succ, List.flatMap_append, ih (by omega), List.flatMap_singleton, parcel k (by omega), Nat.mul_succ,
        span, span, List.range_succ, List.range_succ]
      simp
  rw [State.fetchBytes, Nat.mul_div_cancel_left m (by decide), pairs m le_rfl]

theorem bytes_even (c : Config) : ∃ m, c.bytes = 2 * m := by
  unfold Config.bytes
  cases c.xlen
  · exact ⟨2, rfl⟩
  · exact ⟨4, rfl⟩
  · exact ⟨8, rfl⟩

/-- An entry none of whose bytes is stale is read as the value of its bytes in the byte order of data. -/
theorem fetchBytes_value {s : State} {a : Nat} (h : s.FetchesCurrent a s.cfg.bytes) :
    bytesToNat s.cfg.endian (s.fetchBytes a s.cfg.bytes) = s.valueAt a s.cfg.bytes := by
  obtain ⟨m, hm⟩ := bytes_even s.cfg
  rw [hm] at h ⊢
  rw [fetchBytes_current h, bytesToNat_span]
  rfl

theorem jvtMode_iff (s : State) :
    (s.cfg.jvtEnabled && s.readJvt.setWidth 6 == 0) = true ↔ s.cfg.jvtEnabled = true ∧ s.readJvt.toNat % 64 = 0 := by
  rw [Bool.and_eq_true, beq_iff_eq, BitVec.toNat_eq, BitVec.toNat_setWidth]
  rfl

/-- What a table jump does: jvt enabled or not, the entry fetchable or not. -/
theorem tableJump_cases {i : Instr} {s : State} {index : BitVec 8} {link : Bool} (h : exec i s = tableJump i index link s)
    (hl : i.len = 2) :
    let base := s.readJvt &&& ~~~63
    let ea := (base + BitVec.ofNat s.cfg.bits (index.toNat * s.cfg.bytes)).toNat
    let on := s.cfg.jvtEnabled = true ∧ s.readJvt.toNat % 64 = 0
    (on → s.cfg.fetchable ea s.cfg.bytes = true → s.FetchesCurrent ea s.cfg.bytes →
      JumpsTo i s 2 (if link then 1 else 0) (BitVec.ofNat s.cfg.bits (s.valueAt ea s.cfg.bytes) &&& ~~~1)) ∧
    (on → s.cfg.fetchable ea s.cfg.bytes = false → Raises i s (.instructionAccessFault (BitVec.ofNat 128 ea)) 2) ∧
    (¬on → Raises i s (.illegalInstruction (encode i)) 2) := by
  intro base ea on
  have hea : s.tableAddr index = ea := by rw [State.tableAddr, ← clearSix]
  have hon : (s.cfg.jvtEnabled && s.readJvt.setWidth 6 == 0) = true ↔ on := jvtMode_iff s
  refine ⟨fun ho hf hc => ?_, fun ho hf => ?_, fun ho => ?_⟩
  · have htarget : s.tableTarget index = BitVec.ofNat s.cfg.bits (s.valueAt ea s.cfg.bytes) &&& ~~~1 := by
      rw [State.tableTarget, hea, fetchBytes_value hc]
    have he : exec i s = .next ((s.setX (if link then 1 else 0) (s.nextPc 2)).retireTo (s.tableTarget index)) := by
      rw [h, tableJump, if_pos (hon.mpr ho), hea, if_pos hf]
      cases link <;> rfl
    refine ⟨_, he, ?_, ⟨by rw [htarget]; rfl, ?_⟩, (setX_keeps s _ _).trans (retireTo_keeps _ _)⟩
    · rw [State.retireTo_readX, readX_setX_self _ _ _ (bits_le_128 _)]
    · rw [retireTo_instret]; simp
  · rw [Raises, h, tableJump, if_pos (hon.mpr ho), hea, if_neg (by simp [hf])]; rfl
  · rw [Raises, h, tableJump, if_neg (fun e => ho (hon.mp e)), State.raiseIllegal, hl]

end Sys2Proof.Machine

namespace Sys2Proof.Proofs
open Sys2Proof Sys2Proof.Machine

/-- Settles O50: the three management instructions are one form. -/
theorem cacheBlockManagementKeepsMemory : Obligations.CacheBlockManagementKeepsMemory := by
  intro s rs1
  simp only [List.forall_mem_cons]
  exact ⟨cboManage_cases rfl rfl, cboManage_cases rfl rfl, cboManage_cases rfl rfl, List.forall_mem_nil _⟩

/-- Settles O51: the block is written with the bytes of 0. -/
theorem cacheBlockZeroZeroesTheBlock : Obligations.CacheBlockZeroZeroesTheBlock := by
  intro s rs1 ea size block
  have hexec : exec (.cboZero rs1) s = cboZeroBlock (.cboZero rs1) rs1 s := rfl
  refine ⟨fun hm he ha => ?_, fun he => ?_, fun he ha => ?_⟩
  · have hrun : exec (.cboZero rs1) s = .next ((s.writeMem (ea / size * size) size 0).retire 4) := by
      rw [hexec, cboZeroBlock, if_pos he, addr_zero, if_pos ha]; rfl
    refine ⟨_, hrun, fun a hab => ?_, ?_, ⟨?_, ?_⟩, ?_, by simp, by simp, ?_⟩
    · rw [State.retire, State.retireTo_byte, writeMem_zero_byte s _ _ hm]
      cases hio : s.cfg.isIo a
      · rw [if_pos ⟨hab, rfl⟩]; rfl
      · rw [if_neg (by simp)]; rfl
    · simpa using (writeMem_keeps s (ea / size * size) size 0).trans (retire_keeps _ 4).toKeeps
    · rw [retire_pc]; exact after_congr (by simp) (by simp) 4
    · rw [retire_instret]; simp
    · exact writeMem_stale s _ _ _
    · have hio := writeMem_ioTrace s (ea / size * size) size 0
      rw [bytesOf_zero] at hio
      exact hio
  · rw [Raises, hexec, cboZeroBlock, if_neg (by simp [he]), State.raiseIllegal]; rfl
  · rw [Raises, hexec, cboZeroBlock, if_pos he, addr_zero, if_neg (by simpa using ha)]; rfl

/-- Settles O55: the s registers of two specifiers are different, and none of them is a0 or x0. -/
theorem doubleMovesMoveBoth : Obligations.DoubleMovesMoveBoth := by
  intro s r1 r2 sr
  have hsr : ∀ r, sr r = sreg r := fun r => (sreg_eq r).symm
  simp only [hsr]
  exact ⟨fun hne => moveTwo_ok rfl (fun e => hne (sreg_inj _ _ e)) (sreg_ne_zero r1) (sreg_ne_zero r2),
    moveTwo_ok rfl (by decide) (by decide) (by decide)⟩

/-- Settles O56: CM.JT and CM.JALT are one form, with and without a link. -/
theorem tableJumpsGoToTheEntry : Obligations.TableJumpsGoToTheEntry := by
  intro s i5 i8
  have hjt := tableJump_cases (i := .cmJt i5) (s := s) (index := i5.setWidth 8) (link := false) rfl rfl
  have hjalt := tableJump_cases (i := .cmJalt i8) (s := s) (index := i8) (link := true) rfl rfl
  have hi : (i5.setWidth 8).toNat = i5.toNat := BitVec.toNat_setWidth_of_le (by decide)
  rw [hi] at hjt
  simp only [List.forall_mem_cons]
  exact ⟨hjt, hjalt, List.forall_mem_nil _⟩

end Sys2Proof.Proofs
end

section
/-! PROOFS. CM.PUSH, CM.POP, CM.POPRET and CM.POPRETZ (49_zc.md R720 to R729): what the accesses to the slots leave, all of
them or those before the first bad one. -/

namespace Sys2Proof.Machine

/-! ### The lists of registers (49_zc.md R720) -/

theorem regList_length_le : ∀ rlist : BitVec 4, (regList rlist).length ≤ 13 := by decide

theorem regList_nodup : ∀ rlist : BitVec 4, (regList rlist).Nodup := by decide

theorem x0_notMem_regList : ∀ rlist : BitVec 4, (0 : Reg) ∉ regList rlist := by decide

theorem sp_notMem_regList : ∀ rlist : BitVec 4, (2 : Reg) ∉ regList rlist := by decide

theorem a0_notMem_regList : ∀ rlist : BitVec 4, (10 : Reg) ∉ regList rlist := by decide

theorem regList_last : ∀ rlist : BitVec 4, (regList rlist)[(regList rlist).length - 1]? = some 1 := by decide

/-! ### The slots -/

/-- A slot is its distance below the top, modulo 2^XLEN. -/
theorem slot_modEq (s : State) (top : BitVec s.cfg.bits) (k : Nat) :
    s.slot top k + (k + 1) * s.cfg.bytes ≡ top.toNat [MOD 2 ^ s.cfg.bits] := by
  have h := congrArg BitVec.toNat (BitVec.sub_add_cancel top (BitVec.ofNat s.cfg.bits ((k + 1) * s.cfg.bytes)))
  rw [BitVec.toNat_add, BitVec.toNat_ofNat, Nat.add_mod_mod] at h
  unfold Nat.ModEq State.slot
  rw [h, Nat.mod_eq_of_lt top.isLt]

/-- Two slots of one frame share no byte. -/
theorem slot_disjoint (s : State) (top : BitVec s.cfg.bits) {i j a : Nat} (hi : i < 13) (hj : j < 13) (hne : i ≠ j)
    (ha : a ∈ span s.cfg.bits (s.slot top i) s.cfg.bytes) : a ∉ span s.cfg.bits (s.slot top j) s.cfg.bytes := by
  intro hb
  obtain ⟨p, hp, hpa⟩ := (mem_span _ _ _ _).mp ha
  obtain ⟨q, hq, hqa⟩ := (mem_span _ _ _ _).mp hb
  have hsame : s.slot top i + p ≡ s.slot top j + q [MOD 2 ^ s.cfg.bits] := hpa.trans hqa.symm
  have hoff : (j + 1) * s.cfg.bytes + p ≡ (i + 1) * s.cfg.bytes + q [MOD 2 ^ s.cfg.bits] := by
    refine Nat.ModEq.add_left_cancel' top.toNat ?_
    calc top.toNat + ((j + 1) * s.cfg.bytes + p)
        ≡ s.slot top i + (i + 1) * s.cfg.bytes + ((j + 1) * s.cfg.bytes + p) [MOD 2 ^ s.cfg.bits] :=
          (slot_modEq s top i).symm.add_right _
      _ = s.slot top i + p + ((i + 1) * s.cfg.bytes + (j + 1) * s.cfg.bytes) := by ring
      _ ≡ s.slot top j + q + ((i + 1) * s.cfg.bytes + (j + 1) * s.cfg.bytes) [MOD 2 ^ s.cfg.bits] := hsame.add_right _
      _ = s.slot top j + (j + 1) * s.cfg.bytes + ((i + 1) * s.cfg.bytes + q) := by ring
      _ ≡ top.toNat + ((i + 1) * s.cfg.bytes + q) [MOD 2 ^ s.cfg.bits] := (slot_modEq s top j).add_right _
  have hspace : 2 ^ 32 ≤ 2 ^ s.cfg.bits := Nat.pow_le_pow_right (by decide) (bits_ge_32 _)
  have hlt : ∀ k, k < 13 → (k + 1) * s.cfg.bytes ≤ 13 * 16 := fun k hk => Nat.mul_le_mul hk (bytes_le_16 _)
  have hbytes := bytes_le_16 s.cfg
  have heq : (j + 1) * s.cfg.bytes + p = (i + 1) * s.cfg.bytes + q := by
    refine hoff.eq_of_lt_of_lt ?_ ?_
    · have := hlt j hj; omega
    · have := hlt i hi; omega
  have hdiv := congrArg (· / s.cfg.bytes) heq
  simp only [Nat.mul_comm _ s.cfg.bytes, Nat.mul_add_div (bytes_pos s.cfg), Nat.div_eq_of_lt hp,
    Nat.div_eq_of_lt hq] at hdiv
  omega

/-- The exception of a slot depends on the configuration and the draws alone. -/
theorem slotCheck_of_raises {s u : State} (hc : u.cfg = s.cfg) (hd : u.draws = s.draws) {a : Nat} {kind : AccessKind}
    {e : Exc} (h : s.SlotRaises a kind e) : u.slotCheck a kind = some e := by
  have hcongr : u.slotCheck a kind = s.slotCheck a kind := by
    unfold State.slotCheck State.checkAs State.misalignedTraps
    rw [hc, hd]
  rw [hcongr, State.slotCheck]
  rcases h with ⟨hal, hno, rfl⟩ | ⟨hal, rfl⟩
  · rw [checkAs_aligned hal, if_neg]
    rcases hno with hno | hno <;> simp [hno]
  · rw [checkAs_misaligned hal]

/-! ### Storing to the slots -/

theorem pushSlots_draws {bits : Nat} (top : BitVec bits) (rs : List Reg) (k : Nat) (u : State) :
    (pushSlots top k rs u).1.draws = u.draws := by
  induction rs generalizing k u with
  | nil => rfl
  | cons r rest ih =>
    rw [pushSlots]
    split
    · rfl
    · rw [ih]; simp

/-- Where the first slots raise nothing, the accesses go on with the others. -/
theorem pushSlots_append {bits : Nat} (top : BitVec bits) (rs rest : List Reg) (k : Nat) {u t : State}
    (h : pushSlots top k rs u = (t, none)) : pushSlots top k (rs ++ rest) u = pushSlots top (k + rs.length) rest t := by
  induction rs generalizing k u with
  | nil => obtain rfl : u = t := congrArg Prod.fst h; rfl
  | cons r rs ih =>
    rw [List.cons_append, pushSlots]
    rw [pushSlots] at h
    split at h
    · cases h
    · rw [List.length_cons, Nat.add_comm rs.length 1, ← Nat.add_assoc]
      exact ih (k + 1) h

/-- From `s` to `u` a list of registers has been stored to the slots below `top`, and nothing else has happened. -/
structure State.Pushed (s u : State) (top : BitVec s.cfg.bits) (rs : List Reg) : Prop where
  pc : u.pc = s.pc
  instret : u.instret = s.instret
  holds : ∀ j r, rs[j]? = some r → s.HoldsAt u (s.slot top j) s.cfg.bytes (s.readX s.cfg.bits r).toNat
  keeps : s.Keeps u [] [] (s.slotBytes top rs.length)
  stale : s.StaleWithin u (s.slotBytes top rs.length)
  fflags : u.fflags = s.fflags
  reservation : u.reservation = s.reservation
  ioTrace : u.ioTrace = s.ioTrace ++ s.pushEvents top rs

theorem pushSlots_pushed {s : State} {top : BitVec s.cfg.bits} {rs : List Reg} (hm : s.memOk) (hlen : rs.length ≤ 13)
    (h : s.SlotsAllow top rs.length .store) : ∃ u, pushSlots top 0 rs s = (u, none) ∧ s.Pushed u top rs := by
  obtain ⟨u, hrun, -, hpc, hinstret, -, hholds, hkeeps, hstale, hflags, hres, htrace⟩ :=
    pushSlots_ok s top rs 0 s rfl rfl hm (fun _ _ => rfl) (fun _ _ _ _ _ => rfl)
      (fun i j a hi hj hne ha => slot_disjoint s top (by omega) (by omega) hne ha)
      (fun j hj => by rw [Nat.zero_add]; exact h j hj)
  simp only [Nat.zero_add] at hholds hkeeps hstale
  exact ⟨u, hrun, hpc, hinstret, hholds, hkeeps, hstale, hflags, hres, htrace⟩

/-- Storing stops at the first slot that raises, the slots before it stored to. -/
theorem pushSlots_stops {s : State} {top : BitVec s.cfg.bits} {rs rest : List Reg} {r : Reg} {e : Exc} (hm : s.memOk)
    (hlen : rs.length ≤ 13) (h : s.SlotsAllow top rs.length .store) (he : s.SlotRaises (s.slot top rs.length) .store e) :
    ∃ u, pushSlots top 0 (rs ++ r :: rest) s = (u, some e) ∧ s.Pushed u top rs := by
  obtain ⟨u, hrun, hu⟩ := pushSlots_pushed hm hlen h
  refine ⟨u, ?_, hu⟩
  have hd : u.draws = s.draws := by rw [← pushSlots_draws top rs 0 s, hrun]
  rw [pushSlots_append top rs (r :: rest) 0 hrun, pushSlots, Nat.zero_add, hu.keeps.cfg, slotAddr_eq,
    slotCheck_of_raises hu.keeps.cfg hd he]

/-! ### Loading from the slots -/

theorem popSlots_draws {bits : Nat} (top : BitVec bits) (rs : List Reg) (k : Nat) (u : State) :
    (popSlots top k rs u).1.draws = u.draws := by
  induction rs generalizing k u with
  | nil => rfl
  | cons r rest ih =>
    rw [popSlots]
    split
    · rfl
    · rw [ih]; simp [readMem_eq]

theorem popSlots_append {bits : Nat} (top : BitVec bits) (rs rest : List Reg) (k : Nat) {u t : State}
    (h : popSlots top k rs u = (t, none)) : popSlots top k (rs ++ rest) u = popSlots top (k + rs.length) rest t := by
  induction rs generalizing k u with
  | nil => obtain rfl : u = t := congrArg Prod.fst h; rfl
  | cons r rs ih =>
    rw [List.cons_append, popSlots]
    rw [popSlots] at h
    split at h
    · cases h
    · rw [List.length_cons, Nat.add_comm rs.length 1, ← Nat.add_assoc]
      exact ih (k + 1) h

/-- From `s` to `u` a list of registers has been loaded from the slots below `top`, and nothing else has happened. -/
structure State.Popped (s u : State) (top : BitVec s.cfg.bits) (rs : List Reg) : Prop where
  pc : u.pc = s.pc
  instret : u.instret = s.instret
  reads : ∀ j r, rs[j]? = some r →
    u.readX s.cfg.bits r = BitVec.ofNat s.cfg.bits (s.seenAt (s.slot top j) s.cfg.bytes)
  keeps : s.Keeps u rs [] []
  fflags : u.fflags = s.fflags
  reservation : u.reservation = s.reservation
  stale : u.stale = s.stale
  ioTrace : u.ioTrace = s.ioTrace ++ s.popEvents top rs.length

theorem popSlots_popped {s : State} {top : BitVec s.cfg.bits} {rs : List Reg} (hn : rs.Nodup) (hz : (0 : Reg) ∉ rs)
    (h : s.SlotsAllow top rs.length .load) : ∃ u, popSlots top 0 rs s = (u, none) ∧ s.Popped u top rs := by
  obtain ⟨u, hrun, -, hpc, hinstret, hreads, hkeeps, hflags, hres, hstale, htrace⟩ :=
    popSlots_ok s top rs 0 s rfl rfl (fun _ => rfl) hn hz (fun j hj => by rw [Nat.zero_add]; exact h j hj)
  simp only [Nat.zero_add] at hreads htrace
  exact ⟨u, hrun, hpc, hinstret, hreads, hkeeps, hflags, hres, hstale, htrace⟩

/-- Loading stops at the first slot that raises, the registers before it loaded. -/
theorem popSlots_stops {s : State} {top : BitVec s.cfg.bits} {rs rest : List Reg} {r : Reg} {e : Exc} (hn : rs.Nodup)
    (hz : (0 : Reg) ∉ rs) (h : s.SlotsAllow top rs.length .load) (he : s.SlotRaises (s.slot top rs.length) .load e) :
    ∃ u, popSlots top 0 (rs ++ r :: rest) s = (u, some e) ∧ s.Popped u top rs := by
  obtain ⟨u, hrun, hu⟩ := popSlots_popped hn hz h
  refine ⟨u, ?_, hu⟩
  have hd : u.draws = s.draws := by rw [← popSlots_draws top rs 0 s, hrun]
  rw [popSlots_append top rs (r :: rest) 0 hrun, popSlots, Nat.zero_add, hu.keeps.cfg, slotAddr_eq,
    slotCheck_of_raises hu.keeps.cfg hd he]

/-! ### How the instructions end -/

theorem push_ok {s u : State} {rlist : BitVec 4} (spimm : BitVec 2) (h : pushSlots s.sp 0 (regList rlist) s = (u, none)) :
    exec (.cmPush rlist spimm) s =
      .next ((u.setX 2 (s.sp - BitVec.ofNat s.cfg.bits (s.cfg.stackAdj rlist spimm))).retire 2) := by
  show push rlist spimm s = _
  rw [push, h]

theorem push_raises {s u : State} {rlist : BitVec 4} {e : Exc} (spimm : BitVec 2)
    (h : pushSlots s.sp 0 (regList rlist) s = (u, some e)) : exec (.cmPush rlist spimm) s = .next (u.raise e 2) := by
  show push rlist spimm s = _
  rw [push, h]

theorem pop_ok {s u : State} {rlist : BitVec 4} {spimm : BitVec 2}
    (h : popSlots (s.popTop rlist spimm) 0 (regList rlist) s = (u, none)) :
    exec (.cmPop rlist spimm) s = .next ((u.setX 2 (s.popTop rlist spimm)).retire 2) := by
  show pop rlist spimm s = _
  rw [pop, h]

theorem popRet_ok {s u : State} {rlist : BitVec 4} {spimm : BitVec 2}
    (h : popSlots (s.popTop rlist spimm) 0 (regList rlist) s = (u, none)) :
    exec (.cmPopret rlist spimm) s =
        .next ((u.setX 2 (s.popTop rlist spimm)).retireTo (u.readX s.cfg.bits 1 &&& ~~~1)) ∧
      exec (.cmPopretz rlist spimm) s =
        .next (((u.setX 10 (0 : BitVec s.cfg.bits)).setX 2 (s.popTop rlist spimm)).retireTo
          (u.readX s.cfg.bits 1 &&& ~~~1)) := by
  refine ⟨?_, ?_⟩
  · show popRet rlist spimm false s = _
    rw [popRet, h]; rfl
  · show popRet rlist spimm true s = _
    rw [popRet, h]; rfl

theorem pop_raises {s u : State} {rlist : BitVec 4} {spimm : BitVec 2} {e : Exc}
    (h : popSlots (s.popTop rlist spimm) 0 (regList rlist) s = (u, some e)) :
    ∀ i ∈ ([.cmPop rlist spimm, .cmPopret rlist spimm, .cmPopretz rlist spimm] : List Instr),
      exec i s = .next (u.raise e 2) := by
  simp only [List.forall_mem_cons]
  refine ⟨?_, ?_, ?_, List.forall_mem_nil _⟩
  · show pop rlist spimm s = _
    rw [pop, h]
  all_goals
    show popRet rlist spimm _ s = _
    rw [popRet, h]

/-- After the loads, zeros to registers outside the list, then sp, then the end of the instruction. -/
theorem State.Popped.finish {s u w t : State} {top : BitVec s.cfg.bits} {rs zs : List Reg} (hu : s.Popped u top rs)
    (hsp : (2 : Reg) ∉ rs) (hzs : ∀ r ∈ zs, r ∉ rs ∧ r ≠ 2 ∧ w.readX s.cfg.bits r = 0) (hw : u.KeepsRest w zs [] [])
    (ht : (w.setX 2 top).KeepsRest t [] [] []) :
    (∀ k r, rs[k]? = some r → t.readX s.cfg.bits r = BitVec.ofNat s.cfg.bits (s.seenAt (s.slot top k) s.cfg.bytes)) ∧
      t.readX s.cfg.bits 2 = top ∧ (∀ r ∈ zs, t.readX s.cfg.bits r = 0) ∧ s.Keeps t ([2] ++ zs ++ rs) [] [] ∧
      t.fflags = s.fflags ∧ t.reservation = s.reservation ∧ t.stale = s.stale ∧
      t.ioTrace = s.ioTrace ++ s.popEvents top rs.length := by
  have hx : ∀ r n, t.readX n r = (w.setX 2 top).readX n r := fun r n => ht.x r (by simp) n
  have hrest : u.KeepsRest t (zs ++ [2] ++ []) [] [] := (hw.trans (setX_keeps w 2 top)).trans ht
  refine ⟨fun k r hr => ?_, ?_, fun r hr => ?_, ?_, hrest.fflags.trans hu.fflags, hrest.reservation.trans hu.reservation,
    hrest.stale.trans hu.stale, hrest.ioTrace.trans hu.ioTrace⟩
  · have hmem : r ∈ rs := List.mem_of_getElem? hr
    have hz : r ∉ zs := fun hrz => (hzs r hrz).1 hmem
    have h2 : r ≠ 2 := fun e => hsp (e ▸ hmem)
    rw [hrest.x r (by simpa [hz] using h2), hu.reads k r hr]
  · rw [hx, readX_setX_self _ _ _ (bits_le_128 _), if_neg (by decide)]
  · obtain ⟨-, h2, h0⟩ := hzs r hr
    rw [hx, readX_setX_ne _ _ _ _ _ h2, h0]
  · refine (hu.keeps.trans hrest.toKeeps).mono ?_ (by simp) (by simp)
    intro r hr
    simp only [List.mem_append, List.mem_singleton, List.append_nil] at hr ⊢
    tauto

end Sys2Proof.Machine

namespace Sys2Proof.Proofs
open Sys2Proof Sys2Proof.Machine

/-- Settles O52: the slots of the list are disjoint, and storing to them is storing to each. -/
theorem pushStoresTheListBelowTheStackPointer : Obligations.PushStoresTheListBelowTheStackPointer := by
  refine ⟨by decide, fun s rlist spimm hm _ h => ?_⟩
  obtain ⟨u, hrun, hu⟩ := pushSlots_pushed hm (regList_length_le rlist) h
  have hframe : u.KeepsRest ((u.setX 2 (s.sp - BitVec.ofNat s.cfg.bits (s.cfg.stackAdj rlist spimm))).retire 2)
      [2] [] [] := setX_retire_keeps u 2 _ 2
  refine ⟨_, push_ok spimm hrun, fun k r hr b hb => ?_, ?_, ⟨?_, ?_⟩, ?_, ?_, hframe.fflags.trans hu.fflags,
    hframe.reservation.trans hu.reservation, hframe.ioTrace.trans hu.ioTrace⟩
  · rw [hframe.mem _ (by simp)]
    exact hu.holds k r hr b hb
  · rw [State.retire, State.retireTo_readX, readX_setX_self _ _ _ (bits_le_128 _), if_neg (by decide)]
    rfl
  · rw [retire_pc]
    exact after_congr (by simpa using hu.keeps.cfg) (by simpa using hu.pc) 2
  · rw [retire_instret, State.setX_instret, hu.instret]
  · exact (hu.keeps.trans hframe.toKeeps).mono (by simp) (by simp) (by simp)
  · have := hu.stale
    rwa [State.StaleWithin, ← hframe.stale] at this

/-- Settles O53: the loads of the slots, then zero, sp and pc. -/
theorem popLoadsTheListAndReturns : Obligations.PopLoadsTheListAndReturns := by
  intro s rlist spimm _ top ra h
  obtain ⟨u, hrun, hu⟩ := popSlots_popped (regList_nodup rlist) (x0_notMem_regList rlist) h
  have hra : u.readX s.cfg.bits 1 = ra := hu.reads _ _ (regList_last rlist)
  have hsp := sp_notMem_regList rlist
  have hnone : ∀ r ∈ ([] : List Reg), r ∉ regList rlist ∧ r ≠ 2 ∧ u.readX s.cfg.bits r = 0 := List.forall_mem_nil _
  obtain ⟨hret, hretz⟩ := popRet_ok hrun
  rw [hra] at hret hretz
  have hkeepU := State.KeepsRest.refl u
  simp only [List.forall_mem_cons]
  refine ⟨⟨_, pop_ok hrun, ?_⟩, ⟨_, hret, ?_⟩, ⟨_, hretz, ?_⟩, List.forall_mem_nil _⟩
  · obtain ⟨h1, h2, h3, h4, h5⟩ := hu.finish hsp hnone hkeepU (retire_keeps _ 2)
    refine ⟨h1, h2, h3, ⟨?_, ?_⟩, h4, h5⟩
    · rw [retire_pc]
      exact after_congr (by simpa using hu.keeps.cfg) (by simpa using hu.pc) 2
    · rw [retire_instret, State.setX_instret, hu.instret]
  · obtain ⟨h1, h2, h3, h4, h5⟩ := hu.finish hsp hnone hkeepU (retireTo_keeps _ (ra &&& ~~~1))
    exact ⟨h1, h2, h3, ⟨rfl, by rw [retireTo_instret, State.setX_instret, hu.instret]⟩, h4, h5⟩
  · have hzero : ∀ r ∈ [(10 : Reg)], r ∉ regList rlist ∧ r ≠ 2 ∧
        (u.setX 10 (0 : BitVec s.cfg.bits)).readX s.cfg.bits r = 0 := by
      refine List.forall_mem_singleton.mpr ⟨a0_notMem_regList rlist, by decide, ?_⟩
      rw [readX_setX_self _ _ _ (bits_le_128 _), if_neg (by decide)]
    obtain ⟨h1, h2, h3, h4, h5⟩ := hu.finish hsp hzero (setX_keeps u 10 _) (retireTo_keeps _ (ra &&& ~~~1))
    exact ⟨h1, h2, List.forall_mem_cons.mp h3,
      ⟨rfl, by rw [retireTo_instret, State.setX_instret, State.setX_instret, hu.instret]⟩, h4, h5⟩

/-- Settles O54: the list is the registers before slot k, that of slot k, and the rest. -/
theorem pushAndPopStopAtTheFirstBadSlot : Obligations.PushAndPopStopAtTheFirstBadSlot := by
  intro s rlist spimm k e _ hk top
  have hsplit : regList rlist = (regList rlist).take k ++ (regList rlist)[k] :: (regList rlist).drop (k + 1) := by
    rw [← List.drop_eq_getElem_cons hk, List.take_append_drop]
  have hlen : ((regList rlist).take k).length = k := List.length_take_of_le hk.le
  have htake : ∀ j r, j < k → (regList rlist)[j]? = some r → ((regList rlist).take k)[j]? = some r := by
    intro j r hj hr
    rw [List.getElem?_take_of_lt hj, hr]
  refine ⟨fun hm hall he => ?_, fun hall he => ?_⟩
  · obtain ⟨u, hrun, hu⟩ := pushSlots_stops (rs := (regList rlist).take k) (r := (regList rlist)[k]) (rest := (regList rlist).drop (k + 1)) hm
      (by have := regList_length_le rlist; omega) (by rw [hlen]; exact hall) (by rw [hlen]; exact he)
    rw [← hsplit] at hrun
    have hkeeps := hu.keeps
    have hstale := hu.stale
    rw [hlen] at hkeeps hstale
    exact ⟨u, push_raises spimm hrun, fun j r hj hr => hu.holds j r (htake j r hj hr), hkeeps, hstale, hu.pc, hu.instret,
      hu.fflags, hu.reservation, hu.ioTrace⟩
  · have hsub : (regList rlist).take k ⊆ regList rlist := List.take_subset k _
    obtain ⟨u, hrun, hu⟩ := popSlots_stops (rs := (regList rlist).take k) (r := (regList rlist)[k]) (rest := (regList rlist).drop (k + 1))
      ((List.take_sublist k _).nodup (regList_nodup rlist)) (fun h => x0_notMem_regList rlist (hsub h))
      (by rw [hlen]; exact hall) (by rw [hlen]; exact he)
    rw [← hsplit] at hrun
    have hio := hu.ioTrace
    rw [hlen] at hio
    exact fun i hi => ⟨u, pop_raises hrun i hi, fun j r hj hr => hu.reads j r (htake j r hj hr), hu.keeps, hu.pc,
      hu.instret, hu.fflags, hu.reservation, hu.stale, hio⟩

end Sys2Proof.Proofs
end

section
/-! PROOFS. Floating-point data: the fields of a datum and their packing, the exact value of a finite one; comparisons,
selections and classes (45_f.md R431, R447, R470 to R473). -/

namespace Sys2Proof.Machine

/-! ### The layout of the formats -/

theorem Fmt.width_eq (f : Fmt) : f.width - 1 = f.expBits + f.manBits := by cases f <;> rfl

theorem Fmt.width_succ (f : Fmt) : f.width = f.expBits + f.manBits + 1 := by cases f <;> rfl

theorem Fmt.two_pow_expBits (f : Fmt) : 2 ^ f.expBits = 2 * f.bias + 2 := by cases f <;> decide

theorem Fmt.manBits_lt_bias (f : Fmt) : f.manBits < f.bias := by cases f <;> decide

theorem Fmt.manBits_pos (f : Fmt) : 0 < f.manBits := by cases f <;> decide

/-- The bits of a datum are its fields side by side. -/
theorem Fmt.pack_toNat (f : Fmt) (neg : Bool) {b k : Nat} (hb : b < 2 ^ f.expBits) (hk : k < 2 ^ f.manBits) :
    (f.pack neg b k).toNat = ((if neg then 2 ^ f.expBits else 0) + b) * 2 ^ f.manBits + k := by
  have hlow : b * 2 ^ f.manBits + k < 2 ^ f.expBits * 2 ^ f.manBits :=
    calc b * 2 ^ f.manBits + k < (b + 1) * 2 ^ f.manBits := by rw [Nat.add_mul]; omega
      _ ≤ 2 ^ f.expBits * 2 ^ f.manBits := Nat.mul_le_mul_right _ hb
  rw [Fmt.pack, BitVec.toNat_ofNat, Fmt.width_eq, Nat.mod_eq_of_lt]
  · cases neg
    · simp
    · simp only [if_true, Nat.pow_add, Nat.add_mul]
  · rw [Fmt.width_succ, Nat.pow_succ, Nat.pow_add]
    cases neg
    · simp only [Bool.false_eq_true, if_false]; omega
    · simp only [if_true]; omega

theorem Fmt.manField_pack (f : Fmt) (neg : Bool) {b k : Nat} (hb : b < 2 ^ f.expBits) (hk : k < 2 ^ f.manBits) :
    f.manField (f.pack neg b k) = k := by
  rw [Fmt.manField, Fmt.pack_toNat f neg hb hk, Nat.mul_add_mod_self_right, Nat.mod_eq_of_lt hk]

theorem Fmt.expField_pack (f : Fmt) (neg : Bool) {b k : Nat} (hb : b < 2 ^ f.expBits) (hk : k < 2 ^ f.manBits) :
    f.expField (f.pack neg b k) = b := by
  rw [Fmt.expField, Fmt.pack_toNat f neg hb hk, Nat.mul_comm, Nat.mul_add_div (Nat.two_pow_pos _), Nat.div_eq_of_lt hk]
  cases neg
  · simp [Nat.mod_eq_of_lt hb]
  · simp [Nat.mod_eq_of_lt hb]

theorem Fmt.signField_pack (f : Fmt) (neg : Bool) {b k : Nat} (hb : b < 2 ^ f.expBits) (hk : k < 2 ^ f.manBits) :
    f.signField (f.pack neg b k) = neg := by
  have hlow : b * 2 ^ f.manBits + k < 2 ^ f.expBits * 2 ^ f.manBits :=
    calc b * 2 ^ f.manBits + k < (b + 1) * 2 ^ f.manBits := by rw [Nat.add_mul]; omega
      _ ≤ 2 ^ f.expBits * 2 ^ f.manBits := Nat.mul_le_mul_right _ hb
  rw [Fmt.signField, Fmt.pack_toNat f neg hb hk, Fmt.width_eq, Nat.pow_add, Nat.add_mul]
  cases neg
  · simp only [Bool.false_eq_true, if_false, decide_eq_false_iff_not]; omega
  · simp only [if_true, decide_eq_true_eq]; omega

/-! ### Decoding what is packed -/

/-- The unit of the subnormal data. -/
def Fmt.emin (f : Fmt) : Int := 1 - (f.bias : Int) - f.manBits

theorem Fmt.decode_pack_subnormal (f : Fmt) (neg : Bool) {k : Nat} (hk : k < 2 ^ f.manBits) :
    f.decode (f.pack neg 0 k) = .fin neg k f.emin := by
  have hb : 0 < 2 ^ f.expBits := Nat.two_pow_pos _
  have h0 : ¬ 0 = 2 ^ f.expBits - 1 := by have := f.two_pow_expBits; omega
  rw [Fmt.decode, Fmt.expField_pack f neg hb hk, if_neg h0, if_pos rfl, Fmt.signField_pack f neg hb hk,
    Fmt.manField_pack f neg hb hk, Fmt.emin]

theorem Fmt.decode_pack_normal (f : Fmt) (neg : Bool) {b k : Nat} (h0 : 0 < b) (hb : b < 2 ^ f.expBits - 1)
    (hk : k < 2 ^ f.manBits) :
    f.decode (f.pack neg b k) = .fin neg (k + 2 ^ f.manBits) ((b : Int) - f.bias - f.manBits) := by
  have hb' : b < 2 ^ f.expBits := by omega
  rw [Fmt.decode, Fmt.expField_pack f neg hb' hk, if_neg (by omega), if_neg (by omega), Fmt.signField_pack f neg hb' hk,
    Fmt.manField_pack f neg hb' hk]

theorem Fmt.decode_inf (f : Fmt) (neg : Bool) : f.decode (f.inf neg) = .inf neg := by
  have hb : 2 ^ f.expBits - 1 < 2 ^ f.expBits := by have := Nat.two_pow_pos f.expBits; omega
  have hk : 0 < 2 ^ f.manBits := Nat.two_pow_pos _
  rw [Fmt.inf, Fmt.decode, Fmt.expField_pack f neg hb hk, if_pos rfl, Fmt.manField_pack f neg hb hk, if_pos rfl,
    Fmt.signField_pack f neg hb hk]

theorem Fmt.decode_zero (f : Fmt) (neg : Bool) : f.decode (f.zero neg) = .fin neg 0 f.emin :=
  f.decode_pack_subnormal neg (Nat.two_pow_pos _)

/-! ### Exact values -/

theorem Fp.value_fin (neg : Bool) (m : Nat) (e : Int) :
    (Fp.fin neg m e).value = some ((signedMant neg m : ℚ) * 2 ^ e) := by
  unfold Fp.value signedMant
  cases neg <;> simp

theorem Fp.value_eq_some {a : Fp} {x : ℚ} (h : a.value = some x) :
    ∃ neg m e, a = .fin neg m e ∧ x = (signedMant neg m : ℚ) * 2 ^ e := by
  cases a with
  | nan _ => cases h
  | inf _ => cases h
  | fin neg m e =>
    rw [Fp.value_fin, Option.some.injEq] at h
    exact ⟨neg, m, e, rfl, h.symm⟩

/-- A value as an integer at a lower exponent. -/
theorem scaled_value (n : Int) {e0 e : Int} (h : e0 ≤ e) :
    (n : ℚ) * 2 ^ e = ((n * 2 ^ (e - e0).toNat : Int) : ℚ) * 2 ^ e0 := by
  have hz : ((2 : ℚ) ^ (e - e0).toNat) = 2 ^ (e - e0) := by
    rw [← zpow_natCast, Int.toNat_of_nonneg (by omega)]
  push_cast
  rw [hz, mul_assoc, ← zpow_add₀ (by norm_num)]
  congr 2
  omega

/-! ### The order -/

theorem finLt_iff (na : Bool) (ma : Nat) (ea : Int) (nb : Bool) (mb : Nat) (eb : Int) :
    finLt na ma ea nb mb eb = true ↔ (signedMant na ma : ℚ) * 2 ^ ea < (signedMant nb mb : ℚ) * 2 ^ eb := by
  rw [finLt, decide_eq_true_eq, scaled_value _ (min_le_left ea eb), scaled_value _ (min_le_right ea eb),
    mul_lt_mul_iff_left₀ (by positivity), Int.cast_lt]

theorem Fp.lt_iff {a b : Fp} {x y : ℚ} (ha : a.value = some x) (hb : b.value = some y) : a.lt b = true ↔ x < y := by
  obtain ⟨na, ma, ea, rfl, rfl⟩ := value_eq_some ha
  obtain ⟨nb, mb, eb, rfl, rfl⟩ := value_eq_some hb
  exact finLt_iff _ _ _ _ _ _

theorem Fp.isNaN_of_value {a : Fp} {x : ℚ} (h : a.value = some x) : a.isNaN = false := by
  obtain ⟨_, _, _, rfl, -⟩ := value_eq_some h
  rfl

theorem Fp.lt_nan {a b : Fp} (h : (a.isNaN || b.isNaN) = true) : a.lt b = false := by
  cases a with
  | nan _ => rfl
  | inf _ => cases b with
    | nan _ => rfl
    | _ => cases h
  | fin _ _ _ => cases b with
    | nan _ => rfl
    | _ => cases h

theorem Fp.lt_self (a : Fp) : a.lt a = false := by
  cases a with
  | nan _ => rfl
  | inf na => exact Bool.and_not_self na
  | fin na ma ea => rw [← Bool.not_eq_true]; exact fun h => absurd ((finLt_iff _ _ _ _ _ _).mp h) (lt_irrefl _)

theorem Fp.lt_asymm {a b : Fp} (h : a.lt b = true) : b.lt a = false := by
  cases a with
  | nan _ => cases h
  | inf na => cases b with
    | nan _ => rfl
    | inf nb =>
      rw [Fp.lt, Bool.and_eq_true, Bool.not_eq_true'] at h
      rw [Fp.lt, h.2, Bool.false_and]
    | fin _ _ _ =>
      obtain rfl : na = true := h
      rfl
  | fin na ma ea => cases b with
    | nan _ => cases h
    | inf nb => exact (Bool.not_eq_true' nb).mp h
    | fin nb mb eb =>
      rw [← Bool.not_eq_true]
      exact fun k => ((finLt_iff _ _ _ _ _ _).mp k).not_gt ((finLt_iff _ _ _ _ _ _).mp h)

theorem Fp.le_self {a : Fp} (h : a.isNaN = false) : a.le a = true := by simp [Fp.le, h, Fp.lt_self]

theorem Fp.eq_iff {a b : Fp} {x y : ℚ} (ha : a.value = some x) (hb : b.value = some y) : a.eq b = true ↔ x = y := by
  have hab : a.lt b = false ↔ y ≤ x := by rw [← Bool.not_eq_true, lt_iff ha hb, not_lt]
  have hba : b.lt a = false ↔ x ≤ y := by rw [← Bool.not_eq_true, lt_iff hb ha, not_lt]
  simp only [Fp.eq, isNaN_of_value ha, isNaN_of_value hb, Bool.not_false, Bool.and_eq_true, Bool.not_eq_true', hab, hba,
    true_and]
  exact ⟨fun ⟨h, k⟩ => le_antisymm k h, fun h => ⟨h.ge, h.le⟩⟩

theorem Fp.le_iff {a b : Fp} {x y : ℚ} (ha : a.value = some x) (hb : b.value = some y) : a.le b = true ↔ x ≤ y := by
  have hba : b.lt a = false ↔ x ≤ y := by rw [← Bool.not_eq_true, lt_iff hb ha, not_lt]
  simp only [Fp.le, isNaN_of_value ha, isNaN_of_value hb, Bool.not_false, Bool.and_eq_true, Bool.not_eq_true', hba,
    true_and]

theorem Fp.isSNaN_iff (a : Fp) : a.isSNaN = true ↔ a = .nan true := by
  cases a <;> simp [Fp.isSNaN]

theorem Fp.isNaN_iff (a : Fp) : a.isNaN = true ↔ ∃ q, a = .nan q := by
  cases a <;> simp [Fp.isNaN]

/-- NV where a condition on NaNs holds. -/
theorem flagIf_eq {b : Bool} {p : Prop} [Decidable p] (h : b = true ↔ p) (fl : FpFlags) :
    flagIf b fl = if p then fl else 0 := by
  unfold flagIf
  split
  · rw [if_pos (h.mp ‹_›)]
  · rw [if_neg (fun k => ‹¬_› (h.mpr k))]

/-! ### Minimum and maximum -/

/-- The operand taken: not above the other for a minimum, not below it for a maximum, and a zero of the right sign. -/
theorem Fp.minFirst_selects {x y : Fp} (hx : x.isNaN = false) (hy : y.isNaN = false) (max : Bool) :
    let z := if x.minFirst y != max then x else y
    (if max then y.le z && x.le z else z.le x && z.le y) = true ∧
      (x.eq y = true → z.isNeg = if max then x.isNeg && y.isNeg else x.isNeg || y.isNeg) := by
  have hle : ∀ {a b : Fp}, a.isNaN = false → b.isNaN = false → b.lt a = false → a.le b = true := by
    intro a b ha hb h
    simp [Fp.le, ha, hb, h]
  have heq : x.eq y = true → x.lt y = false ∧ y.lt x = false := by
    intro h
    simpa [Fp.eq, hx, hy] using h
  have hfirst : x.minFirst y = true → x.le y = true := by
    intro h
    rw [Fp.minFirst, Bool.or_eq_true, Bool.and_eq_true] at h
    rcases h with h | ⟨h, -⟩
    · exact hle hx hy (Fp.lt_asymm h)
    · exact hle hx hy (heq h).2
  have hlast : x.minFirst y = false → y.le x = true := by
    intro h
    rw [Fp.minFirst, Bool.or_eq_false_iff] at h
    exact hle hy hx h.1
  have hsign : x.eq y = true → x.minFirst y = x.isNeg := by
    intro h
    rw [Fp.minFirst, h, (heq h).1, Bool.false_or, Bool.true_and]
  cases hm : x.minFirst y with
  | true =>
    refine ⟨?_, fun h => ?_⟩
    · cases max
      · simp [Fp.le_self hx, hfirst hm]
      · simp [Fp.le_self hy, hfirst hm]
    · have hneg : x.isNeg = true := by rw [← hsign h, hm]
      cases max <;> simp [hneg]
  | false =>
    refine ⟨?_, fun h => ?_⟩
    · cases max
      · simp [Fp.le_self hy, hlast hm]
      · simp [Fp.le_self hx, hlast hm]
    · have hneg : x.isNeg = false := by rw [← hsign h, hm]
      cases max <;> simp [hneg]

/-! ### Classes -/

/-- Where the fields of a datum put it. -/
theorem Fmt.decode_cases (f : Fmt) (v : BitVec f.width) :
    (f.expField v = 2 ^ f.expBits - 1 ∧ f.manField v = 0 ∧ f.decode v = .inf (f.signField v)) ∨
    (f.expField v = 2 ^ f.expBits - 1 ∧ f.manField v ≠ 0 ∧
      f.decode v = .nan (decide (f.manField v < 2 ^ (f.manBits - 1)))) ∨
    (f.expField v = 0 ∧ f.decode v = .fin (f.signField v) (f.manField v) f.emin) ∨
    (0 < f.expField v ∧ f.expField v < 2 ^ f.expBits - 1 ∧
      f.decode v = .fin (f.signField v) (f.manField v + 2 ^ f.manBits) ((f.expField v : Int) - f.bias - f.manBits)) := by
  have hlt : f.expField v < 2 ^ f.expBits := Nat.mod_lt _ (Nat.two_pow_pos _)
  unfold Fmt.decode
  by_cases htop : f.expField v = 2 ^ f.expBits - 1
  · rw [if_pos htop]
    by_cases hm : f.manField v = 0
    · exact .inl ⟨htop, hm, if_pos hm⟩
    · exact .inr (.inl ⟨htop, hm, if_neg hm⟩)
  · rw [if_neg htop]
    by_cases h0 : f.expField v = 0
    · exact .inr (.inr (.inl ⟨h0, if_pos h0⟩))
    · exact .inr (.inr (.inr ⟨by omega, by omega, if_neg h0⟩))

/-- Each bit of FCLASS is set for its fields alone. -/
theorem Fmt.classify_bits (f : Fmt) (v : BitVec f.width) :
    let sign := f.signField v = true
    let e := f.expField v
    let m := f.manField v
    let top := 2 ^ f.expBits - 1
    let c := f.classify v
    (c.getLsbD 0 = true ↔ sign ∧ e = top ∧ m = 0) ∧ (c.getLsbD 1 = true ↔ sign ∧ 0 < e ∧ e < top) ∧
    (c.getLsbD 2 = true ↔ sign ∧ e = 0 ∧ m ≠ 0) ∧ (c.getLsbD 3 = true ↔ sign ∧ e = 0 ∧ m = 0) ∧
    (c.getLsbD 4 = true ↔ ¬sign ∧ e = 0 ∧ m = 0) ∧ (c.getLsbD 5 = true ↔ ¬sign ∧ e = 0 ∧ m ≠ 0) ∧
    (c.getLsbD 6 = true ↔ ¬sign ∧ 0 < e ∧ e < top) ∧ (c.getLsbD 7 = true ↔ ¬sign ∧ e = top ∧ m = 0) ∧
    (c.getLsbD 8 = true ↔ e = top ∧ 0 < m ∧ m < 2 ^ (f.manBits - 1)) ∧
    (c.getLsbD 9 = true ↔ e = top ∧ 2 ^ (f.manBits - 1) ≤ m) := by
  intro sign e m top c
  have htop : 0 < top := by have := f.two_pow_expBits; omega
  have hhalf : 0 < 2 ^ (f.manBits - 1) := Nat.two_pow_pos _
  have hc : c = f.classify v := rfl
  unfold Fmt.classify at hc
  rcases f.decode_cases v with ⟨he, hm, hd⟩ | ⟨he, hm, hd⟩ | ⟨he, hd⟩ | ⟨h0, h1, hd⟩ <;> rw [hd] at hc <;> dsimp only at hc
  · have he' : e = top := he
    have hm' : m = 0 := hm
    cases hs : f.signField v <;> simp only [hs, Bool.false_eq_true, if_false, if_true] at hc <;>
      simp [hc, sign, hs, he', hm'] <;> omega
  · have he' : e = top := he
    have hm' : m ≠ 0 := hm
    by_cases hq : m < 2 ^ (f.manBits - 1)
    · rw [if_pos (decide_eq_true hq)] at hc
      simp [hc, he', hm', hq]; omega
    · rw [if_neg (by simpa using hq)] at hc
      simp [hc, he', hm', hq]; omega
  · have he' : e = 0 := he
    have he'' : f.expField v = 0 := he
    by_cases hm : m = 0
    · have hm' : f.manField v = 0 := hm
      cases hs : f.signField v <;> simp only [hs, hm', Bool.false_eq_true, if_false, if_true] at hc <;>
        simp [hc, sign, hs, he', hm] <;> omega
    · have hm' : ¬ f.manField v = 0 := hm
      cases hs : f.signField v <;> simp only [hs, hm', he'', Bool.false_eq_true, if_false, if_true] at hc <;>
        simp [hc, sign, hs, he', hm] <;> omega
  · have h0' : 0 < e := h0
    have h1' : e < top := h1
    have hne : ¬ f.expField v = 0 := by omega
    have hm' : ¬ f.manField v + 2 ^ f.manBits = 0 := by have := Nat.two_pow_pos f.manBits; omega
    cases hs : f.signField v <;> simp only [hs, hm', hne, Bool.false_eq_true, if_false, if_true] at hc <;>
      simp [hc, sign, hs] <;> omega

end Sys2Proof.Machine

namespace Sys2Proof.Proofs
open Sys2Proof Sys2Proof.Machine

/-- Settles O49: the order of exact values, the selections by it, and the classes by the fields. -/
theorem comparisonsSelectionsAndClassesAreExact : Obligations.ComparisonsSelectionsAndClassesAreExact := by
  refine ⟨fun a b => ⟨fun x y ha hb => ⟨Fp.lt_iff ha hb, Fp.eq_iff ha hb, Fp.le_iff ha hb⟩, fun na ha => ?_,
    fun na nb => ?_, fun h => ?_, ?_, ?_⟩, fun f max u v => ?_, fun f v => ?_⟩
  · obtain ⟨x, hx⟩ := Option.ne_none_iff_exists'.mp ha
    obtain ⟨nb, mb, eb, rfl, -⟩ := Fp.value_eq_some hx
    cases na <;> simp [Fp.eq, Fp.le, Fp.lt, Fp.isNaN]
  · cases na <;> cases nb <;> decide
  · rcases Bool.or_eq_true _ _ ▸ h with hn | hn <;> simp [Fp.lt_nan h, Fp.eq, Fp.le, hn]
  · exact flagIf_eq (by rw [Bool.or_eq_true, Fp.isSNaN_iff, Fp.isSNaN_iff]) _
  · exact flagIf_eq (by rw [Bool.or_eq_true, Fp.isNaN_iff, Fp.isNaN_iff]) _
  · intro x y nv r
    have hnv : flagIf (x.isSNaN || y.isSNaN) flagNV = nv :=
      flagIf_eq (by rw [Bool.or_eq_true, Fp.isSNaN_iff, Fp.isSNaN_iff]) _
    have hr : r = f.minNum max u v := rfl
    have hmin : f.minimum max u v =
        if x.isNaN || y.isNaN then (f.canonicalNaN, nv) else (if x.minFirst y != max then u else v, nv) := by
      rw [← hnv]; rfl
    have hnum : r = if x.isNaN && y.isNaN then (f.canonicalNaN, nv) else if x.isNaN then (v, nv)
        else if y.isNaN then (u, nv) else (if x.minFirst y != max then u else v, nv) := by
      rw [← hnv]; rfl
    rw [hmin]
    cases hx : x.isNaN <;> cases hy : y.isNaN <;>
      simp only [hx, hy, Bool.and_true, Bool.and_false, Bool.false_eq_true, if_true, if_false] at hnum <;> rw [hnum]
    · have hz : f.decode (if x.minFirst y != max then u else v) = if x.minFirst y != max then x else y := apply_ite _ _ _ _
      obtain ⟨hle, hneg⟩ := Fp.minFirst_selects hx hy max
      refine ⟨rfl, fun _ _ => ⟨?_, ?_, ?_⟩, nofun, nofun, nofun, rfl⟩
      · exact ite_eq_or_eq _ _ _
      · rw [hz]; exact hle
      · rw [hz]; exact hneg
    · exact ⟨rfl, nofun, nofun, fun _ _ => rfl, nofun, rfl⟩
    · exact ⟨rfl, nofun, fun _ _ => rfl, nofun, nofun, rfl⟩
    · exact ⟨rfl, nofun, nofun, nofun, fun _ _ => rfl, rfl⟩
  · have hs : f.signField v = true ↔ 2 ^ (f.width - 1) ≤ v.toNat := decide_eq_true_iff
    have hbits := f.classify_bits v
    simp only [hs] at hbits
    exact hbits

end Sys2Proof.Proofs
end

section
/-! PROOFS. Rounding on exact rationals: what the rounding of an integer mantissa depends on is the rational value alone
(45_f.md R432, R435, R439). -/

namespace Sys2Proof.Machine

/-! ### A magnitude rounded to an integer -/

/-- A magnitude rounded to an integer by a mode, the sign given. -/
def RoundingMode.mag (rm : RoundingMode) (neg : Bool) (t : ℚ) : Nat :=
  if rm.roundsUp neg (⌊t⌋₊ % 2 == 1) (decide (1 / 2 < t - ⌊t⌋₊)) (decide (t - ⌊t⌋₊ = 1 / 2)) (decide (t ≠ ⌊t⌋₊)) then
    ⌊t⌋₊ + 1
  else ⌊t⌋₊

/-- The mode gives the integer below. -/
def RoundingMode.Down (rm : RoundingMode) (neg : Bool) : Prop :=
  rm = .rtz ∨ (rm = .rdn ∧ neg = false) ∨ (rm = .rup ∧ neg = true)

/-- The mode gives the integer above. -/
def RoundingMode.Up (rm : RoundingMode) (neg : Bool) : Prop := (rm = .rdn ∧ neg = true) ∨ (rm = .rup ∧ neg = false)

/-- The mode gives a nearest integer. -/
def RoundingMode.Nearest (rm : RoundingMode) : Prop := rm = .rne ∨ rm = .rmm

theorem RoundingMode.down_or_up_or_nearest (rm : RoundingMode) (neg : Bool) : rm.Down neg ∨ rm.Up neg ∨ rm.Nearest := by
  unfold Down Up Nearest
  cases rm <;> cases neg <;> simp

theorem RoundingMode.mag_down {rm : RoundingMode} {neg : Bool} (h : rm.Down neg) (t : ℚ) : rm.mag neg t = ⌊t⌋₊ := by
  rcases h with rfl | ⟨rfl, rfl⟩ | ⟨rfl, rfl⟩ <;> rfl

theorem RoundingMode.mag_up {rm : RoundingMode} {neg : Bool} (h : rm.Up neg) (t : ℚ) :
    rm.mag neg t = if t = ⌊t⌋₊ then ⌊t⌋₊ else ⌊t⌋₊ + 1 := by
  have hmag : rm.mag neg t = if ¬t = ⌊t⌋₊ then ⌊t⌋₊ + 1 else ⌊t⌋₊ := by
    rcases h with ⟨rfl, rfl⟩ | ⟨rfl, rfl⟩ <;> simp [RoundingMode.mag, RoundingMode.roundsUp]
  rw [hmag, ite_not]

/-- Rounding to nearest goes up past the half, and at the half from an odd integer or away from zero. -/
theorem RoundingMode.mag_nearest {rm : RoundingMode} (h : rm.Nearest) (neg : Bool) (t : ℚ) :
    rm.mag neg t = if 1 / 2 < t - ⌊t⌋₊ ∨ (t - ⌊t⌋₊ = 1 / 2 ∧ (rm = .rmm ∨ ⌊t⌋₊ % 2 = 1)) then ⌊t⌋₊ + 1 else ⌊t⌋₊ := by
  rcases h with rfl | rfl <;> simp [RoundingMode.mag, RoundingMode.roundsUp]

/-- Rounding gives the integer below, or the one above where the magnitude is no integer. -/
theorem RoundingMode.mag_cases (rm : RoundingMode) (neg : Bool) (t : ℚ) :
    rm.mag neg t = ⌊t⌋₊ ∨ (rm.mag neg t = ⌊t⌋₊ + 1 ∧ t ≠ ⌊t⌋₊) := by
  rcases rm.down_or_up_or_nearest neg with h | h | h
  · exact .inl (mag_down h t)
  · rw [mag_up h]
    by_cases ht : t = ⌊t⌋₊
    · exact .inl (if_pos ht)
    · exact .inr ⟨if_neg ht, ht⟩
  · rw [mag_nearest h]
    split
    · refine .inr ⟨rfl, fun ht => ?_⟩
      have h0 : t - ⌊t⌋₊ = 0 := sub_eq_zero.mpr ht
      rcases ‹_ ∨ _› with hd | ⟨hd, -⟩ <;> rw [h0] at hd <;> norm_num at hd
    · exact .inl rfl

section
variable (rm : RoundingMode) (neg : Bool) {t : ℚ}

theorem RoundingMode.mag_natCast (n : Nat) : rm.mag neg (n : ℚ) = n := by
  rcases rm.mag_cases neg (n : ℚ) with h | ⟨-, h⟩
  · rw [h, Nat.floor_natCast]
  · rw [Nat.floor_natCast] at h
    exact absurd rfl h

theorem RoundingMode.le_mag_of_le {k : Nat} (h : (k : ℚ) ≤ t) : k ≤ rm.mag neg t := by
  have hk : k ≤ ⌊t⌋₊ := Nat.le_floor h
  rcases rm.mag_cases neg t with hm | ⟨hm, -⟩ <;> omega

theorem RoundingMode.mag_le_of_le (h0 : 0 ≤ t) {k : Nat} (h : t ≤ k) : rm.mag neg t ≤ k := by
  have hle : ⌊t⌋₊ ≤ k := Nat.floor_le_of_le h
  rcases rm.mag_cases neg t with hm | ⟨hm, hne⟩
  · omega
  · have hlt : ⌊t⌋₊ < k := by
      refine lt_of_le_of_ne hle fun e => hne ?_
      exact le_antisymm (by rw [e]; exact h) (Nat.floor_le h0)
    omega

theorem RoundingMode.mag_eq_iff_exact : (rm.mag neg t : ℚ) = t ↔ t = ⌊t⌋₊ := by
  refine ⟨fun h => ?_, fun h => ?_⟩
  · rw [← h, Nat.floor_natCast]
  · conv_lhs => rw [h]
    rw [mag_natCast, ← h]

/-- Rounding up gives the least integer not below. -/
theorem RoundingMode.le_of_mag_up {rm : RoundingMode} {neg : Bool} (h : rm.Up neg) : t ≤ rm.mag neg t := by
  rw [mag_up h]
  split
  · next ht => exact ht.le
  · push_cast; exact (Nat.lt_floor_add_one t).le

end

/-- No integer is nearer than the one that rounding to nearest gives. -/
theorem RoundingMode.mag_nearest_le {rm : RoundingMode} (h : rm.Nearest) (neg : Bool) {t : ℚ} (h0 : 0 ≤ t) (k : Int) :
    |(rm.mag neg t : ℚ) - t| ≤ |k - t| := by
  have hfl : (⌊t⌋₊ : ℚ) ≤ t := Nat.floor_le h0
  have hlt : t < ⌊t⌋₊ + 1 := Nat.lt_floor_add_one t
  have hk : (k : ℚ) ≤ ⌊t⌋₊ ∨ (⌊t⌋₊ : ℚ) + 1 ≤ k := by
    rcases le_or_gt k (⌊t⌋₊ : Int) with hk | hk
    · exact .inl (by exact_mod_cast hk)
    · exact .inr (by exact_mod_cast hk)
  have hfar : min (t - ⌊t⌋₊) (⌊t⌋₊ + 1 - t) ≤ |k - t| := by
    rcases hk with hk | hk
    · exact (min_le_left _ _).trans (by rw [abs_sub_comm]; exact le_trans (by linarith) (le_abs_self _))
    · exact (min_le_right _ _).trans (le_trans (by linarith) (le_abs_self _))
  refine le_trans (le_min ?_ ?_) hfar <;> rw [mag_nearest h] <;> split
  · rcases ‹_ ∨ _› with hd | ⟨hd, -⟩ <;> push_cast <;> rw [abs_of_pos (by linarith)] <;> linarith
  · rw [abs_of_nonpos (by linarith)]; linarith
  · push_cast; rw [abs_of_pos (by linarith)]
  · next hdown =>
    have hd : t - ⌊t⌋₊ ≤ 1 / 2 := not_lt.mp fun hd => hdown (.inl hd)
    rw [abs_of_nonpos (by linarith)]; linarith

/-- Of two equally near integers RNE gives the even one, RMM the greater one. -/
theorem RoundingMode.mag_nearest_tie {rm : RoundingMode} (h : rm.Nearest) (neg : Bool) {t : ℚ} (h0 : 0 ≤ t) {k : Int}
    (hk : |(rm.mag neg t : ℚ) - t| = |k - t|) (hne : k ≠ rm.mag neg t) :
    (rm = .rne → rm.mag neg t % 2 = 0) ∧ (rm = .rmm → 0 ≤ k ∧ k < rm.mag neg t) := by
  have hfl : (⌊t⌋₊ : ℚ) ≤ t := Nat.floor_le h0
  have hlt : t < ⌊t⌋₊ + 1 := Nat.lt_floor_add_one t
  have hsum : (k : ℚ) + rm.mag neg t = 2 * t := by
    rcases abs_eq_abs.mp hk with h | h
    · exact absurd (by have : (rm.mag neg t : ℚ) = k := by linarith
                       exact_mod_cast this.symm) hne
    · linarith
  have hmag := mag_nearest h neg t
  split at hmag
  · next hup =>
    rw [hmag] at hsum hne ⊢
    push_cast at hsum hne
    have hle : k ≤ ⌊t⌋₊ := by
      have : (k : ℚ) < ⌊t⌋₊ + 1 := by linarith
      have : k < (⌊t⌋₊ : Int) + 1 := by exact_mod_cast this
      omega
    have hge : (⌊t⌋₊ : Int) ≤ k := by
      have : (⌊t⌋₊ : ℚ) - 1 < k := by
        rcases hup with hd | ⟨hd, -⟩ <;> linarith
      have : (⌊t⌋₊ : Int) - 1 < k := by exact_mod_cast this
      omega
    have hhalf : t - ⌊t⌋₊ = 1 / 2 := by
      have : (k : ℚ) = ⌊t⌋₊ := by exact_mod_cast le_antisymm hle hge
      linarith
    refine ⟨?_, fun _ => ⟨by omega, by push_cast; omega⟩⟩
    rintro rfl
    rcases hup with hd | ⟨-, hd | hd⟩
    · linarith
    · cases hd
    · omega
  · next hdown =>
    rw [hmag] at hsum hne ⊢
    have hgt : (⌊t⌋₊ : Int) < k := by
      refine lt_of_le_of_ne ?_ (fun e => hne e.symm)
      have : (⌊t⌋₊ : ℚ) ≤ k := by linarith
      exact_mod_cast this
    have hhalf : t - ⌊t⌋₊ = 1 / 2 := by
      have h1 : (⌊t⌋₊ : ℚ) + 1 ≤ k := by exact_mod_cast hgt
      have h2 : ¬ 1 / 2 < t - ⌊t⌋₊ := fun hd => hdown (.inl hd)
      linarith
    have hcond : ¬ (rm = .rmm ∨ ⌊t⌋₊ % 2 = 1) := fun hc => hdown (.inr ⟨hhalf, hc⟩)
    exact ⟨fun _ => by omega, fun hr => absurd (.inl hr) hcond⟩

/-! ### The boundary of `reaches` -/

theorem RoundingMode.reaches_of_le {rm : RoundingMode} {neg : Bool} {bound step mag : ℚ} (hs : 0 < step)
    (h : bound ≤ mag) : rm.reaches neg bound step mag := by
  unfold RoundingMode.reaches
  cases rm <;> cases neg <;> simp only [Bool.false_eq_true, if_false, if_true] <;> linarith

theorem RoundingMode.lt_of_reaches {rm : RoundingMode} {neg : Bool} {bound step mag : ℚ} (hs : 0 < step)
    (h : rm.reaches neg bound step mag) : bound - step < mag := by
  unfold RoundingMode.reaches at h
  cases rm <;> cases neg <;> simp only [Bool.false_eq_true, if_false, if_true] at h <;> linarith

/-- A magnitude in units of the step: it rounds to an even integer or beyond exactly where it reaches it. -/
theorem RoundingMode.le_mag_iff_reaches (rm : RoundingMode) (neg : Bool) {t step : ℚ} (hs : 0 < step) (h0 : 0 ≤ t)
    {n : Nat} (hn : n % 2 = 1) : n + 1 ≤ rm.mag neg t ↔ rm.reaches neg ((n + 1) * step) step (t * step) := by
  by_cases hhi : (n : ℚ) + 1 ≤ t
  · have hle : n + 1 ≤ rm.mag neg t := rm.le_mag_of_le neg (by push_cast; exact hhi)
    exact ⟨fun _ => reaches_of_le hs (mul_le_mul_of_nonneg_right hhi hs.le), fun _ => hle⟩
  by_cases hlo : t ≤ n
  · have hle : rm.mag neg t ≤ n := rm.mag_le_of_le neg h0 hlo
    refine ⟨fun h => absurd h (by omega), fun h => ?_⟩
    have hlt := lt_of_reaches hs h
    have : t * step ≤ n * step := mul_le_mul_of_nonneg_right hlo hs.le
    linarith
  · rw [not_le] at hhi hlo
    have hfl : ⌊t⌋₊ = n := (Nat.floor_eq_iff h0).mpr ⟨hlo.le, hhi⟩
    have hne : ¬ t = ⌊t⌋₊ := by rw [hfl]; exact hlo.ne'
    rcases rm.down_or_up_or_nearest neg with h | h | h
    · rw [mag_down h, hfl]
      have hlt : t * step < (n + 1) * step := mul_lt_mul_of_pos_right hhi hs
      refine ⟨fun h => absurd h (by omega), fun h' => ?_⟩
      rcases h with rfl | ⟨rfl, rfl⟩ | ⟨rfl, rfl⟩ <;> exact absurd h' hlt.not_ge
    · rw [mag_up h, if_neg hne, hfl]
      have hlt : n * step < t * step := mul_lt_mul_of_pos_right hlo hs
      have hgt : (n + 1) * step - step < t * step := by linarith
      refine ⟨fun _ => ?_, fun _ => le_rfl⟩
      rcases h with ⟨rfl, rfl⟩ | ⟨rfl, rfl⟩ <;> exact hgt
    · have hreach : rm.reaches neg ((n + 1) * step) step (t * step) ↔ 1 / 2 ≤ t - n := by
        have : rm.reaches neg ((n + 1) * step) step (t * step) ↔ (n + 1) * step - step / 2 ≤ t * step := by
          rcases h with rfl | rfl <;> rfl
        rw [this, show ((n : ℚ) + 1) * step - step / 2 = (n + 1 / 2) * step by ring, mul_le_mul_iff_left₀ hs]
        constructor <;> intro h <;> linarith
      rw [hreach, mag_nearest h, hfl]
      refine ⟨fun hle => ?_, fun hle => ?_⟩
      · split at hle
        · rcases ‹_ ∨ _› with hd | ⟨hd, -⟩
          · exact hd.le
          · exact hd.ge
        · omega
      · rw [if_pos (hle.lt_or_eq.imp id fun hd => ⟨hd.symm, .inr hn⟩)]

/-! ### Mantissas that stand for a rational -/

/-- A mantissa stands for a magnitude: exactly, or, sticky, as the integer below one that is no integer. -/
def Represents (m : Nat) (sticky : Bool) (t : ℚ) : Prop := if sticky then (m : ℚ) < t ∧ t < m + 1 else t = m

theorem Represents.le {m : Nat} {sticky : Bool} {t : ℚ} (h : Represents m sticky t) : (m : ℚ) ≤ t ∧ t < m + 1 := by
  cases sticky with
  | false =>
    obtain rfl : t = m := h
    exact ⟨le_rfl, lt_add_one _⟩
  | true => exact ⟨h.1.le, h.2⟩

/-- Where a magnitude lies between two multiples of a power of two, from the mantissa that stands for it. -/
theorem Represents.compare {m shift : Nat} {sticky : Bool} {t : ℚ} (h : Represents m sticky t)
    (hs : sticky = true → 0 < shift) :
    let rest := t - 2 ^ shift * (m / 2 ^ shift : Nat)
    (0 ≤ rest ∧ rest < 2 ^ shift) ∧ (rest ≠ 0 ↔ m % 2 ^ shift ≠ 0 ∨ sticky = true) ∧
      ((2 : ℚ) ^ shift < 2 * rest ↔ 2 ^ shift < 2 * (m % 2 ^ shift) ∨ (2 * (m % 2 ^ shift) = 2 ^ shift ∧ sticky = true)) ∧
      (2 * rest = 2 ^ shift ↔ 2 * (m % 2 ^ shift) = 2 ^ shift ∧ sticky = false) := by
  intro rest
  have hsplit : (m : ℚ) = 2 ^ shift * (m / 2 ^ shift : Nat) + (m % 2 ^ shift : Nat) := by
    exact_mod_cast (Nat.div_add_mod m (2 ^ shift)).symm
  have hrlt : m % 2 ^ shift < 2 ^ shift := Nat.mod_lt _ (Nat.two_pow_pos _)
  have hrlt' : ((m % 2 ^ shift : Nat) : ℚ) + 1 ≤ 2 ^ shift := by exact_mod_cast hrlt
  have hr0 : (0 : ℚ) ≤ (m % 2 ^ shift : Nat) := Nat.cast_nonneg _
  have hrest : rest = t - 2 ^ shift * (m / 2 ^ shift : Nat) := rfl
  obtain ⟨hle, hlt⟩ := h.le
  refine ⟨⟨by linarith, by linarith⟩, ?_⟩
  generalize m % 2 ^ shift = r at hsplit hrlt hrlt' hr0 ⊢
  cases sticky with
  | false =>
    have hr : rest = r := by have : t = m := h; linarith
    rw [hr]
    refine ⟨by simp, ?_, ?_⟩ <;> simp only [Bool.false_eq_true, and_false, or_false, and_true] <;> norm_cast
  | true =>
    have hr : (r : ℚ) < rest := by have := h.1; linarith
    have hr' : rest < r + 1 := by linarith
    obtain ⟨k, rfl⟩ : ∃ k, shift = k + 1 := ⟨shift - 1, by have := hs rfl; omega⟩
    -- no multiple of the half lies strictly between the mantissa and the next one
    have hgap : 2 * r < 2 ^ (k + 1) → 2 * rest < 2 ^ (k + 1) := by
      intro hlow
      have hnat : 2 * (r + 1) ≤ 2 ^ (k + 1) := by rw [Nat.pow_succ] at hlow ⊢; omega
      have : 2 * ((r : ℚ) + 1) ≤ 2 ^ (k + 1) := by exact_mod_cast hnat
      linarith
    have hhigh : 2 ^ (k + 1) ≤ 2 * r → (2 : ℚ) ^ (k + 1) < 2 * rest := by
      intro hhi
      have : (2 : ℚ) ^ (k + 1) ≤ 2 * r := by exact_mod_cast hhi
      linarith
    rcases lt_or_ge (2 * r) (2 ^ (k + 1)) with hc | hc
    · have := hgap hc
      refine ⟨by simp; linarith, ?_, ?_⟩
      · simp only [and_true]
        exact ⟨fun h => absurd h this.not_gt, fun h => by omega⟩
      · simp [this.ne]
    · have := hhigh hc
      refine ⟨by simp; linarith, ?_, ?_⟩
      · simp only [and_true]
        exact ⟨fun _ => by omega, fun _ => this⟩
      · simp [this.ne']

/-- Rounding a mantissa to a multiple of a power of two rounds the magnitude it stands for. -/
theorem shiftRound_eq (rm : RoundingMode) (neg : Bool) {m shift : Nat} {sticky : Bool} {t : ℚ} (h : Represents m sticky t)
    (hs : sticky = true → 0 < shift) :
    shiftRound rm neg m shift sticky = (rm.mag neg (t / 2 ^ shift), decide (t / 2 ^ shift ≠ ⌊t / 2 ^ shift⌋₊)) := by
  have hpow : (0 : ℚ) < 2 ^ shift := by positivity
  obtain ⟨⟨h0, hlt⟩, hne, habove, hhalf⟩ := h.compare hs
  have hdiv : t / 2 ^ shift - (m / 2 ^ shift : Nat) = (t - 2 ^ shift * (m / 2 ^ shift : Nat)) / 2 ^ shift := by
    field_simp
  have hd0 := div_nonneg h0 hpow.le
  have hd1 := (div_lt_one hpow).mpr hlt
  rw [← hdiv] at hd0 hd1
  have hm0 : (0 : ℚ) ≤ (m / 2 ^ shift : Nat) := Nat.cast_nonneg _
  have hfl : ⌊t / 2 ^ shift⌋₊ = m / 2 ^ shift :=
    (Nat.floor_eq_iff (by linarith)).mpr ⟨by linarith, by linarith⟩
  have hinexact : (m % 2 ^ shift != 0 || sticky) = decide (t / 2 ^ shift ≠ (m / 2 ^ shift : Nat)) := by
    have hiff : t / 2 ^ shift ≠ (m / 2 ^ shift : Nat) ↔ t - 2 ^ shift * (m / 2 ^ shift : Nat) ≠ 0 := by
      rw [ne_eq, ← sub_eq_zero, hdiv, div_eq_zero_iff, or_iff_left hpow.ne']
    rw [Bool.eq_iff_iff, decide_eq_true_eq, hiff, hne, Bool.or_eq_true, bne_iff_ne]
  have hup : (decide (2 ^ shift < 2 * (m % 2 ^ shift)) || (2 * (m % 2 ^ shift) == 2 ^ shift && sticky)) =
      decide (1 / 2 < t / 2 ^ shift - (m / 2 ^ shift : Nat)) := by
    rw [Bool.eq_iff_iff, decide_eq_true_eq, hdiv, lt_div_iff₀ hpow, Bool.or_eq_true, Bool.and_eq_true, decide_eq_true_eq,
      beq_iff_eq, ← habove]
    constructor <;> intro h <;> linarith
  have htie : (2 * (m % 2 ^ shift) == 2 ^ shift && !sticky) =
      decide (t / 2 ^ shift - (m / 2 ^ shift : Nat) = 1 / 2) := by
    rw [Bool.eq_iff_iff, decide_eq_true_eq, hdiv, div_eq_iff hpow.ne', Bool.and_eq_true, Bool.not_eq_true', beq_iff_eq,
      ← hhalf]
    constructor <;> intro h <;> linarith
  rw [RoundingMode.mag, hfl, ← hinexact, ← hup, ← htie]
  rfl

/-- Rounding a mantissa to a multiple of a place. -/
theorem roundTo_eq (rm : RoundingMode) (neg : Bool) {m : Nat} {e place : Int} {sticky : Bool} {x : ℚ}
    (h : Represents m sticky (x / 2 ^ e)) (hs : sticky = true → e < place) :
    roundTo rm neg m e place sticky = (rm.mag neg (x / 2 ^ place), decide (x / 2 ^ place ≠ ⌊x / 2 ^ place⌋₊)) := by
  unfold roundTo
  have hz : ∀ e : Int, (2 : ℚ) ^ e ≠ 0 := fun e => zpow_ne_zero _ (by norm_num)
  split
  · next hle =>
    obtain rfl : sticky = false := by
      cases sticky
      · rfl
      · exact absurd (hs rfl) hle.not_gt
    have hx : x / 2 ^ place = ((m * 2 ^ (e - place).toNat : Nat) : ℚ) := by
      have hxe : x = m * 2 ^ e := (div_eq_iff (hz e)).mp h
      have hpow : ((2 : ℚ) ^ (e - place).toNat) = 2 ^ (e - place) := by
        rw [← zpow_natCast, Int.toNat_of_nonneg (by omega)]
      push_cast
      rw [hpow, hxe, zpow_sub₀ (by norm_num), mul_div_assoc]
    rw [hx, RoundingMode.mag_natCast, Nat.floor_natCast]
    simp
  · next hlt =>
    rw [shiftRound_eq rm neg h (fun hst => by have := hs hst; omega)]
    have hx : x / 2 ^ e / 2 ^ (place - e).toNat = x / 2 ^ place := by
      rw [← zpow_natCast, Int.toNat_of_nonneg (by omega), div_div, ← zpow_add₀ (by norm_num)]
      congr 2
      omega
    rw [hx]

end Sys2Proof.Machine
end

section
/-! PROOFS. The rounding of a format as a function of the exact rational: when it overflows, which datum it gives otherwise,
and with which flags (45_f.md R432, R439). -/

namespace Sys2Proof.Machine

/-! ### The rounding of a rational magnitude -/

/-- The last place that a format keeps of a magnitude. -/
def Fmt.place (f : Fmt) (x : ℚ) : Int := max (Int.log 2 x) (1 - (f.bias : Int)) - f.manBits

/-- A magnitude in units of its last place, rounded. -/
def Fmt.units (f : Fmt) (rm : RoundingMode) (neg : Bool) (x : ℚ) : Nat := rm.mag neg (x / 2 ^ f.place x)

/-- A magnitude is no multiple of its last place. -/
def Fmt.inexact (f : Fmt) (x : ℚ) : Bool := decide (x / 2 ^ f.place x ≠ ⌊x / 2 ^ f.place x⌋₊)

/-- A magnitude, rounded to the precision of the format with no bound on the exponent, is below the least normal one. -/
def Fmt.tiny (f : Fmt) (rm : RoundingMode) (neg : Bool) (x : ℚ) : Bool :=
  decide (Int.log 2 x < 1 - (f.bias : Int) - 1) || (decide (Int.log 2 x = 1 - (f.bias : Int) - 1) &&
    decide (rm.mag neg (x / 2 ^ (Int.log 2 x - f.manBits)) < 2 ^ (f.manBits + 1)))

/-- The flags of a magnitude that does not overflow. -/
def Fmt.roundFlags (f : Fmt) (rm : RoundingMode) (neg : Bool) (x : ℚ) : FpFlags :=
  flagIf (f.inexact x) flagNX ||| flagIf (f.inexact x && f.tiny rm neg x) flagUF

/-- `n` units of a place, at most 2^(manBits + 1), as a datum with the flags of a result that does not overflow. -/
def Fmt.deliver (f : Fmt) (rm : RoundingMode) (neg : Bool) (place : Int) (n : Nat) (flags : FpFlags) :
    BitVec f.width × FpFlags :=
  let carry := n == 2 ^ (f.manBits + 1)
  let man := if carry then 2 ^ f.manBits else n
  let biased : Int := place + f.manBits + f.bias + (if carry then 1 else 0)
  if man < 2 ^ f.manBits then (f.pack neg 0 man, flags)
  else if (2 : Int) ^ f.expBits - 1 ≤ biased then (f.overflow rm neg, flagOF ||| flagNX)
  else (f.pack neg biased.toNat (man - 2 ^ f.manBits), flags)

/-- The rounding of a positive magnitude. -/
def Fmt.roundQ (f : Fmt) (rm : RoundingMode) (neg : Bool) (x : ℚ) : BitVec f.width × FpFlags :=
  f.deliver rm neg (f.place x) (f.units rm neg x) (f.roundFlags rm neg x)

/-! ### Leading places -/

theorem log_bounds {x : ℚ} (hx : 0 < x) : (2 : ℚ) ^ Int.log 2 x ≤ x ∧ x < 2 ^ (Int.log 2 x + 1) :=
  ⟨by exact_mod_cast Int.zpow_log_le_self (b := 2) (by decide) hx,
    by exact_mod_cast Int.lt_zpow_succ_log_self (b := 2) (by decide) x⟩

theorem two_zpow_le {a b : Int} (h : a ≤ b) : (2 : ℚ) ^ a ≤ 2 ^ b := zpow_le_zpow_right₀ (by norm_num) h

theorem two_zpow_pos (a : Int) : (0 : ℚ) < 2 ^ a := by positivity

theorem two_zpow_add_nat (a : Int) (n : Nat) : (2 : ℚ) ^ (a + n) = 2 ^ n * 2 ^ a := by
  rw [zpow_add₀ (by norm_num), zpow_natCast, mul_comm]

theorem log_eq_of_bounds {x : ℚ} {k : Int} (h1 : (2 : ℚ) ^ k ≤ x) (h2 : x < 2 ^ (k + 1)) : Int.log 2 x = k := by
  have hx : 0 < x := (two_zpow_pos k).trans_le h1
  have hle : k ≤ Int.log 2 x := (Int.zpow_le_iff_le_log (by decide) hx).mp (by exact_mod_cast h1)
  have hlt : Int.log 2 x < k + 1 := (Int.lt_zpow_iff_log_lt (by decide) hx).mp (by exact_mod_cast h2)
  omega

/-- The leading place of a magnitude is that of the mantissa that stands for it. -/
theorem Represents.log {m : Nat} {sticky : Bool} {e : Int} {x : ℚ} (h : Represents m sticky (x / 2 ^ e)) (hm : m ≠ 0) :
    Int.log 2 x = m.log2 + e := by
  obtain ⟨hle, hlt⟩ := h.le
  rw [le_div_iff₀ (two_zpow_pos e)] at hle
  rw [div_lt_iff₀ (two_zpow_pos e)] at hlt
  have hlo : (2 : ℚ) ^ m.log2 ≤ m := by exact_mod_cast Nat.log2_self_le hm
  have hhi : (m : ℚ) + 1 ≤ 2 ^ (m.log2 + 1) := by exact_mod_cast Nat.lt_log2_self (n := m)
  have hpow : ∀ k : Nat, (2 : ℚ) ^ ((k : Int) + e) = 2 ^ k * 2 ^ e := fun k => by rw [add_comm, two_zpow_add_nat]
  refine log_eq_of_bounds ?_ ?_
  · rw [hpow]
    exact (mul_le_mul_of_nonneg_right hlo (two_zpow_pos e).le).trans hle
  · rw [show (m.log2 : Int) + e + 1 = (m.log2 + 1 : Nat) + e by push_cast; ring, hpow]
    exact hlt.trans_le (mul_le_mul_of_nonneg_right hhi (two_zpow_pos e).le)

/-- Rounding depends on the exact value alone; a sticky mantissa must have more digits than the format keeps. -/
theorem Fmt.round_eq (f : Fmt) (rm : RoundingMode) (neg : Bool) {m : Nat} {e : Int} {sticky : Bool} {x : ℚ} (hm : m ≠ 0)
    (h : Represents m sticky (x / 2 ^ e)) (hs : sticky = true → 2 ^ (f.manBits + 1) ≤ m) :
    f.round rm neg m e sticky = f.roundQ rm neg x := by
  have hlead : (m.log2 : Int) + e = Int.log 2 x := (h.log hm).symm
  have hdigits : sticky = true → e < Int.log 2 x - f.manBits := by
    intro hst
    have : f.manBits + 1 ≤ m.log2 := (Nat.le_log2 hm).mpr (hs hst)
    omega
  have hq : roundTo rm neg m e (max (Int.log 2 x) (1 - (f.bias : Int)) - f.manBits) sticky =
      (f.units rm neg x, f.inexact x) :=
    roundTo_eq rm neg h fun hst => by have := hdigits hst; omega
  have hu := roundTo_eq rm neg h hdigits
  unfold Fmt.round
  rw [if_neg hm]
  dsimp only
  rw [hlead]
  rw [hq, hu]
  rfl

theorem Fmt.round_exact (f : Fmt) (rm : RoundingMode) (neg : Bool) {m : Nat} (e : Int) (hm : m ≠ 0) :
    f.round rm neg m e false = f.roundQ rm neg (m * 2 ^ e) :=
  f.round_eq rm neg hm (mul_div_cancel_right₀ _ (two_zpow_pos e).ne') nofun

/-! ### Overflow and tininess -/

/-- A magnitude rounded to a number of digits is a power of two or more: by its leading place, or, from the place below,
by a carry. -/
theorem RoundingMode.reaches_iff (rm : RoundingMode) (neg : Bool) {x : ℚ} (hx : 0 < x) (p : Int) (d : Nat) :
    rm.reaches neg (2 ^ (p + d + 1)) (2 ^ p) x ↔
      p + d < Int.log 2 x ∨ (Int.log 2 x = p + d ∧ 2 ^ (d + 1) ≤ rm.mag neg (x / 2 ^ p)) := by
  obtain ⟨hlo, hhi⟩ := log_bounds hx
  have hp := two_zpow_pos p
  rcases lt_trichotomy (Int.log 2 x) (p + d) with h | h | h
  · refine ⟨fun hr => ?_, fun hr => by omega⟩
    have hlt := lt_of_reaches hp hr
    have h1 : x < 2 ^ (p + d) := hhi.trans_le (two_zpow_le (by omega))
    have h2 : (2 : ℚ) ^ (p + d + 1) = 2 * 2 ^ (p + d) := by rw [zpow_add_one₀ (by norm_num), mul_comm]
    have h3 : (2 : ℚ) ^ p ≤ 2 ^ (p + d) := two_zpow_le (by omega)
    linarith
  · have hodd : (2 ^ (d + 1) - 1) % 2 = 1 := by have := Nat.two_pow_pos d; rw [Nat.pow_succ]; omega
    have hn : 2 ^ (d + 1) - 1 + 1 = 2 ^ (d + 1) := by have := Nat.two_pow_pos (d + 1); omega
    have hcast : (((2 ^ (d + 1) - 1 : Nat) : ℚ) + 1) = 2 ^ (d + 1) := by exact_mod_cast hn
    have hbound : (2 : ℚ) ^ (p + d + 1) = 2 ^ (d + 1) * 2 ^ p := by
      rw [← two_zpow_add_nat]; congr 1; push_cast; ring
    have key := rm.le_mag_iff_reaches neg (t := x / 2 ^ p) hp (by positivity) hodd
    rw [hn, hcast, div_mul_cancel₀ _ hp.ne', ← hbound] at key
    rw [← key]
    exact ⟨fun hr => .inr ⟨h, hr⟩, fun hr => hr.elim (fun hr => absurd h hr.ne') And.right⟩
  · exact ⟨fun _ => .inl h, fun _ => reaches_of_le hp ((two_zpow_le (by omega)).trans hlo)⟩

section
variable (f : Fmt) (rm : RoundingMode) (neg : Bool) {x : ℚ} (hx : 0 < x)

include hx

theorem Fmt.overflows_iff :
    f.Overflows rm neg x ↔
      (f.bias : Int) < Int.log 2 x ∨ (Int.log 2 x = f.bias ∧ 2 ^ (f.manBits + 1) ≤ f.units rm neg x) := by
  have h := rm.reaches_iff neg hx ((f.bias : Int) - f.manBits) f.manBits
  rw [sub_add_cancel] at h
  rw [Fmt.Overflows, h]
  refine or_congr Iff.rfl (and_congr_right fun hl => ?_)
  rw [Fmt.units, Fmt.place, hl, max_eq_left (by have := f.manBits_lt_bias; omega)]

theorem Fmt.tiny_iff : f.tiny rm neg x = true ↔ f.Tiny rm neg x := by
  have h := rm.reaches_iff neg hx (-(f.bias : Int) - f.manBits) f.manBits
  rw [sub_add_cancel, show -(f.bias : Int) + 1 = 1 - f.bias by ring] at h
  rw [Fmt.Tiny, h, Fmt.tiny, show 1 - (f.bias : Int) - 1 = -f.bias by ring]
  simp only [Bool.or_eq_true, Bool.and_eq_true, decide_eq_true_eq, not_or, not_and, not_le, not_lt]
  constructor
  · rintro (hl | ⟨hl, hu⟩)
    · exact ⟨hl.le, fun he => absurd he hl.ne⟩
    · exact ⟨hl.le, fun _ => by rwa [hl] at hu⟩
  · rintro ⟨hl, hu⟩
    rcases hl.lt_or_eq with hl | hl
    · exact .inl hl
    · exact .inr ⟨hl, by rw [hl]; exact hu hl⟩

/-! ### The rounded significand -/

theorem Fmt.scaled_pos : 0 < x / 2 ^ f.place x := div_pos hx (two_zpow_pos _)

theorem Fmt.units_le : f.units rm neg x ≤ 2 ^ (f.manBits + 1) := by
  refine rm.mag_le_of_le neg (f.scaled_pos hx).le ?_
  rw [div_le_iff₀ (two_zpow_pos _)]
  push_cast
  rw [← two_zpow_add_nat]
  exact (log_bounds hx).2.le.trans (two_zpow_le (by unfold Fmt.place; push_cast; omega))

/-- A magnitude of the normal range has a leading digit. -/
theorem Fmt.le_scaled (h : 1 - (f.bias : Int) ≤ Int.log 2 x) : ((2 ^ f.manBits : Nat) : ℚ) ≤ x / 2 ^ f.place x := by
  rw [le_div_iff₀ (two_zpow_pos _)]
  push_cast
  rw [← two_zpow_add_nat]
  exact (two_zpow_le (by unfold Fmt.place; omega)).trans (log_bounds hx).1

theorem Fmt.le_units (h : 1 - (f.bias : Int) ≤ Int.log 2 x) : 2 ^ f.manBits ≤ f.units rm neg x :=
  rm.le_mag_of_le neg (f.le_scaled hx h)

end

theorem Fmt.emin_le_place (f : Fmt) (x : ℚ) : f.emin ≤ f.place x := by unfold Fmt.emin Fmt.place; omega

/-! ### What is delivered -/

theorem Fmt.deliver_subnormal (f : Fmt) (rm : RoundingMode) (neg : Bool) (place : Int) {n : Nat} (flags : FpFlags)
    (h : n < 2 ^ f.manBits) : f.deliver rm neg place n flags = (f.pack neg 0 n, flags) := by
  have hne : (n == 2 ^ (f.manBits + 1)) = false := by rw [beq_eq_false_iff_ne, Nat.pow_succ]; omega
  simp only [Fmt.deliver, hne, Bool.false_eq_true, if_false, if_pos h]

/-- The biased exponent of `n` units of a place. -/
def Fmt.biasedExp (f : Fmt) (place : Int) (n : Nat) : Int :=
  place + f.manBits + f.bias + (if n = 2 ^ (f.manBits + 1) then 1 else 0)

theorem Fmt.deliver_overflow (f : Fmt) (rm : RoundingMode) (neg : Bool) {place : Int} {n : Nat} (flags : FpFlags)
    (h : 2 ^ f.manBits ≤ n) (hb : 2 * (f.bias : Int) + 1 ≤ f.biasedExp place n) :
    f.deliver rm neg place n flags = (f.overflow rm neg, flagOF ||| flagNX) := by
  have htop : (2 : Int) ^ f.expBits - 1 = 2 * f.bias + 1 := by
    have : ((2 ^ f.expBits : Nat) : Int) = (2 * f.bias + 2 : Nat) := congrArg _ f.two_pow_expBits
    push_cast at this
    omega
  have hman : ¬ (if n == 2 ^ (f.manBits + 1) then 2 ^ f.manBits else n) < 2 ^ f.manBits := by
    split
    · exact lt_irrefl _
    · exact h.not_gt
  unfold Fmt.deliver
  dsimp only
  rw [if_neg hman, if_pos]
  simpa only [htop, beq_iff_eq, Fmt.biasedExp] using hb

theorem Fmt.deliver_normal (f : Fmt) (rm : RoundingMode) (neg : Bool) {place : Int} {n : Nat} (flags : FpFlags)
    (h : 2 ^ f.manBits ≤ n) (hb : f.biasedExp place n < 2 * (f.bias : Int) + 1) :
    f.deliver rm neg place n flags = (f.pack neg (f.biasedExp place n).toNat
      (if n = 2 ^ (f.manBits + 1) then 0 else n - 2 ^ f.manBits), flags) := by
  have htop : (2 : Int) ^ f.expBits - 1 = 2 * f.bias + 1 := by
    have : ((2 ^ f.expBits : Nat) : Int) = (2 * f.bias + 2 : Nat) := congrArg _ f.two_pow_expBits
    push_cast at this
    omega
  have hman : ¬ (if n == 2 ^ (f.manBits + 1) then 2 ^ f.manBits else n) < 2 ^ f.manBits := by
    split
    · exact lt_irrefl _
    · exact h.not_gt
  unfold Fmt.deliver
  dsimp only
  rw [if_neg hman, if_neg]
  · by_cases hc : n = 2 ^ (f.manBits + 1)
    · simp [hc, Fmt.biasedExp]
    · simp [hc, Fmt.biasedExp]
  · simpa only [htop, beq_iff_eq, Fmt.biasedExp, not_le] using hb

/-- A result of the rounding: `n` units of a place, with a sign, exactly. -/
structure Fmt.Delivers (f : Fmt) (neg : Bool) (place : Int) (n : Nat) (v : BitVec f.width) : Prop where
  decode : ∃ m e, f.decode v = .fin neg m e ∧ (m : ℚ) * 2 ^ e = n * 2 ^ place
  sign : f.signField v = neg
  parity : f.manField v % 2 = n % 2

theorem Fmt.delivers_subnormal (f : Fmt) (neg : Bool) {n : Nat} (h : n < 2 ^ f.manBits) :
    f.Delivers neg f.emin n (f.pack neg 0 n) := by
  have hb : 0 < 2 ^ f.expBits := Nat.two_pow_pos _
  exact ⟨⟨n, f.emin, f.decode_pack_subnormal neg h, rfl⟩, f.signField_pack neg hb h, by rw [f.manField_pack neg hb h]⟩

theorem Fmt.delivers_normal (f : Fmt) (neg : Bool) {place : Int} {n : Nat} (h : 2 ^ f.manBits ≤ n)
    (hn : n ≤ 2 ^ (f.manBits + 1)) (hp : f.emin ≤ place) (hb : f.biasedExp place n < 2 * (f.bias : Int) + 1) :
    f.Delivers neg place n (f.pack neg (f.biasedExp place n).toNat
      (if n = 2 ^ (f.manBits + 1) then 0 else n - 2 ^ f.manBits)) := by
  have hexp := f.two_pow_expBits
  have hpos : 1 ≤ f.biasedExp place n := by
    unfold Fmt.biasedExp
    unfold Fmt.emin at hp
    split <;> omega
  have htwo : 2 ^ (f.manBits + 1) = 2 * 2 ^ f.manBits := by rw [Nat.pow_succ, Nat.mul_comm]
  have hk : (if n = 2 ^ (f.manBits + 1) then 0 else n - 2 ^ f.manBits) < 2 ^ f.manBits := by
    have := Nat.two_pow_pos f.manBits
    split <;> omega
  have hbt : (f.biasedExp place n).toNat < 2 ^ f.expBits - 1 := by omega
  have hdec := f.decode_pack_normal neg (by omega) hbt hk
  rw [Int.toNat_of_nonneg (by omega)] at hdec
  refine ⟨⟨_, _, hdec, ?_⟩, f.signField_pack neg (by omega) hk, ?_⟩
  · by_cases hc : n = 2 ^ (f.manBits + 1)
    · rw [if_pos hc, Fmt.biasedExp, if_pos hc, hc]
      push_cast
      rw [show place + f.manBits + (f.bias : Int) + 1 - f.bias - f.manBits = place + 1 by ring,
        zpow_add_one₀ (by norm_num), pow_succ]
      ring
    · rw [if_neg hc, Fmt.biasedExp, if_neg hc]
      rw [Nat.sub_add_cancel h,
        show place + f.manBits + (f.bias : Int) + 0 - f.bias - f.manBits = place by ring]
  · rw [f.manField_pack neg (by omega) hk]
    have heven : 2 ^ f.manBits % 2 = 0 := by
      obtain ⟨j, hj⟩ := Nat.exists_eq_succ_of_ne_zero f.manBits_pos.ne'
      rw [hj, Nat.succ_eq_add_one, Nat.pow_succ]
      omega
    split <;> omega

/-! ### The rounding of a magnitude -/

section
variable (f : Fmt) (rm : RoundingMode) (neg : Bool) {x : ℚ} (hx : 0 < x)

include hx

theorem Fmt.roundQ_of_overflows (h : f.Overflows rm neg x) : f.roundQ rm neg x = (f.overflow rm neg, flagOF ||| flagNX) := by
  have hb := f.manBits_lt_bias
  have hl : (f.bias : Int) ≤ Int.log 2 x := by
    rcases (f.overflows_iff rm neg hx).mp h with h | ⟨h, -⟩ <;> omega
  have hplace : f.place x = Int.log 2 x - f.manBits := by
    unfold Fmt.place
    rw [max_eq_left (by omega)]
  refine f.deliver_overflow rm neg _ (f.le_units rm neg hx (by omega)) ?_
  rw [Fmt.biasedExp, hplace]
  rcases (f.overflows_iff rm neg hx).mp h with h | ⟨h, hn⟩
  · split <;> omega
  · rw [if_pos (le_antisymm (f.units_le rm neg hx) hn)]
    omega

theorem Fmt.roundQ_of_not_overflows (h : ¬f.Overflows rm neg x) :
    f.Delivers neg (f.place x) (f.units rm neg x) (f.roundQ rm neg x).1 ∧
      (f.roundQ rm neg x).2 = f.roundFlags rm neg x := by
  have hov := fun k => h ((f.overflows_iff rm neg hx).mpr k)
  rcases lt_or_ge (f.units rm neg x) (2 ^ f.manBits) with hn | hn
  · have hplace : f.place x = f.emin := by
      have : Int.log 2 x < 1 - (f.bias : Int) := by
        by_contra hc
        exact absurd (f.le_units rm neg hx (not_lt.mp hc)) hn.not_ge
      unfold Fmt.place Fmt.emin
      omega
    rw [Fmt.roundQ, f.deliver_subnormal rm neg _ _ hn]
    exact ⟨hplace ▸ f.delivers_subnormal neg hn, rfl⟩
  · have hb : f.biasedExp (f.place x) (f.units rm neg x) < 2 * (f.bias : Int) + 1 := by
      have hle : Int.log 2 x ≤ f.bias := not_lt.mp fun hc => hov (.inl hc)
      have hbias := f.manBits_lt_bias
      unfold Fmt.biasedExp
      split
      · next hc =>
        have hne : Int.log 2 x ≠ f.bias := fun he => hov (.inr ⟨he, hc.ge⟩)
        unfold Fmt.place
        omega
      · unfold Fmt.place
        omega
    rw [Fmt.roundQ, f.deliver_normal rm neg _ hn hb]
    exact ⟨f.delivers_normal neg hn (f.units_le rm neg hx) (f.emin_le_place x) hb, rfl⟩

end

end Sys2Proof.Machine
end

section
/-! PROOFS. The rounding of an exact value against the data of the format: the directed modes give the datum next to it, the
nearest modes a nearest one (45_f.md R432, R435). -/

namespace Sys2Proof.Machine

/-! ### The data of a format -/

/-- The greatest finite magnitude. -/
def Fmt.top (f : Fmt) : ℚ := (2 ^ (f.manBits + 1) - 1) * 2 ^ ((f.bias : Int) - f.manBits)

/-- A rational that a finite datum can hold. -/
def Fmt.Holds (f : Fmt) (y : ℚ) : Prop :=
  ∃ (z : Int) (e : Int), y = z * 2 ^ e ∧ |z| < 2 ^ (f.manBits + 1) ∧ f.emin ≤ e ∧ e ≤ (f.bias : Int) - f.manBits

theorem Fmt.Holds.neg {f : Fmt} {y : ℚ} (h : f.Holds y) : f.Holds (-y) := by
  obtain ⟨z, e, rfl, hz, he⟩ := h
  exact ⟨-z, e, by push_cast; ring, by rwa [abs_neg], he⟩

theorem Fmt.Holds.abs {f : Fmt} {y : ℚ} (h : f.Holds y) : f.Holds |y| := by
  rcases abs_choice y with hy | hy <;> rw [hy]
  · exact h
  · exact h.neg

theorem Fmt.Holds.le_top {f : Fmt} {y : ℚ} (h : f.Holds y) : |y| ≤ f.top := by
  obtain ⟨z, e, rfl, hz, -, he⟩ := h
  have hz' : ((|z| : Int) : ℚ) ≤ 2 ^ (f.manBits + 1) - 1 := by exact_mod_cast Int.le_sub_one_of_lt hz
  rw [abs_mul, ← Int.cast_abs, abs_of_pos (two_zpow_pos e)]
  exact mul_le_mul hz' (two_zpow_le he) (two_zpow_pos e).le ((Int.cast_nonneg (abs_nonneg z)).trans hz')

theorem abs_signedMant (neg : Bool) (m : Nat) : |signedMant neg m| = m := by
  cases neg <;> simp [signedMant]

theorem Fmt.holds_of_decode {f : Fmt} {v : BitVec f.width} {y : ℚ} (h : (f.decode v).value = some y) : f.Holds y := by
  have hm : f.manField v < 2 ^ f.manBits := Nat.mod_lt _ (Nat.two_pow_pos _)
  have htwo : 2 ^ (f.manBits + 1) = 2 * 2 ^ f.manBits := by rw [Nat.pow_succ, Nat.mul_comm]
  have hexp := f.two_pow_expBits
  have hemin : f.emin ≤ (f.bias : Int) - f.manBits := by have := f.manBits_lt_bias; unfold Fmt.emin; omega
  rcases f.decode_cases v with ⟨-, -, hd⟩ | ⟨-, -, hd⟩ | ⟨-, hd⟩ | ⟨h0, h1, hd⟩ <;> rw [hd] at h
  · cases h
  · cases h
  · rw [Fp.value_fin, Option.some.injEq] at h
    refine ⟨_, _, h.symm, ?_, le_rfl, hemin⟩
    rw [abs_signedMant]
    exact_mod_cast (by omega : f.manField v < 2 ^ (f.manBits + 1))
  · rw [Fp.value_fin, Option.some.injEq] at h
    refine ⟨_, _, h.symm, ?_, by unfold Fmt.emin; omega, by omega⟩
    rw [abs_signedMant]
    exact_mod_cast (by omega : f.manField v + 2 ^ f.manBits < 2 ^ (f.manBits + 1))

/-- Against a magnitude, a datum is a multiple of its last place, or below its leading place. -/
theorem Fmt.Holds.grid {f : Fmt} {y : ℚ} (h : f.Holds y) {x : ℚ} (hx : 0 < x) :
    (∃ k : Int, y = k * 2 ^ f.place x) ∨
      (|y| < 2 ^ f.manBits * 2 ^ f.place x ∧ 2 ^ f.manBits * 2 ^ f.place x ≤ x) := by
  obtain ⟨z, e, rfl, hz, hemin, -⟩ := h
  rcases le_or_gt (f.place x) e with hp | hp
  · exact .inl ⟨_, scaled_value z hp⟩
  · have hlog : 1 - (f.bias : Int) ≤ Int.log 2 x := by
      unfold Fmt.place Fmt.emin at *
      omega
    refine .inr ⟨?_, ?_⟩
    · have hz' : ((|z| : Int) : ℚ) < 2 ^ (f.manBits + 1) := by exact_mod_cast hz
      calc |(z : ℚ) * 2 ^ e| = ((|z| : Int) : ℚ) * 2 ^ e := by rw [abs_mul, Int.cast_abs, abs_of_pos (two_zpow_pos e)]
        _ < 2 ^ (f.manBits + 1) * 2 ^ e := mul_lt_mul_of_pos_right hz' (two_zpow_pos e)
        _ = 2 ^ f.manBits * 2 ^ (e + 1) := by rw [zpow_add_one₀ (by norm_num), pow_succ]; ring
        _ ≤ 2 ^ f.manBits * 2 ^ f.place x := by
          exact mul_le_mul_of_nonneg_left (two_zpow_le (by omega)) (by positivity)
    · have := f.le_scaled hx hlog
      rw [le_div_iff₀ (two_zpow_pos _)] at this
      exact_mod_cast this

/-! ### A rounded magnitude against the data -/

section
variable {f : Fmt} {rm : RoundingMode} {neg : Bool} {x y : ℚ}

/-- Down gives the greatest datum not above. -/
theorem Fmt.units_down (hx : 0 < x) (h : rm.Down neg) :
    (f.units rm neg x : ℚ) * 2 ^ f.place x ≤ x ∧
      ∀ y, f.Holds y → y ≤ x → y ≤ (f.units rm neg x : ℚ) * 2 ^ f.place x := by
  have hp := two_zpow_pos (f.place x)
  have hpos := (f.scaled_pos hx).le
  rw [Fmt.units, RoundingMode.mag_down h]
  refine ⟨(le_div_iff₀ hp).mp (Nat.floor_le hpos), fun y hy hyx => ?_⟩
  rcases hy.grid hx with ⟨k, rfl⟩ | ⟨hlt, hle⟩
  · refine mul_le_mul_of_nonneg_right ?_ hp.le
    have hk : (k : ℚ) ≤ x / 2 ^ f.place x := (le_div_iff₀ hp).mpr hyx
    have hkn : k.toNat ≤ ⌊x / 2 ^ f.place x⌋₊ := by
      refine Nat.le_floor ?_
      rcases le_total 0 k with h0 | h0
      · rwa [← Int.cast_natCast, Int.toNat_of_nonneg h0]
      · rwa [Int.toNat_of_nonpos h0, Nat.cast_zero]
    exact_mod_cast (Int.self_le_toNat k).trans (by exact_mod_cast hkn)
  · refine (le_abs_self y).trans (hlt.le.trans (mul_le_mul_of_nonneg_right ?_ hp.le))
    have : 2 ^ f.manBits ≤ ⌊x / 2 ^ f.place x⌋₊ := by
      refine Nat.le_floor ?_
      push_cast
      rwa [le_div_iff₀ hp]
    exact_mod_cast this

/-- Up gives the least datum not below. -/
theorem Fmt.units_up (hx : 0 < x) (h : rm.Up neg) :
    x ≤ (f.units rm neg x : ℚ) * 2 ^ f.place x ∧
      ∀ y, f.Holds y → x ≤ y → (f.units rm neg x : ℚ) * 2 ^ f.place x ≤ y := by
  have hp := two_zpow_pos (f.place x)
  have hpos := (f.scaled_pos hx).le
  refine ⟨(div_le_iff₀ hp).mp (RoundingMode.le_of_mag_up h), fun y hy hxy => ?_⟩
  rcases hy.grid hx with ⟨k, rfl⟩ | ⟨hlt, hle⟩
  · refine mul_le_mul_of_nonneg_right ?_ hp.le
    have hk : x / 2 ^ f.place x ≤ k := (div_le_iff₀ hp).mpr hxy
    have h0 : 0 ≤ k := by exact_mod_cast hpos.trans hk
    have hkn : f.units rm neg x ≤ k.toNat := by
      refine rm.mag_le_of_le neg hpos ?_
      rwa [← Int.cast_natCast, Int.toNat_of_nonneg h0]
    rw [← Int.toNat_of_nonneg h0]
    exact_mod_cast hkn
  · exact absurd (hxy.trans (le_abs_self y)) (hlt.trans_le hle).not_ge

theorem abs_sub_mul (a b : ℚ) {p : ℚ} (hp : 0 < p) : |a * p - b * p| = |a - b| * p := by
  rw [← sub_mul, abs_mul, abs_of_pos hp]

/-- No datum is nearer than the nearest unit; of two equally near, RNE has taken an even one, RMM the greater. -/
theorem Fmt.units_nearest (hx : 0 < x) (h : rm.Nearest) (hy : f.Holds y) :
    |(f.units rm neg x : ℚ) * 2 ^ f.place x - x| ≤ |y - x| ∧
      (|(f.units rm neg x : ℚ) * 2 ^ f.place x - x| = |y - x| → y ≠ (f.units rm neg x : ℚ) * 2 ^ f.place x →
        (rm = .rne → f.units rm neg x % 2 = 0) ∧ (rm = .rmm → |y| < (f.units rm neg x : ℚ) * 2 ^ f.place x)) := by
  have hp := two_zpow_pos (f.place x)
  have hpos := (f.scaled_pos hx).le
  obtain ⟨t, ht⟩ : ∃ t, t = x / 2 ^ f.place x := ⟨_, rfl⟩
  have hxt : x = t * 2 ^ f.place x := by rw [ht, div_mul_cancel₀ _ hp.ne']
  rw [← ht] at hpos
  have hunits : f.units rm neg x = rm.mag neg t := by rw [Fmt.units, ← ht]
  rw [hunits]
  have hdist : ∀ a : ℚ, |a * 2 ^ f.place x - x| = |a - t| * 2 ^ f.place x := fun a => by
    rw [← abs_sub_mul a t hp, ← hxt]
  rcases hy.grid hx with ⟨k, rfl⟩ | ⟨hlt, hle⟩
  · rw [hdist, hdist]
    refine ⟨mul_le_mul_of_nonneg_right (RoundingMode.mag_nearest_le h neg hpos k) hp.le, fun heq hne => ?_⟩
    have hne' : k ≠ rm.mag neg t := fun e => hne (by rw [e, Int.cast_natCast])
    obtain ⟨hrne, hrmm⟩ := RoundingMode.mag_nearest_tie h neg hpos (mul_right_cancel₀ hp.ne' heq) hne'
    refine ⟨hrne, fun hr => ?_⟩
    obtain ⟨h0, hk⟩ := hrmm hr
    rw [abs_mul, abs_of_pos hp, abs_of_nonneg (by exact_mod_cast h0)]
    exact mul_lt_mul_of_pos_right (by exact_mod_cast hk) hp
  · -- the power of two at the leading place lies between, and is a multiple of the last place
    have hnear := mul_le_mul_of_nonneg_right (RoundingMode.mag_nearest_le h neg hpos ((2 : Int) ^ f.manBits)) hp.le
    push_cast at hnear
    rw [← hdist, ← hdist, abs_sub_comm _ x, abs_sub_comm _ x, abs_of_nonneg (sub_nonneg.mpr hle)] at hnear
    have hfar : x - 2 ^ f.manBits * 2 ^ f.place x < |y - x| := by
      rw [abs_sub_comm]
      refine lt_of_lt_of_le ?_ (le_abs_self _)
      have := le_abs_self y
      linarith
    rw [abs_sub_comm _ x]
    exact ⟨(hnear.trans_lt hfar).le, fun heq => absurd heq (hnear.trans_lt hfar).ne⟩

end

/-! ### The result -/

/-- A magnitude with a sign. -/
def signed (neg : Bool) (x : ℚ) : ℚ := if neg then -x else x

theorem Fmt.decode_maxFinite (f : Fmt) (neg : Bool) : (f.decode (f.maxFinite neg)).value = some (signed neg f.top) := by
  have hexp := f.two_pow_expBits
  have hbias := f.manBits_lt_bias
  have hk : 2 ^ f.manBits - 1 < 2 ^ f.manBits := by have := Nat.two_pow_pos f.manBits; omega
  have hm : 2 ^ f.manBits - 1 + 2 ^ f.manBits = 2 ^ (f.manBits + 1) - 1 := by rw [Nat.pow_succ]; omega
  have he : ((2 ^ f.expBits - 2 : Nat) : Int) - f.bias - f.manBits = f.bias - f.manBits := by omega
  have hcast : ((2 ^ (f.manBits + 1) - 1 : Nat) : ℚ) = 2 ^ (f.manBits + 1) - 1 := by
    rw [Nat.cast_sub Nat.one_le_two_pow]; push_cast; rfl
  rw [Fmt.maxFinite, f.decode_pack_normal neg (by omega) (by omega) hk, hm, he, Fp.value_fin, signed, Fmt.top, ← hcast]
  cases neg
  · rfl
  · simp only [signedMant, if_true, Int.cast_neg, Int.cast_natCast, neg_mul]

/-- What an overflow delivers: the greatest finite magnitude, rounding down, else the infinity. -/
theorem Fmt.overflow_eq (f : Fmt) (rm : RoundingMode) (neg : Bool) :
    (rm.Down neg → f.overflow rm neg = f.maxFinite neg) ∧ (¬rm.Down neg → f.overflow rm neg = f.inf neg) := by
  unfold RoundingMode.Down
  cases rm <;> cases neg <;> simp [Fmt.overflow]

theorem Fmt.signField_overflow (f : Fmt) (rm : RoundingMode) (neg : Bool) : f.signField (f.overflow rm neg) = neg := by
  have hexp := f.two_pow_expBits
  have hk : 2 ^ f.manBits - 1 < 2 ^ f.manBits := by have := Nat.two_pow_pos f.manBits; omega
  by_cases h : rm.Down neg
  · rw [(f.overflow_eq rm neg).1 h, Fmt.maxFinite, f.signField_pack neg (by omega) hk]
  · rw [(f.overflow_eq rm neg).2 h, Fmt.inf, f.signField_pack neg (by omega) (Nat.two_pow_pos _)]

theorem Fmt.Delivers.value {f : Fmt} {neg : Bool} {place : Int} {n : Nat} {v : BitVec f.width}
    (h : f.Delivers neg place n v) : (f.decode v).value = some (signed neg (n * 2 ^ place)) := by
  obtain ⟨m, e, hd, hv⟩ := h.decode
  rw [hd, Fp.value_fin, ← hv, signed]
  cases neg
  · simp [signedMant]
  · simp [signedMant]

theorem Fmt.top_eq (f : Fmt) : f.top = 2 ^ ((f.bias : Int) + 1) - 2 ^ ((f.bias : Int) - f.manBits) := by
  rw [Fmt.top, sub_mul, one_mul, ← two_zpow_add_nat]
  congr 2
  push_cast
  ring

theorem Fmt.top_lt_of_overflows {f : Fmt} {rm : RoundingMode} {neg : Bool} {x : ℚ} (h : f.Overflows rm neg x) :
    f.top < x := by
  rw [f.top_eq]
  exact RoundingMode.lt_of_reaches (two_zpow_pos _) h

/-- A finite result: a magnitude with the sign, next to the exact one in a directed mode, nearest in the others. -/
theorem Fmt.roundQ_value {f : Fmt} {rm : RoundingMode} {neg : Bool} {x q : ℚ} (hx : 0 < x)
    (h : (f.decode (f.roundQ rm neg x).1).value = some q) :
    ∃ m : ℚ, 0 ≤ m ∧ q = signed neg m ∧
      (rm.Down neg → m ≤ x ∧ ∀ y, f.Holds y → y ≤ x → y ≤ m) ∧
      (rm.Up neg → x ≤ m ∧ ∀ y, f.Holds y → x ≤ y → m ≤ y) ∧
      (rm.Nearest → ∀ y, f.Holds y → |m - x| ≤ |y - x| ∧ (|m - x| = |y - x| → y ≠ m →
        (rm = .rne → f.manField (f.roundQ rm neg x).1 % 2 = 0) ∧ (rm = .rmm → |y| < m))) := by
  by_cases ho : f.Overflows rm neg x
  · rw [f.roundQ_of_overflows rm neg hx ho] at h ⊢
    by_cases hd : rm.Down neg
    · rw [(f.overflow_eq rm neg).1 hd, f.decode_maxFinite, Option.some.injEq] at h
      have htop := Fmt.top_lt_of_overflows ho
      have h0 : 0 ≤ f.top := by
        rw [f.top_eq, sub_nonneg]
        exact two_zpow_le (by omega)
      refine ⟨f.top, h0, h.symm, fun _ => ⟨htop.le, fun y hy _ => (le_abs_self y).trans hy.le_top⟩, fun hu => ?_,
        fun hn => ?_⟩
      · rcases hd with rfl | ⟨rfl, rfl⟩ | ⟨rfl, rfl⟩ <;> rcases hu with ⟨h1, h2⟩ | ⟨h1, h2⟩ <;> simp at h1 h2
      · rcases hd with rfl | ⟨rfl, rfl⟩ | ⟨rfl, rfl⟩ <;> rcases hn with h1 | h1 <;> cases h1
    · rw [(f.overflow_eq rm neg).2 hd, f.decode_inf] at h
      cases h
  · obtain ⟨hr, -⟩ := f.roundQ_of_not_overflows rm neg hx ho
    rw [hr.value, Option.some.injEq] at h
    refine ⟨_, mul_nonneg (Nat.cast_nonneg _) (two_zpow_pos _).le, h.symm, f.units_down hx, f.units_up hx, fun hn y hy => ?_⟩
    rw [hr.parity]
    exact f.units_nearest hx hn hy

theorem Fmt.signField_roundQ (f : Fmt) (rm : RoundingMode) (neg : Bool) {x : ℚ} (hx : 0 < x) :
    f.signField (f.roundQ rm neg x).1 = neg := by
  by_cases ho : f.Overflows rm neg x
  · rw [f.roundQ_of_overflows rm neg hx ho, f.signField_overflow]
  · exact (f.roundQ_of_not_overflows rm neg hx ho).1.sign

/-- The flags of a result that does not overflow, by its value. -/
theorem Fmt.roundQ_flags {f : Fmt} {rm : RoundingMode} {neg : Bool} {x : ℚ} (hx : 0 < x) (ho : ¬f.Overflows rm neg x) :
    ∃ q, (f.decode (f.roundQ rm neg x).1).value = some q ∧ (q = signed neg x → (f.roundQ rm neg x).2 = 0) ∧
      (q ≠ signed neg x → (f.Tiny rm neg x → (f.roundQ rm neg x).2 = flagUF ||| flagNX) ∧
        (¬f.Tiny rm neg x → (f.roundQ rm neg x).2 = flagNX)) := by
  obtain ⟨hr, hflags⟩ := f.roundQ_of_not_overflows rm neg hx ho
  refine ⟨_, hr.value, ?_⟩
  have hexact : signed neg ((f.units rm neg x : ℚ) * 2 ^ f.place x) = signed neg x ↔ f.inexact x = false := by
    have hinj : signed neg ((f.units rm neg x : ℚ) * 2 ^ f.place x) = signed neg x ↔
        (f.units rm neg x : ℚ) * 2 ^ f.place x = x := by
      unfold signed
      cases neg <;> simp
    rw [hinj, ← eq_div_iff (two_zpow_pos _).ne', Fmt.units, RoundingMode.mag_eq_iff_exact, Fmt.inexact,
      decide_eq_false_iff_not, not_not]
  rw [hflags, Fmt.roundFlags, ← f.tiny_iff rm neg hx]
  refine ⟨fun h => by rw [hexact.mp h]; exact BitVec.or_zero, fun h => ?_⟩
  rw [Bool.eq_true_of_not_eq_false (fun e => h (hexact.mpr e))]
  exact ⟨fun ht => by rw [ht]; rfl, fun ht => by rw [Bool.eq_false_of_not_eq_true ht]; rfl⟩

theorem signedMant_zpow (neg : Bool) (m : Nat) (e : Int) : (signedMant neg m : ℚ) * 2 ^ e = signed neg (m * 2 ^ e) := by
  cases neg <;> simp [signedMant, signed]

theorem abs_signed (neg : Bool) {x : ℚ} (hx : 0 ≤ x) : |signed neg x| = x := by
  cases neg <;> simp [signed, abs_of_nonneg hx]

end Sys2Proof.Machine

namespace Sys2Proof.Proofs
open Sys2Proof Sys2Proof.Machine

/-- Settles O47: rounding is `roundQ` of the magnitude, whose cases are overflow and a multiple of the last place. -/
theorem roundingGivesTheDatumAndFlagsOfTheExactValue : Obligations.RoundingGivesTheDatumAndFlagsOfTheExactValue := by
  intro f rm neg m e x hm hval r top toInf
  have hpos : (0 : ℚ) < m * 2 ^ e := mul_pos (by exact_mod_cast Nat.pos_of_ne_zero hm) (two_zpow_pos e)
  rw [Fp.value_fin, signedMant_zpow, Option.some.injEq] at hval
  have hr : r = f.roundQ rm neg (m * 2 ^ e) := f.round_exact rm neg e hm
  generalize (m : ℚ) * 2 ^ e = mag at hpos hval hr
  have habs : |x| = mag := by rw [← hval, abs_signed neg hpos.le]
  have hdown : toInf ↔ ¬rm.Down neg := by
    unfold toInf RoundingMode.Down
    cases rm <;> cases neg <;> simp
  rw [habs, hr]
  refine ⟨f.signField_roundQ rm neg hpos, fun ho => ?_, fun ho => ?_, fun hle ho => ?_, fun q hq => ?_⟩
  · rw [f.roundQ_of_overflows rm neg hpos ho]
    refine ⟨rfl, fun hi => ?_, fun hi => ?_⟩
    · rw [(f.overflow_eq rm neg).2 (hdown.mp hi), f.decode_inf]
    · rw [(f.overflow_eq rm neg).1 (not_not.mp fun k => hi (hdown.mpr k)), f.decode_maxFinite]
      rfl
  · rw [← hval]
    exact f.roundQ_flags hpos ho
  · exact (Fmt.top_lt_of_overflows ho).not_ge hle
  · obtain ⟨p, hp0, rfl, hdn, hup, -⟩ := f.roundQ_value hpos hq
    rw [← hval]
    refine ⟨?_, ?_, ?_⟩
    · rintro rfl
      cases neg
      · obtain ⟨hle, hmax⟩ := hdn (.inr (.inl ⟨rfl, rfl⟩))
        exact ⟨hle, fun v y hy => hmax y (Fmt.holds_of_decode hy)⟩
      · obtain ⟨hle, hmin⟩ := hup (.inl ⟨rfl, rfl⟩)
        exact ⟨neg_le_neg hle, fun v y hy hyx => le_neg_of_le_neg (hmin _ (Fmt.holds_of_decode hy).neg (le_neg_of_le_neg hyx))⟩
    · rintro rfl
      cases neg
      · obtain ⟨hle, hmin⟩ := hup (.inr ⟨rfl, rfl⟩)
        exact ⟨hle, fun v y hy => hmin y (Fmt.holds_of_decode hy)⟩
      · obtain ⟨hle, hmax⟩ := hdn (.inr (.inr ⟨rfl, rfl⟩))
        exact ⟨neg_le_neg hle, fun v y hy hyx => neg_le_of_neg_le (hmax _ (Fmt.holds_of_decode hy).neg (neg_le_of_neg_le hyx))⟩
    · rintro rfl
      obtain ⟨hle, hmax⟩ := hdn (.inl rfl)
      rw [abs_signed neg hp0]
      exact ⟨hle, fun v y hy => hmax _ (Fmt.holds_of_decode hy).abs⟩

/-- Settles O48: nearest in units of the last place is nearest among the data. -/
theorem nearestRoundingIsNearestAndBreaksTies : Obligations.NearestRoundingIsNearestAndBreaksTies := by
  intro f rm neg m e hm hrm r q x y hq hx v hv
  have hpos : (0 : ℚ) < m * 2 ^ e := mul_pos (by exact_mod_cast Nat.pos_of_ne_zero hm) (two_zpow_pos e)
  rw [Fp.value_fin, signedMant_zpow, Option.some.injEq] at hx
  have hr : r = f.roundQ rm neg (m * 2 ^ e) := f.round_exact rm neg e hm
  rw [hr] at hq ⊢
  generalize (m : ℚ) * 2 ^ e = mag at hpos hx hq
  obtain ⟨p, hp0, rfl, -, -, hnear⟩ := f.roundQ_value hpos hq
  rw [← hx, abs_signed neg hp0]
  have hheld := Fmt.holds_of_decode hv
  cases neg
  · exact hnear hrm y hheld
  · obtain ⟨hle, htie⟩ := hnear hrm (-y) hheld.neg
    have hflip : ∀ a b : ℚ, |(-a) - (-b)| = |a - b| := fun a b => by rw [neg_sub_neg, abs_sub_comm]
    have hy : |y - signed true mag| = |(-y) - mag| := by
      rw [← hflip]
      exact congrArg _ (by rw [signed, if_pos rfl, neg_neg])
    have hp : |signed true p - signed true mag| = |p - mag| := hflip p mag
    rw [hy, hp]
    refine ⟨hle, fun heq hne => ?_⟩
    obtain ⟨hrne, hrmm⟩ := htie heq fun k => hne (by rw [signed, if_pos rfl, ← k, neg_neg])
    exact ⟨hrne, fun hr => by simpa using hrmm hr⟩

end Sys2Proof.Proofs
end

section
/-! PROOFS. The arithmetic of finite data: each operation is exact, then rounded once (45_f.md R432, R454 to R460;
48_zfinx_zfa_cmo_zawrs.md R657, R659). -/

namespace Sys2Proof.Machine

/-! ### Signed mantissas -/

theorem signedMant_not (neg : Bool) (m : Nat) : signedMant (!neg) m = -signedMant neg m := by
  cases neg <;> simp [signedMant]

theorem signedMant_mul (na nb : Bool) (ma mb : Nat) :
    signedMant (na != nb) (ma * mb) = signedMant na ma * signedMant nb mb := by
  cases na <;> cases nb <;> simp [signedMant]

theorem signedMant_natAbs (n : Int) : signedMant (decide (n < 0)) n.natAbs = n := by
  unfold signedMant
  by_cases h : n < 0
  · rw [if_pos (decide_eq_true h)]; omega
  · rw [if_neg (by simpa using h)]; omega

theorem signedMant_eq_zero_iff (neg : Bool) (m : Nat) : signedMant neg m = 0 ↔ m = 0 := by
  cases neg <;> simp [signedMant]

theorem value_eq_zero_iff (neg : Bool) (m : Nat) (e : Int) : (signedMant neg m : ℚ) * 2 ^ e = 0 ↔ m = 0 := by
  rw [mul_eq_zero, or_iff_left (two_zpow_pos e).ne', Int.cast_eq_zero, signedMant_eq_zero_iff]

/-! ### The rounding of exact values -/

/-- Rounding a zero mantissa gives the zero of the sign, any other the rounding of its value. -/
theorem Fmt.round_rounds (f : Fmt) (rm : RoundingMode) (neg : Bool) (m : Nat) (e : Int) {x : ℚ}
    (hx : x = (signedMant neg m : ℚ) * 2 ^ e) :
    if x = 0 then f.round rm neg m e false = (f.zero neg, 0)
    else f.RoundsReal rm (x : ℝ) (f.round rm neg m e false) := by
  subst hx
  by_cases hm : m = 0
  · rw [if_pos ((value_eq_zero_iff neg m e).mpr hm), Fmt.round, if_pos hm]
  · rw [if_neg (fun h => hm ((value_eq_zero_iff neg m e).mp h))]
    exact .inl ⟨neg, m, e, hm, _, Fp.value_fin neg m e, rfl, rfl⟩

/-- The exact sum, rounded; an exact zero has the common sign, or that of the mode. -/
theorem Fmt.roundSum_rounds (f : Fmt) (rm : RoundingMode) (na : Bool) (ma : Nat) (ea : Int) (nb : Bool) (mb : Nat)
    (eb : Int) {x : ℚ} (hx : x = (signedMant na ma : ℚ) * 2 ^ ea + (signedMant nb mb : ℚ) * 2 ^ eb) :
    if x = 0 then f.roundSum rm na ma ea nb mb eb = (f.zero (if na = nb then na else rm == .rdn), 0)
    else f.RoundsReal rm (x : ℝ) (f.roundSum rm na ma ea nb mb eb) := by
  obtain ⟨sum, hsum⟩ : ∃ sum, sum = signedMant na ma * 2 ^ (ea - min ea eb).toNat +
      signedMant nb mb * 2 ^ (eb - min ea eb).toNat := ⟨_, rfl⟩
  have hval : x = (sum : ℚ) * 2 ^ min ea eb := by
    rw [hx, scaled_value _ (min_le_left ea eb), scaled_value _ (min_le_right ea eb), ← add_mul, hsum]
    push_cast
    rfl
  have hzero : x = 0 ↔ sum = 0 := by
    rw [hval, mul_eq_zero, or_iff_left (two_zpow_pos _).ne', Int.cast_eq_zero]
  unfold Fmt.roundSum
  dsimp only
  rw [← hsum]
  by_cases h : sum = 0
  · rw [if_pos (hzero.mpr h), if_pos h]
    simp only [beq_iff_eq]
  · have hround := f.round_rounds rm (decide (sum < 0)) sum.natAbs (min ea eb) (x := x) (by rw [signedMant_natAbs, hval])
    rw [if_neg (fun k => h (hzero.mp k))] at hround ⊢
    rwa [if_neg h]

/-! ### Results that are not exact -/

/-- The rounding of a mantissa with more digits than the format keeps is the rounding of every number it stands for. -/
theorem Fmt.round_sticky (f : Fmt) (rm : RoundingMode) (neg : Bool) {m : Nat} {e : Int}
    (hm : 2 ^ (f.manBits + 1) ≤ m) {neg' : Bool} {m' : Nat} {e' : Int} {q : ℚ} (hm' : m' ≠ 0)
    (hq : (Fp.fin neg' m' e').value = some q) (hlo : (m : ℚ) * 2 ^ e < signed neg q)
    (hhi : signed neg q < ((m : ℚ) + 1) * 2 ^ e) : f.round rm neg m e true = f.round rm neg' m' e' false := by
  have hm0 : m ≠ 0 := by have := Nat.two_pow_pos (f.manBits + 1); omega
  rw [Fp.value_fin, signedMant_zpow, Option.some.injEq] at hq
  have hpos' : (0 : ℚ) < m' * 2 ^ e' := mul_pos (by exact_mod_cast Nat.pos_of_ne_zero hm') (two_zpow_pos e')
  have hpos : 0 < signed neg q := lt_of_le_of_lt (by positivity) hlo
  obtain rfl : neg' = neg := by
    by_contra hne
    have hopp : signed neg q = -(m' * 2 ^ e') := by
      rw [← hq]
      cases neg <;> cases neg' <;> simp [signed] at hne ⊢
    linarith
  have hmag : signed neg' q = m' * 2 ^ e' := by
    rw [← hq]
    cases neg' <;> simp [signed]
  rw [hmag] at hlo hhi
  rw [f.round_exact rm neg' e' hm']
  refine f.round_eq rm neg' hm0 ⟨?_, ?_⟩ fun _ => hm
  · rwa [lt_div_iff₀ (two_zpow_pos e)]
  · rwa [div_lt_iff₀ (two_zpow_pos e)]

/-- A real magnitude, from the mantissa that stands for it. -/
theorem Fmt.roundsReal_of_mantissa (f : Fmt) (rm : RoundingMode) (neg : Bool) {m : Nat} (e : Int) {sticky : Bool} {t : ℝ}
    (hm : 2 ^ (f.manBits + 1) ≤ m) (hexact : sticky = false → t = m) (hsticky : sticky = true → (m : ℝ) < t ∧ t < m + 1) :
    f.RoundsReal rm (if neg then -(t * 2 ^ e) else t * 2 ^ e) (f.round rm neg m e sticky) := by
  have hm0 : m ≠ 0 := by have := Nat.two_pow_pos (f.manBits + 1); omega
  have he : (0 : ℝ) < 2 ^ e := by positivity
  cases sticky with
  | false =>
    refine .inl ⟨neg, m, e, hm0, _, Fp.value_fin neg m e, ?_, rfl⟩
    rw [hexact rfl, signedMant_zpow, signed]
    cases neg <;> simp
  | true =>
    obtain ⟨hlo, hhi⟩ := hsticky rfl
    have hlo' := mul_lt_mul_of_pos_right hlo he
    have hhi' := mul_lt_mul_of_pos_right hhi he
    cases neg with
    | false =>
      refine .inr ⟨m * 2 ^ e, (m + 1) * 2 ^ e, hlo', hhi', fun neg' m' e' hm' q hq h1 h2 => ?_⟩
      have h1' : (m : ℚ) * 2 ^ e < q := (Rat.cast_lt (K := ℝ)).mp (by push_cast; exact h1)
      have h2' : q < ((m : ℚ) + 1) * 2 ^ e := (Rat.cast_lt (K := ℝ)).mp (by push_cast; exact h2)
      exact f.round_sticky rm false hm hm' hq h1' h2'
    | true =>
      refine .inr ⟨-((m + 1) * 2 ^ e), -(m * 2 ^ e), neg_lt_neg hhi', neg_lt_neg hlo', fun neg' m' e' hm' q hq h1 h2 => ?_⟩
      have h1' : -q < ((m : ℚ) + 1) * 2 ^ e :=
        (Rat.cast_lt (K := ℝ)).mp (by push_cast; exact neg_lt_of_neg_lt h1)
      have h2' : (m : ℚ) * 2 ^ e < -q := (Rat.cast_lt (K := ℝ)).mp (by push_cast; exact lt_neg_of_lt_neg h2)
      exact f.round_sticky rm true hm hm' hq h2' h1'

/-! ### Quotients -/

/-- The quotient is taken to more digits than the format keeps. -/
theorem quotient_digits (f : Fmt) {ma mb : Nat} (ha : ma ≠ 0) (hb : mb ≠ 0) :
    2 ^ (f.manBits + 1) ≤ ma * 2 ^ (mb.log2 + f.manBits + 3) / mb := by
  rw [Nat.le_div_iff_mul_le (Nat.pos_of_ne_zero hb)]
  calc 2 ^ (f.manBits + 1) * mb ≤ 2 ^ (f.manBits + 1) * 2 ^ (mb.log2 + 1) :=
        Nat.mul_le_mul_left _ Nat.lt_log2_self.le
    _ = 2 ^ (mb.log2 + f.manBits + 2) := by rw [← Nat.pow_add]; congr 1; omega
    _ ≤ 2 ^ (mb.log2 + f.manBits + 3) := Nat.pow_le_pow_right (by decide) (by omega)
    _ ≤ ma * 2 ^ (mb.log2 + f.manBits + 3) := Nat.le_mul_of_pos_left _ (Nat.pos_of_ne_zero ha)

/-- The quotient of mantissas stands for the exact one. -/
theorem quotient_represents {n d : Nat} (hd : d ≠ 0) :
    ((n % d != 0) = false → ((n : ℝ) / d) = (n / d : Nat)) ∧
      ((n % d != 0) = true → ((n / d : Nat) : ℝ) < n / d ∧ (n : ℝ) / d < (n / d : Nat) + 1) := by
  have hd' : (0 : ℝ) < d := by exact_mod_cast Nat.pos_of_ne_zero hd
  have hsplit : (n : ℝ) = d * (n / d : Nat) + (n % d : Nat) := by exact_mod_cast (Nat.div_add_mod n d).symm
  have hlt : ((n % d : Nat) : ℝ) < d := by exact_mod_cast Nat.mod_lt n (Nat.pos_of_ne_zero hd)
  refine ⟨fun h => ?_, fun h => ⟨?_, ?_⟩⟩
  · rw [bne_eq_false_iff_eq] at h
    rw [div_eq_iff hd'.ne', hsplit, h]
    simp [mul_comm]
  · rw [bne_iff_ne] at h
    have : (0 : ℝ) < (n % d : Nat) := by exact_mod_cast Nat.pos_of_ne_zero h
    rw [lt_div_iff₀ hd']
    linarith
  · rw [div_lt_iff₀ hd']
    linarith

theorem Fmt.div_rounds (f : Fmt) (rm : RoundingMode) (na nb : Bool) {ma mb : Nat} (ea eb : Int) (ha : ma ≠ 0)
    (hb : mb ≠ 0) :
    f.RoundsReal rm (((signedMant na ma : ℚ) * 2 ^ ea / ((signedMant nb mb : ℚ) * 2 ^ eb) : ℚ) : ℝ)
      (f.div rm (.fin na ma ea) (.fin nb mb eb)) := by
  obtain ⟨hexact, hsticky⟩ := quotient_represents (n := ma * 2 ^ (mb.log2 + f.manBits + 3)) hb
  have key := f.roundsReal_of_mantissa rm (na != nb) (ea - eb - (mb.log2 + f.manBits + 3 : Nat)) (quotient_digits f ha hb)
    hexact hsticky
  have hb' : (mb : ℝ) ≠ 0 := by exact_mod_cast hb
  have hmag : ((ma * 2 ^ (mb.log2 + f.manBits + 3) : Nat) : ℝ) / mb *
      2 ^ (ea - eb - (mb.log2 + f.manBits + 3 : Nat)) = ma * 2 ^ ea / (mb * 2 ^ eb) := by
    rw [zpow_sub₀ (by norm_num), zpow_sub₀ (by norm_num), zpow_natCast]
    push_cast
    field_simp
  have hval : (((signedMant na ma : ℚ) * 2 ^ ea / ((signedMant nb mb : ℚ) * 2 ^ eb) : ℚ) : ℝ) =
      if (na != nb) then -((ma : ℝ) * 2 ^ ea / (mb * 2 ^ eb)) else (ma : ℝ) * 2 ^ ea / (mb * 2 ^ eb) := by
    push_cast
    cases na <;> cases nb <;> simp [signedMant, neg_div, div_neg]
  rw [hmag, ← hval] at key
  rw [Fmt.div, if_neg hb]
  exact key

/-! ### Square roots -/

/-- The bits of the root, from the most significant one down. -/
theorem isqrt_spec (bits n r : Nat) (hlo : r * r ≤ n) (hhi : n < (r + 2 ^ bits) * (r + 2 ^ bits)) :
    isqrt bits n r * isqrt bits n r ≤ n ∧ n < (isqrt bits n r + 1) * (isqrt bits n r + 1) := by
  induction bits generalizing r with
  | zero => exact ⟨hlo, hhi⟩
  | succ bits ih =>
    have htwo : r + 2 ^ (bits + 1) = r + 2 ^ bits + 2 ^ bits := by rw [Nat.pow_succ]; omega
    rw [isqrt]
    split
    · exact ih _ ‹_› (by rwa [← htwo])
    · exact ih _ hlo (not_le.mp ‹_›)

theorem isqrt_self_spec (n : Nat) :
    let r := isqrt (n.log2 / 2 + 1) n 0
    r * r ≤ n ∧ n < (r + 1) * (r + 1) := by
  refine isqrt_spec _ n 0 (Nat.zero_le n) ?_
  rw [Nat.zero_add, ← Nat.pow_add]
  exact Nat.lt_log2_self.trans_le (Nat.pow_le_pow_right (by decide) (by omega))

/-- The integer root stands for the real one. -/
theorem root_represents {n r : Nat} (hlo : r * r ≤ n) (hhi : n < (r + 1) * (r + 1)) :
    ((r * r != n) = false → √(n : ℝ) = r) ∧ ((r * r != n) = true → (r : ℝ) < √(n : ℝ) ∧ √(n : ℝ) < r + 1) := by
  refine ⟨fun h => ?_, fun h => ⟨?_, ?_⟩⟩
  · rw [bne_eq_false_iff_eq] at h
    rw [← h]
    push_cast
    exact Real.sqrt_mul_self (Nat.cast_nonneg r)
  · rw [bne_iff_ne] at h
    refine Real.lt_sqrt_of_sq_lt ?_
    rw [sq]
    exact_mod_cast lt_of_le_of_ne hlo h
  · rw [Real.sqrt_lt' (by positivity), sq]
    exact_mod_cast hhi

/-- The root is taken to more digits than the format keeps. -/
theorem root_digits (f : Fmt) {m j r : Nat} (hm : m ≠ 0)
    (hhi : m * 2 ^ (2 * f.manBits + 6 + j) < (r + 1) * (r + 1)) : 2 ^ (f.manBits + 1) ≤ r := by
  by_contra h
  have hr : r + 1 ≤ 2 ^ (f.manBits + 1) := by omega
  have hsq : (r + 1) * (r + 1) ≤ 2 ^ (2 * f.manBits + 2) :=
    calc (r + 1) * (r + 1) ≤ 2 ^ (f.manBits + 1) * 2 ^ (f.manBits + 1) := Nat.mul_le_mul hr hr
      _ = 2 ^ (2 * f.manBits + 2) := by rw [← Nat.pow_add]; congr 1; omega
  have hbig : 2 ^ (2 * f.manBits + 2) ≤ m * 2 ^ (2 * f.manBits + 6 + j) :=
    (Nat.pow_le_pow_right (by decide) (by omega)).trans (Nat.le_mul_of_pos_left _ (Nat.pos_of_ne_zero hm))
  omega

theorem Fmt.sqrt_rounds (f : Fmt) (rm : RoundingMode) {m : Nat} (e : Int) (hm : m ≠ 0) :
    f.RoundsReal rm √(((m : ℚ) * 2 ^ e : ℚ) : ℝ) (f.sqrt rm (.fin false m e)) := by
  obtain ⟨k, hk⟩ : ∃ k : Nat, k = 2 * f.manBits + 6 + (e % 2).toNat := ⟨_, rfl⟩
  obtain ⟨j, hj⟩ : ∃ j : Int, e - k = 2 * j := ⟨(e - k) / 2, by omega⟩
  have hspec := isqrt_self_spec (m * 2 ^ k)
  have hsqrt : f.sqrt rm (.fin false m e) = f.round rm false (isqrt ((m * 2 ^ k).log2 / 2 + 1) (m * 2 ^ k) 0) ((e - k) / 2)
      (isqrt ((m * 2 ^ k).log2 / 2 + 1) (m * 2 ^ k) 0 * isqrt ((m * 2 ^ k).log2 / 2 + 1) (m * 2 ^ k) 0 != m * 2 ^ k) := by
    rw [hk, Fmt.sqrt, if_neg hm]
    rfl
  rw [hsqrt]
  generalize isqrt ((m * 2 ^ k).log2 / 2 + 1) (m * 2 ^ k) 0 = r at hspec ⊢
  obtain ⟨hlo, hhi⟩ := hspec
  obtain ⟨hexact, hsticky⟩ := root_represents hlo hhi
  have key := f.roundsReal_of_mantissa rm false ((e - k) / 2) (root_digits f hm (hk ▸ hhi)) hexact hsticky
  have hroot : √(((m : ℚ) * 2 ^ e : ℚ) : ℝ) = √((m * 2 ^ k : Nat) : ℝ) * 2 ^ ((e - k) / 2) := by
    have hdiv : (e - k) / 2 = j := by omega
    have hscale : ((((m : ℚ) * 2 ^ e : ℚ)) : ℝ) = ((m * 2 ^ k : Nat) : ℝ) * (2 ^ j) ^ 2 := by
      have he : e = k + j * 2 := by omega
      rw [← zpow_natCast, ← zpow_mul]
      push_cast
      rw [mul_assoc, ← zpow_natCast, ← zpow_add₀ (by norm_num), ← he]
    rw [hdiv, hscale, Real.sqrt_mul (Nat.cast_nonneg _), Real.sqrt_sq (by positivity)]
  rw [hroot]
  simpa using key

/-! ### Rounding to an integer -/

theorem RoundingMode.integral_intCast (rm : RoundingMode) (n : Int) : rm.integral n = n := by
  cases rm <;> simp [RoundingMode.integral]

/-- A magnitude between two integers. -/
theorem RoundingMode.integral_between {n : Nat} {t : ℚ} (hlo : (n : ℚ) < t) (hhi : t < n + 1) (rm : RoundingMode) :
    rm.integral t = rm.mag false t := by
  have ht : 0 < t := lt_of_le_of_lt (Nat.cast_nonneg _) hlo
  have hfl : ⌊t⌋₊ = n := (Nat.floor_eq_iff ht.le).mpr ⟨hlo.le, hhi⟩
  have hfloor : ⌊t⌋ = (n : Int) := Int.floor_eq_iff.mpr ⟨by push_cast; exact hlo.le, by push_cast; exact hhi⟩
  have hceil : ⌈t⌉ = (n : Int) + 1 := Int.ceil_eq_iff.mpr ⟨by push_cast; linarith, by push_cast; exact hhi.le⟩
  cases rm with
  | rtz =>
    rw [mag_down (.inl rfl), hfl, RoundingMode.integral]
    simp only [ht.not_gt, if_false]
    exact hfloor
  | rdn => rw [mag_down (.inr (.inl ⟨rfl, rfl⟩)), hfl]; exact hfloor
  | rup => rw [mag_up (.inr ⟨rfl, rfl⟩), hfl, if_neg hlo.ne']; exact hceil
  | rne =>
    rw [mag_nearest (.inl rfl), hfl, RoundingMode.integral]
    simp only [hfloor, Int.cast_natCast, reduceCtorEq, false_or]
    rcases lt_trichotomy (t - n) (1 / 2) with h | h | h
    · rw [if_pos h, if_neg (by rintro (k | ⟨k, -⟩) <;> linarith)]
    · simp only [h, lt_irrefl, if_false, false_or, true_and]
      split <;> split <;> omega
    · rw [if_neg h.not_gt, if_pos h, if_pos (.inl h)]; rfl
  | rmm =>
    rw [mag_nearest (.inr rfl), hfl, RoundingMode.integral]
    simp only [hfloor, Int.cast_natCast, true_or, and_true, ht.not_gt, if_false]
    rcases lt_trichotomy (t - n) (1 / 2) with h | h | h
    · rw [if_pos h, if_neg (by rintro (k | k) <;> linarith)]
    · rw [if_neg h.ge.not_gt, if_neg h.le.not_gt, if_pos (.inr h)]; rfl
    · rw [if_neg h.not_gt, if_pos h, if_pos (.inl h)]; rfl

/-- A negative number between two integers: the integer below is the one farther from zero. -/
theorem RoundingMode.integral_neg_between {n : Nat} {t : ℚ} (hlo : (n : ℚ) < t) (hhi : t < n + 1) (rm : RoundingMode) :
    rm.integral (-t) = -(rm.mag true t : Int) := by
  have ht : 0 < t := lt_of_le_of_lt (Nat.cast_nonneg _) hlo
  have hfl : ⌊t⌋₊ = n := (Nat.floor_eq_iff ht.le).mpr ⟨hlo.le, hhi⟩
  have hfloor : ⌊-t⌋ = -((n : Int) + 1) := Int.floor_eq_iff.mpr ⟨by push_cast; linarith, by push_cast; linarith⟩
  have hceil : ⌈-t⌉ = -(n : Int) := Int.ceil_eq_iff.mpr ⟨by push_cast; linarith, by push_cast; linarith⟩
  have hpart : -t - ((-((n : Int) + 1) : Int) : ℚ) = 1 - (t - n) := by push_cast; ring
  have hneg : -t < 0 := neg_lt_zero.mpr ht
  cases rm with
  | rtz =>
    rw [mag_down (.inl rfl), hfl, RoundingMode.integral]
    simp only [hneg, if_true]
    exact hceil
  | rdn => rw [mag_up (.inl ⟨rfl, rfl⟩), hfl, if_neg hlo.ne']; exact hfloor
  | rup => rw [mag_down (.inr (.inr ⟨rfl, rfl⟩)), hfl]; exact hceil
  | rne =>
    rw [mag_nearest (.inl rfl), hfl, RoundingMode.integral]
    simp only [hfloor, hpart, reduceCtorEq, false_or]
    rcases lt_trichotomy (t - n) (1 / 2) with h | h | h
    · rw [if_neg (by linarith), if_pos (by linarith), if_neg (by rintro (k | ⟨k, -⟩) <;> linarith)]; omega
    · rw [if_neg (by linarith), if_neg (by linarith)]
      simp only [h, lt_irrefl, false_or, true_and]
      split <;> split <;> omega
    · rw [if_pos (by linarith), if_pos (.inl h)]; rfl
  | rmm =>
    rw [mag_nearest (.inr rfl), hfl, RoundingMode.integral]
    simp only [hfloor, hpart, true_or, and_true, hneg, if_true]
    rcases lt_trichotomy (t - n) (1 / 2) with h | h | h
    · rw [if_neg (by linarith), if_pos (by linarith), if_neg (by rintro (k | k) <;> linarith)]; omega
    · rw [if_neg (by linarith), if_neg (by linarith), if_pos (.inr h)]; rfl
    · rw [if_pos (by linarith), if_pos (.inl h)]; rfl

/-- Rounding a signed magnitude to an integer is rounding the magnitude. -/
theorem RoundingMode.integral_signed (rm : RoundingMode) (neg : Bool) {t : ℚ} (h0 : 0 ≤ t) :
    rm.integral (signed neg t) = signedMant neg (rm.mag neg t) := by
  by_cases hint : t = ⌊t⌋₊
  · generalize ⌊t⌋₊ = n at hint
    subst hint
    have hs : signed neg (n : ℚ) = ((signedMant neg n : Int) : ℚ) := by
      cases neg <;> simp [signed, signedMant]
    rw [hs, integral_intCast, rm.mag_natCast]
  · have hlo : (⌊t⌋₊ : ℚ) < t := lt_of_le_of_ne (Nat.floor_le h0) (fun e => hint e.symm)
    cases neg with
    | false => exact rm.integral_between hlo (Nat.lt_floor_add_one t)
    | true => exact rm.integral_neg_between hlo (Nat.lt_floor_add_one t)

/-- Rounding a finite datum to an integer: the integer, and whether it is another value. -/
theorem roundToInt_eq (rm : RoundingMode) (neg : Bool) (m : Nat) (e : Int) {x : ℚ}
    (hx : x = (signedMant neg m : ℚ) * 2 ^ e) :
    roundToInt rm neg m e = (rm.integral x, decide ((rm.integral x : ℚ) ≠ x)) := by
  have h0 : (0 : ℚ) ≤ m * 2 ^ e := by positivity
  have hto := roundTo_eq rm neg (m := m) (e := e) (place := 0) (sticky := false) (x := m * 2 ^ e)
    (mul_div_cancel_right₀ _ (two_zpow_pos e).ne') nofun
  rw [zpow_zero, div_one] at hto
  rw [roundToInt, hto, hx, signedMant_zpow, rm.integral_signed neg h0]
  refine Prod.ext rfl ?_
  have hinj : ((signedMant neg (rm.mag neg (m * 2 ^ e)) : Int) : ℚ) = signed neg (m * 2 ^ e) ↔
      (rm.mag neg (m * 2 ^ e) : ℚ) = m * 2 ^ e := by
    cases neg <;> simp [signedMant, signed]
  simp only [ne_eq, hinj, RoundingMode.mag_eq_iff_exact]

/-! ### Rounding to an integer in the same format -/

/-- A magnitude that a datum can hold is rounded to itself. -/
theorem Fmt.round_value_of_holds (f : Fmt) (neg : Bool) {m : Nat} {e : Int} (hm : m ≠ 0) (h : f.Holds (m * 2 ^ e)) :
    (f.decode (f.round .rtz neg m e false).1).value = some (signed neg (m * 2 ^ e)) ∧
      f.signField (f.round .rtz neg m e false).1 = neg := by
  have hpos : (0 : ℚ) < m * 2 ^ e := mul_pos (by exact_mod_cast Nat.pos_of_ne_zero hm) (two_zpow_pos e)
  have hno : ¬f.Overflows .rtz neg (m * 2 ^ e) := by
    intro ho
    have htop := h.le_top
    rw [abs_of_pos hpos] at htop
    exact (Fmt.top_lt_of_overflows ho).not_ge htop
  rw [f.round_exact .rtz neg e hm]
  refine ⟨?_, f.signField_roundQ .rtz neg hpos⟩
  obtain ⟨q, hq, -⟩ := f.roundQ_flags hpos hno
  obtain ⟨p, -, rfl, hdown, -⟩ := f.roundQ_value hpos hq
  obtain ⟨hle, hmax⟩ := hdown (.inl rfl)
  rw [hq, le_antisymm hle (hmax _ h le_rfl)]

/-- The integer nearest to what a datum holds can be held: below 2^manBits every integer can, above every datum is one. -/
theorem Fmt.Holds.mag {f : Fmt} {x : ℚ} (h : f.Holds x) (h0 : 0 ≤ x) (rm : RoundingMode) (neg : Bool) :
    f.Holds (rm.mag neg x) := by
  have hheld := h
  obtain ⟨z, e, rfl, hz, hemin, he⟩ := h
  rcases le_or_gt 0 e with hpos | hneg
  · have hnat : ((z * 2 ^ e.toNat : Int).toNat : ℚ) = z * 2 ^ e := by
      have hcast : (((z * 2 ^ e.toNat : Int)) : ℚ) = z * 2 ^ e := by
        push_cast
        rw [← zpow_natCast, Int.toNat_of_nonneg hpos]
      have hnonneg : 0 ≤ z * 2 ^ e.toNat := by exact_mod_cast hcast ▸ h0
      rw [← hcast, ← Int.cast_natCast, Int.toNat_of_nonneg hnonneg]
    rw [← hnat, RoundingMode.mag_natCast, hnat]
    exact hheld
  · have hle : rm.mag neg (z * 2 ^ e) ≤ 2 ^ f.manBits := by
      refine rm.mag_le_of_le neg h0 ?_
      have hz' : ((|z| : Int) : ℚ) ≤ 2 ^ (f.manBits + 1) := by exact_mod_cast hz.le
      calc (z : ℚ) * 2 ^ e ≤ ((|z| : Int) : ℚ) * 2 ^ e :=
            mul_le_mul_of_nonneg_right (by exact_mod_cast le_abs_self z) (two_zpow_pos e).le
        _ ≤ 2 ^ (f.manBits + 1) * 2 ^ (-1 : Int) :=
            mul_le_mul hz' (two_zpow_le (by omega)) (two_zpow_pos e).le (by positivity)
        _ = ((2 ^ f.manBits : Nat) : ℚ) := by push_cast; rw [pow_succ, zpow_neg_one, mul_assoc, mul_inv_cancel₀ (by norm_num), mul_one]
    have hbias := f.manBits_lt_bias
    refine ⟨(rm.mag neg (z * 2 ^ e) : Nat), 0, by simp, ?_, by unfold Fmt.emin; omega, by omega⟩
    rw [abs_of_nonneg (Int.natCast_nonneg _)]
    have hlt : 2 ^ f.manBits < 2 ^ (f.manBits + 1) := Nat.pow_lt_pow_right (by decide) (by omega)
    exact_mod_cast hle.trans_lt hlt

/-- An integer that a datum can hold is delivered as it is, a zero with its sign. -/
theorem Fmt.round_integer (f : Fmt) (neg : Bool) {n : Nat} (h : f.Holds n) :
    (f.decode (f.round .rtz neg n 0 false).1).value = some ((signedMant neg n : Int) : ℚ) ∧
      f.signField (f.round .rtz neg n 0 false).1 = neg := by
  by_cases hn : n = 0
  · subst hn
    rw [Fmt.round, if_pos rfl]
    refine ⟨?_, f.signField_pack neg (Nat.two_pow_pos _) (Nat.two_pow_pos _)⟩
    rw [f.decode_zero, Fp.value_fin, (signedMant_eq_zero_iff neg 0).mpr rfl, Int.cast_zero, zero_mul]
  · have hval : (n : ℚ) * 2 ^ (0 : Int) = n := by rw [zpow_zero, mul_one]
    have hround := f.round_value_of_holds neg (e := 0) hn (by rwa [hval])
    rwa [← signedMant_zpow, zpow_zero, mul_one] at hround

theorem Fmt.roundToIntegral_eq (f : Fmt) (exact : Bool) (rm : RoundingMode) (v : BitVec f.width) {x : ℚ}
    (h : (f.decode v).value = some x) :
    let r := f.roundToIntegral exact rm v
    (f.decode r.1).value = some (rm.integral x : ℚ) ∧ f.signField r.1 = f.signField v ∧
      r.2 = if exact = true ∧ (rm.integral x : ℚ) ≠ x then flagNX else 0 := by
  intro r
  obtain ⟨neg, m, e, hd, hx⟩ := Fp.value_eq_some h
  have hsign : f.signField v = neg := by
    rcases f.decode_cases v with ⟨-, -, hv⟩ | ⟨-, -, hv⟩ | ⟨-, hv⟩ | ⟨-, -, hv⟩ <;> rw [hd] at hv <;> cases hv <;> rfl
  have h0 : (0 : ℚ) ≤ m * 2 ^ e := by positivity
  have hint := roundToInt_eq rm neg m e hx
  have hr : r = ((f.round .rtz neg (roundTo rm neg m e 0 false).1 0 false).1,
      flagIf (exact && (roundTo rm neg m e 0 false).2) flagNX) := by
    show f.roundToIntegral exact rm v = _
    rw [Fmt.roundToIntegral, hd]
  rw [roundToInt] at hint
  obtain ⟨hfst, hsnd⟩ := Prod.mk.injEq .. ▸ hint
  have hmag : (roundTo rm neg m e 0 false).1 = rm.mag neg (m * 2 ^ e) := by
    have hto := roundTo_eq rm neg (m := m) (e := e) (place := 0) (sticky := false) (x := m * 2 ^ e)
      (mul_div_cancel_right₀ _ (two_zpow_pos e).ne') nofun
    rw [zpow_zero, div_one] at hto
    rw [hto]
  have hholds : f.Holds ((roundTo rm neg m e 0 false).1 : ℚ) := by
    rw [hmag]
    refine Fmt.Holds.mag ?_ h0 rm neg
    have := (Fmt.holds_of_decode h).abs
    rwa [hx, signedMant_zpow, abs_signed neg h0] at this
  rw [hr, hsign, hsnd, ← hfst]
  obtain ⟨hvalue, hsignField⟩ := f.round_integer neg hholds
  exact ⟨hvalue, hsignField, flagIf_eq (by rw [Bool.and_eq_true, decide_eq_true_eq]) _⟩

end Sys2Proof.Machine
end

section
/-! PROOFS. The arithmetic operations on all data: finite ones, infinities and NaNs (45_f.md R432, R438, R447 to R460). -/

namespace Sys2Proof.Machine

/-! ### Finite operands -/

theorem Fmt.add_rounds (f : Fmt) (rm : RoundingMode) (na nb : Bool) (ma mb : Nat) (ea eb : Int) {x y : ℚ}
    (hx : x = (signedMant na ma : ℚ) * 2 ^ ea) (hy : y = (signedMant nb mb : ℚ) * 2 ^ eb) :
    if x + y = 0 then f.add rm (.fin na ma ea) (.fin nb mb eb) = (f.zero (if na = nb then na else rm == .rdn), 0)
    else f.RoundsReal rm ((x + y : ℚ) : ℝ) (f.add rm (.fin na ma ea) (.fin nb mb eb)) :=
  f.roundSum_rounds rm na ma ea nb mb eb (by rw [hx, hy])

theorem value_mul (na nb : Bool) (ma mb : Nat) (ea eb : Int) {x y : ℚ}
    (hx : x = (signedMant na ma : ℚ) * 2 ^ ea) (hy : y = (signedMant nb mb : ℚ) * 2 ^ eb) :
    x * y = (signedMant (na != nb) (ma * mb) : ℚ) * 2 ^ (ea + eb) := by
  rw [signedMant_mul, hx, hy, zpow_add₀ (by norm_num)]
  push_cast
  ring

theorem Fmt.div_cases (f : Fmt) (rm : RoundingMode) (na nb : Bool) (ma mb : Nat) (ea eb : Int) {x y : ℚ}
    (hx : x = (signedMant na ma : ℚ) * 2 ^ ea) (hy : y = (signedMant nb mb : ℚ) * 2 ^ eb) :
    if y = 0 then f.div rm (.fin na ma ea) (.fin nb mb eb) =
        (if x = 0 then (f.canonicalNaN, flagNV) else (f.inf (na != nb), flagDZ))
      else if x = 0 then f.div rm (.fin na ma ea) (.fin nb mb eb) = (f.zero (na != nb), 0)
      else f.RoundsReal rm ((x / y : ℚ) : ℝ) (f.div rm (.fin na ma ea) (.fin nb mb eb)) := by
  have hx0 : x = 0 ↔ ma = 0 := by rw [hx, value_eq_zero_iff]
  have hy0 : y = 0 ↔ mb = 0 := by rw [hy, value_eq_zero_iff]
  simp only [hx0, hy0]
  by_cases hb : mb = 0
  · rw [if_pos hb, Fmt.div, if_pos hb]
    rfl
  · rw [if_neg hb]
    by_cases ha : ma = 0
    · rw [if_pos ha, Fmt.div, if_neg hb]
      dsimp only
      rw [ha, Nat.zero_mul, Nat.zero_div, Fmt.round, if_pos rfl]
    · rw [if_neg ha, hx, hy]
      exact f.div_rounds rm na nb ea eb ha hb

theorem Fmt.sqrt_cases (f : Fmt) (rm : RoundingMode) (na : Bool) (ma : Nat) (ea : Int) {x : ℚ}
    (hx : x = (signedMant na ma : ℚ) * 2 ^ ea) :
    if x = 0 then f.sqrt rm (.fin na ma ea) = (f.zero na, 0)
      else if x < 0 then f.sqrt rm (.fin na ma ea) = (f.canonicalNaN, flagNV)
      else f.RoundsReal rm (Real.sqrt (x : ℝ)) (f.sqrt rm (.fin na ma ea)) := by
  have hx0 : x = 0 ↔ ma = 0 := by rw [hx, value_eq_zero_iff]
  simp only [hx0]
  by_cases ha : ma = 0
  · rw [if_pos ha, Fmt.sqrt, if_pos ha]
  · rw [if_neg ha]
    have hpos : (0 : ℚ) < ma * 2 ^ ea := mul_pos (by exact_mod_cast Nat.pos_of_ne_zero ha) (two_zpow_pos ea)
    cases na with
    | true =>
      have hneg : x < 0 := by rw [hx, signedMant_zpow]; exact neg_lt_zero.mpr hpos
      rw [if_pos hneg, Fmt.sqrt, if_neg ha]
      rfl
    | false =>
      have hval : x = ma * 2 ^ ea := by rw [hx, signedMant_zpow]; rfl
      rw [if_neg (by rw [hval]; exact hpos.le.not_gt), hval]
      exact f.sqrt_rounds rm ea ha

/-! ### Conversions to integers -/

theorem Fp.toInt_finite (rm : RoundingMode) (lo hi : Int) {a : Fp} {x : ℚ} (h : a.value = some x) :
    a.toInt rm lo hi = (if rm.integral x < lo then (lo, flagNV) else if hi < rm.integral x then (hi, flagNV)
      else (rm.integral x, if (rm.integral x : ℚ) = x then 0 else flagNX)) := by
  obtain ⟨neg, m, e, rfl, hx⟩ := Fp.value_eq_some h
  have hflag : flagIf (decide ((rm.integral x : ℚ) ≠ x)) flagNX = if (rm.integral x : ℚ) = x then 0 else flagNX := by
    rw [flagIf_eq decide_eq_true_iff, ite_not]
  rw [Fp.toInt, roundToInt_eq rm neg m e hx]
  simp only [hflag]

theorem Fp.toInt32Mod_finite {a : Fp} {x : ℚ} (h : a.value = some x) :
    a.toInt32Mod = (BitVec.ofInt 32 (RoundingMode.integral .rtz x), (a.toInt .rtz (-2 ^ 31) (2 ^ 31 - 1)).2) := by
  rw [Fp.toInt_finite .rtz (-2 ^ 31) (2 ^ 31 - 1) h]
  obtain ⟨neg, m, e, rfl, hx⟩ := Fp.value_eq_some h
  have hflag : flagIf (decide ((RoundingMode.integral .rtz x : ℚ) ≠ x)) flagNX =
      if (RoundingMode.integral .rtz x : ℚ) = x then 0 else flagNX := by
    rw [flagIf_eq decide_eq_true_iff, ite_not]
  rw [Fp.toInt32Mod, roundToInt_eq .rtz neg m e hx]
  simp only [hflag, Prod.mk.injEq, true_and, Bool.or_eq_true, decide_eq_true_eq]
  by_cases hlo : RoundingMode.integral .rtz x < -2 ^ 31
  · rw [if_pos (.inl hlo), if_pos hlo]
  · rw [if_neg hlo]
    by_cases hhi : 2 ^ 31 - 1 < RoundingMode.integral .rtz x
    · rw [if_pos (.inr hhi), if_pos hhi]
    · rw [if_neg (not_or.mpr ⟨hlo, hhi⟩), if_neg hhi]

/-! ### NaNs -/

theorem Fmt.nanResult_eq (f : Fmt) {b : Bool} {p : Prop} [Decidable p] (h : b = true ↔ p) :
    f.nanResult b = (f.canonicalNaN, if p then flagNV else 0) := by
  rw [Fmt.nanResult, flagIf_eq h]

/-- Of two operands one of which is a NaN, whether one is signaling. -/
theorem Fmt.nanResult_two (f : Fmt) (a b : Fp) :
    f.nanResult (a.isSNaN || b.isSNaN) = (f.canonicalNaN, if a = .nan true ∨ b = .nan true then flagNV else 0) :=
  f.nanResult_eq (by rw [Bool.or_eq_true, Fp.isSNaN_iff, Fp.isSNaN_iff])

theorem Fmt.nanResult_three (f : Fmt) (a b c : Fp) :
    f.nanResult (a.isSNaN || b.isSNaN || c.isSNaN) =
      (f.canonicalNaN, if a = .nan true ∨ b = .nan true ∨ c = .nan true then flagNV else 0) :=
  f.nanResult_eq (by rw [Bool.or_eq_true, Bool.or_eq_true, Fp.isSNaN_iff, Fp.isSNaN_iff, Fp.isSNaN_iff, or_assoc])

theorem Fp.negate_eq_nan {a : Fp} {q : Bool} : a.negate = .nan q ↔ a = .nan q := by
  cases a <;> simp [Fp.negate]

theorem Fp.isNaN_negate (a : Fp) : a.negate.isNaN = a.isNaN := by cases a <;> rfl

/-- An operation of two operands gives the NaN result where one of them is a NaN. -/
theorem Fmt.nan_operands (f : Fmt) (rm : RoundingMode) {a b : Fp} (h : a.isNaN = true ∨ b.isNaN = true) :
    f.add rm a b = f.nanResult (a.isSNaN || b.isSNaN) ∧ f.mul rm a b = f.nanResult (a.isSNaN || b.isSNaN) ∧
      f.div rm a b = f.nanResult (a.isSNaN || b.isSNaN) := by
  cases a with
  | nan _ => exact ⟨rfl, rfl, rfl⟩
  | inf _ => cases b with
    | nan _ => exact ⟨rfl, rfl, rfl⟩
    | inf _ => rcases h with h | h <;> cases h
    | fin _ _ _ => rcases h with h | h <;> cases h
  | fin _ _ _ => cases b with
    | nan _ => exact ⟨rfl, rfl, rfl⟩
    | inf _ => rcases h with h | h <;> cases h
    | fin _ _ _ => rcases h with h | h <;> cases h

/-! ### Fused operations -/

/-- One factor is zero and the other infinite. -/
def Fp.ZeroTimesInf (a b : Fp) : Prop :=
  (a.value = some 0 ∧ ∃ neg, b = .inf neg) ∨ (b.value = some 0 ∧ ∃ neg, a = .inf neg)

theorem Fp.value_fin_zero (neg : Bool) (m : Nat) (e : Int) : (Fp.fin neg m e).value = some 0 ↔ m = 0 := by
  rw [Fp.value_fin, Option.some.injEq, value_eq_zero_iff]

theorem Fmt.fma_zeroTimesInf (f : Fmt) (rm : RoundingMode) {a b : Fp} (c : Fp) (h : a.ZeroTimesInf b) :
    f.fma rm a b c = f.invalid := by
  rcases h with ⟨h, nb, rfl⟩ | ⟨h, na, rfl⟩
  · obtain ⟨na, ma, ea, rfl, -⟩ := Fp.value_eq_some h
    exact if_pos ((Fp.value_fin_zero na ma ea).mp h)
  · obtain ⟨nb, mb, eb, rfl, -⟩ := Fp.value_eq_some h
    exact if_pos ((Fp.value_fin_zero nb mb eb).mp h)

/-- An infinite product is added to the addend. -/
theorem Fmt.fma_inf (f : Fmt) (rm : RoundingMode) {a b : Fp} (c : Fp) (ha : a.isNaN = false) (hb : b.isNaN = false)
    (hz : ¬a.ZeroTimesInf b) (h : (∃ neg, a = .inf neg) ∨ ∃ neg, b = .inf neg) :
    f.fma rm a b c = f.addInf (a.isNeg != b.isNeg) c := by
  cases a with
  | nan _ => cases ha
  | inf na => cases b with
    | nan _ => cases hb
    | inf nb => rfl
    | fin nb mb eb => exact if_neg fun hm => hz (.inr ⟨(Fp.value_fin_zero nb mb eb).mpr hm, na, rfl⟩)
  | fin na ma ea => cases b with
    | nan _ => cases hb
    | inf nb => exact if_neg fun hm => hz (.inl ⟨(Fp.value_fin_zero na ma ea).mpr hm, nb, rfl⟩)
    | fin nb mb eb => rcases h with ⟨_, h⟩ | ⟨_, h⟩ <;> cases h

theorem Fmt.fma_nan (f : Fmt) (rm : RoundingMode) {a b c : Fp} (h : a.isNaN = true ∨ b.isNaN = true ∨ c.isNaN = true)
    (hz : ¬a.ZeroTimesInf b) : f.fma rm a b c = f.nanResult (a.isSNaN || b.isSNaN || c.isSNaN) := by
  cases ha : a.isNaN with
  | true =>
    obtain ⟨q, rfl⟩ := (Fp.isNaN_iff a).mp ha
    rfl
  | false => cases hb : b.isNaN with
    | true =>
      obtain ⟨q, rfl⟩ := (Fp.isNaN_iff b).mp hb
      cases a with
      | nan _ => rfl
      | inf _ => rfl
      | fin _ _ _ => rfl
    | false =>
      rw [ha, hb] at h
      obtain ⟨q, rfl⟩ := (Fp.isNaN_iff c).mp (h.resolve_left nofun |>.resolve_left nofun)
      have hquiet : ∀ {d : Fp}, d.isNaN = false → d.isSNaN = false := fun {d} hd => by
        cases d with
        | nan _ => cases hd
        | inf _ => rfl
        | fin _ _ _ => rfl
      rw [hquiet ha, hquiet hb]
      by_cases hinf : (∃ neg, a = .inf neg) ∨ ∃ neg, b = .inf neg
      · exact f.fma_inf rm _ ha hb hz hinf
      · rw [not_or] at hinf
        cases a with
        | nan _ => cases ha
        | inf na => exact absurd ⟨na, rfl⟩ hinf.1
        | fin _ _ _ => cases b with
          | nan _ => cases hb
          | inf nb => exact absurd ⟨nb, rfl⟩ hinf.2
          | fin _ _ _ => rfl

theorem Fmt.addInf_eq (f : Fmt) (neg : Bool) {c : Fp} (hc : c.isNaN = false) :
    f.addInf neg c = if c = .inf (!neg) then f.invalid else (f.inf neg, 0) := by
  cases c with
  | nan _ => cases hc
  | inf nc => cases neg <;> cases nc <;> simp [Fmt.addInf]
  | fin _ _ _ => simp [Fmt.addInf]

/-! ### Results that are no NaN -/

theorem Fmt.isNaN_inf (f : Fmt) (neg : Bool) : (f.decode (f.inf neg)).isNaN = false := by rw [f.decode_inf]; rfl

theorem Fmt.isNaN_zero (f : Fmt) (neg : Bool) : (f.decode (f.zero neg)).isNaN = false := by rw [f.decode_zero]; rfl

theorem Fmt.isNaN_roundQ (f : Fmt) (rm : RoundingMode) (neg : Bool) {x : ℚ} (hx : 0 < x) :
    (f.decode (f.roundQ rm neg x).1).isNaN = false := by
  by_cases ho : f.Overflows rm neg x
  · rw [f.roundQ_of_overflows rm neg hx ho]
    by_cases hd : rm.Down neg
    · rw [(f.overflow_eq rm neg).1 hd]
      exact Fp.isNaN_of_value (f.decode_maxFinite neg)
    · rw [(f.overflow_eq rm neg).2 hd, f.isNaN_inf]
  · exact Fp.isNaN_of_value (f.roundQ_of_not_overflows rm neg hx ho).1.value

/-- Rounding gives no NaN; a sticky mantissa must have more digits than the format keeps. -/
theorem Fmt.isNaN_round (f : Fmt) (rm : RoundingMode) (neg : Bool) (m : Nat) (e : Int) {sticky : Bool}
    (hs : sticky = true → 2 ^ (f.manBits + 1) ≤ m) : (f.decode (f.round rm neg m e sticky).1).isNaN = false := by
  by_cases hm : m = 0
  · rw [Fmt.round, if_pos hm, f.isNaN_zero]
  · obtain ⟨t, ht, hrep⟩ : ∃ t : ℚ, 0 < t ∧ Represents m sticky t := by
      have hm' : (0 : ℚ) < m := by exact_mod_cast Nat.pos_of_ne_zero hm
      cases sticky
      · exact ⟨m, hm', rfl⟩
      · exact ⟨m + 1 / 2, by linarith, by linarith, by linarith⟩
    have he := two_zpow_pos e
    rw [f.round_eq rm neg (x := t * 2 ^ e) hm (by rwa [mul_div_cancel_right₀ _ he.ne']) hs]
    exact f.isNaN_roundQ rm neg (mul_pos ht he)

theorem Fmt.isNaN_roundSum (f : Fmt) (rm : RoundingMode) (na : Bool) (ma : Nat) (ea : Int) (nb : Bool) (mb : Nat)
    (eb : Int) : (f.decode (f.roundSum rm na ma ea nb mb eb).1).isNaN = false := by
  unfold Fmt.roundSum
  dsimp only
  split
  · exact f.isNaN_zero _
  · exact f.isNaN_round rm _ _ _ nofun

/-- The result is no NaN or the canonical one. -/
def Fmt.CanonicalNaN (f : Fmt) (r : BitVec f.width × FpFlags) : Prop :=
  (f.decode r.1).isNaN = true → r.1 = f.canonicalNaN

section
variable {f : Fmt}

theorem Fmt.CanonicalNaN.of_not {r : BitVec f.width × FpFlags} (h : (f.decode r.1).isNaN = false) : f.CanonicalNaN r :=
  fun k => absurd k (by rw [h]; exact Bool.false_ne_true)

theorem Fmt.canonicalNaN_canonical (fl : FpFlags) : f.CanonicalNaN (f.canonicalNaN, fl) := fun _ => rfl

theorem Fmt.canonicalNaN_inf (neg : Bool) (fl : FpFlags) : f.CanonicalNaN (f.inf neg, fl) := .of_not (f.isNaN_inf neg)

theorem Fmt.canonicalNaN_ite {p : Prop} [Decidable p] {r r' : BitVec f.width × FpFlags} (h : f.CanonicalNaN r)
    (h' : f.CanonicalNaN r') : f.CanonicalNaN (if p then r else r') := by
  split
  · exact h
  · exact h'

theorem Fmt.canonicalNaN_add (rm : RoundingMode) (a b : Fp) : f.CanonicalNaN (f.add rm a b) := by
  by_cases h : a.isNaN = true ∨ b.isNaN = true
  · rw [(f.nan_operands rm h).1]
    exact canonicalNaN_canonical _
  cases a with
  | nan _ => exact absurd (.inl rfl) h
  | inf _ => cases b with
    | nan _ => exact absurd (.inr rfl) h
    | inf _ => exact canonicalNaN_ite (canonicalNaN_inf _ _) (canonicalNaN_canonical _)
    | fin _ _ _ => exact canonicalNaN_inf _ _
  | fin _ _ _ => cases b with
    | nan _ => exact absurd (.inr rfl) h
    | inf _ => exact canonicalNaN_inf _ _
    | fin _ _ _ => exact .of_not (f.isNaN_roundSum rm _ _ _ _ _ _)

theorem Fmt.canonicalNaN_mul (rm : RoundingMode) (a b : Fp) : f.CanonicalNaN (f.mul rm a b) := by
  by_cases h : a.isNaN = true ∨ b.isNaN = true
  · rw [(f.nan_operands rm h).2.1]
    exact canonicalNaN_canonical _
  cases a with
  | nan _ => exact absurd (.inl rfl) h
  | inf _ => cases b with
    | nan _ => exact absurd (.inr rfl) h
    | inf _ => exact canonicalNaN_inf _ _
    | fin _ _ _ => exact canonicalNaN_ite (canonicalNaN_canonical _) (canonicalNaN_inf _ _)
  | fin _ _ _ => cases b with
    | nan _ => exact absurd (.inr rfl) h
    | inf _ => exact canonicalNaN_ite (canonicalNaN_canonical _) (canonicalNaN_inf _ _)
    | fin _ _ _ => exact .of_not (f.isNaN_round rm _ _ _ nofun)

theorem Fmt.canonicalNaN_div (rm : RoundingMode) (a b : Fp) : f.CanonicalNaN (f.div rm a b) := by
  by_cases h : a.isNaN = true ∨ b.isNaN = true
  · rw [(f.nan_operands rm h).2.2]
    exact canonicalNaN_canonical _
  cases a with
  | nan _ => exact absurd (.inl rfl) h
  | inf _ => cases b with
    | nan _ => exact absurd (.inr rfl) h
    | inf _ => exact canonicalNaN_canonical _
    | fin _ _ _ => exact canonicalNaN_inf _ _
  | fin na ma ea => cases b with
    | nan _ => exact absurd (.inr rfl) h
    | inf _ => exact .of_not (f.isNaN_zero _)
    | fin nb mb eb =>
      rw [Fmt.div]
      by_cases hb : mb = 0
      · rw [if_pos hb]
        exact canonicalNaN_ite (canonicalNaN_canonical _) (canonicalNaN_inf _ _)
      · rw [if_neg hb]
        refine .of_not (f.isNaN_round rm _ _ _ fun hst => quotient_digits f ?_ hb)
        rintro rfl
        simp at hst

theorem Fmt.canonicalNaN_sqrt (rm : RoundingMode) (a : Fp) : f.CanonicalNaN (f.sqrt rm a) := by
  cases a with
  | nan _ => exact canonicalNaN_canonical _
  | inf _ => exact canonicalNaN_ite (canonicalNaN_canonical _) (canonicalNaN_inf _ _)
  | fin neg m e =>
    rw [Fmt.sqrt]
    by_cases hm : m = 0
    · rw [if_pos hm]
      exact .of_not (f.isNaN_zero _)
    · rw [if_neg hm]
      refine canonicalNaN_ite (canonicalNaN_canonical _) (.of_not (f.isNaN_round rm _ _ _ fun _ => ?_))
      exact root_digits f hm (isqrt_self_spec _).2

theorem Fmt.canonicalNaN_addInf (neg : Bool) (c : Fp) : f.CanonicalNaN (f.addInf neg c) := by
  cases c with
  | nan _ => exact canonicalNaN_canonical _
  | inf _ => exact canonicalNaN_ite (canonicalNaN_inf _ _) (canonicalNaN_canonical _)
  | fin _ _ _ => exact canonicalNaN_inf _ _

theorem Fmt.canonicalNaN_fma (rm : RoundingMode) (a b c : Fp) : f.CanonicalNaN (f.fma rm a b c) := by
  by_cases hz : a.ZeroTimesInf b
  · rw [f.fma_zeroTimesInf rm c hz]
    exact canonicalNaN_canonical _
  by_cases hn : a.isNaN = true ∨ b.isNaN = true ∨ c.isNaN = true
  · rw [f.fma_nan rm hn hz]
    exact canonicalNaN_canonical _
  simp only [not_or, Bool.not_eq_true] at hn
  obtain ⟨ha, hb, hc⟩ := hn
  by_cases hi : (∃ neg, a = .inf neg) ∨ ∃ neg, b = .inf neg
  · rw [f.fma_inf rm c ha hb hz hi]
    exact canonicalNaN_addInf _ _
  rw [not_or] at hi
  cases a with
  | nan _ => cases ha
  | inf na => exact absurd ⟨na, rfl⟩ hi.1
  | fin _ _ _ => cases b with
    | nan _ => cases hb
    | inf nb => exact absurd ⟨nb, rfl⟩ hi.2
    | fin _ _ _ => cases c with
      | nan _ => cases hc
      | inf _ => exact canonicalNaN_inf _ _
      | fin _ _ _ => exact .of_not (f.isNaN_roundSum rm _ _ _ _ _ _)

theorem Fmt.canonicalNaN_ofFp (rm : RoundingMode) (a : Fp) : f.CanonicalNaN (f.ofFp rm a) := by
  cases a with
  | nan _ => exact canonicalNaN_canonical _
  | inf _ => exact canonicalNaN_inf _ _
  | fin _ _ _ => exact .of_not (f.isNaN_round rm _ _ _ nofun)

theorem Fmt.canonicalNaN_roundToIntegral (exact : Bool) (rm : RoundingMode) (v : BitVec f.width) :
    f.CanonicalNaN (f.roundToIntegral exact rm v) := by
  cases hd : f.decode v with
  | nan _ =>
    rw [Fmt.roundToIntegral, hd]
    exact canonicalNaN_canonical _
  | inf _ =>
    have hr : f.roundToIntegral exact rm v = (v, 0) := by rw [Fmt.roundToIntegral, hd]
    refine .of_not ?_
    rw [hr]
    dsimp only
    rw [hd]
    rfl
  | fin neg m e => exact .of_not (Fp.isNaN_of_value (f.roundToIntegral_eq exact rm v (by rw [hd]; rfl)).1)

/-- A selection gives the canonical NaN, or an operand that is no NaN. -/
theorem Fmt.canonicalNaN_select (max : Bool) (u v : BitVec f.width) :
    f.CanonicalNaN (f.minNum max u v) ∧ f.CanonicalNaN (f.minimum max u v) := by
  unfold Fmt.minNum Fmt.minimum
  dsimp only
  cases hu : (f.decode u).isNaN <;> cases hv : (f.decode v).isNaN
  · have hsel : f.CanonicalNaN (if (f.decode u).minFirst (f.decode v) != max then u else v,
        flagIf ((f.decode u).isSNaN || (f.decode v).isSNaN) flagNV) := by
      refine .of_not ?_
      dsimp only
      split
      · exact hu
      · exact hv
    exact ⟨hsel, hsel⟩
  · exact ⟨.of_not hu, canonicalNaN_canonical _⟩
  · exact ⟨.of_not hv, canonicalNaN_canonical _⟩
  · exact ⟨canonicalNaN_canonical _, canonicalNaN_canonical _⟩

end

end Sys2Proof.Machine

namespace Sys2Proof.Proofs
open Sys2Proof Sys2Proof.Machine

/-- Settles O46: rounding gives no NaN, and what is not rounded is an infinity, a zero, the canonical NaN or an operand. -/
theorem nanResultsAreCanonical : Obligations.NanResultsAreCanonical := by
  refine ⟨rfl, rfl, rfl, rfl, fun f rm a b c u v n m e => ?_⟩
  obtain ⟨hmin, hmax⟩ := Fmt.canonicalNaN_select (f := f) m u v
  refine ⟨Fmt.canonicalNaN_add rm a b, Fmt.canonicalNaN_add rm a b.negate, Fmt.canonicalNaN_mul rm a b,
    Fmt.canonicalNaN_div rm a b, Fmt.canonicalNaN_sqrt rm a, Fmt.canonicalNaN_fma rm a b c, Fmt.canonicalNaN_ofFp rm a,
    Fmt.CanonicalNaN.of_not (f.isNaN_round rm _ _ _ nofun), Fmt.canonicalNaN_roundToIntegral e rm u, hmin, hmax, ?_⟩
  refine ⟨f.pack false (2 ^ f.expBits - 1) 1, ?_, ?_, ?_⟩ <;> cases f <;> decide

/-- Settles O60: the finite operations are exact before the rounding, the others by the kinds of their operands. -/
theorem arithmeticRoundsTheExactResult : Obligations.ArithmeticRoundsTheExactResult := by
  refine ⟨?finite, ?ofInt, ?toInt, fun f exact rm v x h => f.roundToIntegral_eq exact rm v h, ?nan, ?nanOne, ?fused, ?infinite⟩
  case finite =>
    intro f rm na nb nc ma mb mc ea eb ec x y z a b c hx hy hz
    have hx' : x = (signedMant na ma : ℚ) * 2 ^ ea := (Option.some.inj (Fp.value_fin na ma ea ▸ hx)).symm
    have hy' : y = (signedMant nb mb : ℚ) * 2 ^ eb := (Option.some.inj (Fp.value_fin nb mb eb ▸ hy)).symm
    have hz' : z = (signedMant nc mc : ℚ) * 2 ^ ec := (Option.some.inj (Fp.value_fin nc mc ec ▸ hz)).symm
    have hprod := value_mul na nb ma mb ea eb hx' hy'
    have hfused := f.roundSum_rounds rm (na != nb) (ma * mb) (ea + eb) nc mc ec (x := x * y + z) (by rw [hprod, hz'])
    have hsign : (if (na != nb) = nc then na != nb else rm == .rdn) = if (na != nb) = nc then nc else rm == .rdn :=
      ite_congr rfl id fun _ => rfl
    rw [hsign] at hfused
    refine ⟨f.add_rounds rm na nb ma mb ea eb hx' hy', ?_, f.round_rounds rm (na != nb) (ma * mb) (ea + eb) hprod,
      hfused,
      f.div_cases rm na nb ma mb ea eb hx' hy', f.sqrt_cases rm na ma ea hx', f.round_rounds rm na ma ea hx'⟩
    rw [sub_eq_add_neg]
    exact f.add_rounds rm na (!nb) ma mb ea eb hx' (by rw [signedMant_not, hy']; push_cast; ring)
  case ofInt =>
    intro f rm n
    have hround := f.round_rounds rm (decide (n < 0)) n.natAbs 0 (x := n) (by rw [signedMant_natAbs, zpow_zero, mul_one])
    by_cases hn : n = 0
    · subst hn
      rw [if_pos rfl]
      rfl
    · rw [if_neg (by exact_mod_cast hn)] at hround
      rw [if_neg hn]
      rwa [Rat.cast_intCast] at hround
  case toInt =>
    intro rm lo hi a
    refine ⟨fun x h => Fp.toInt_finite rm lo hi h, fun h => ?_, fun neg h => ?_, fun x h => Fp.toInt32Mod_finite h,
      fun h => ?_⟩
    · obtain ⟨q, rfl⟩ := (Fp.isNaN_iff a).mp h
      rfl
    · rw [h]
      rfl
    · cases a with
      | nan _ => rfl
      | inf _ => rfl
      | fin _ _ _ => cases h
  case nan =>
    intro f rm a b h r
    obtain ⟨hadd, hmul, hdiv⟩ := f.nan_operands rm h
    obtain ⟨hsub, -, -⟩ := f.nan_operands rm (a := a) (b := b.negate) (by rwa [Fp.isNaN_negate])
    have hr := f.nanResult_two a b
    refine ⟨hadd.trans hr, hsub.trans ?_, hmul.trans hr, hdiv.trans hr⟩
    rw [f.nanResult_two]
    simp only [Fp.negate_eq_nan]
    rfl
  case nanOne =>
    intro f rm signaling r
    have hr : f.nanResult signaling = r := f.nanResult_eq Iff.rfl
    refine ⟨hr, hr, fun neg => rfl, fun exact v => ⟨fun hd => ?_, fun neg hd => ?_⟩⟩
    · rw [Fmt.roundToIntegral, hd]
      exact hr
    · rw [Fmt.roundToIntegral, hd]
  case fused =>
    intro f rm a b c infinite zeroTimesInf invalid
    refine ⟨fun hz => f.fma_zeroTimesInf rm c hz, fun hn hz => ?_, fun ha hb hc hz hi => ?_, fun neg ha hb hc => ?_⟩
    · rw [f.fma_nan rm hn hz, f.nanResult_three]
    · have hsame : (!(a.isNeg != b.isNeg)) = (a.isNeg == b.isNeg) := by rw [bne, Bool.not_not]
      rw [f.fma_inf rm c ha hb hz hi, f.addInf_eq _ hc, hsame]
      rfl
    · obtain ⟨x, hx⟩ := Option.ne_none_iff_exists'.mp ha
      obtain ⟨y, hy⟩ := Option.ne_none_iff_exists'.mp hb
      obtain ⟨na, ma, ea, rfl, -⟩ := Fp.value_eq_some hx
      obtain ⟨nb, mb, eb, rfl, -⟩ := Fp.value_eq_some hy
      rw [hc]
      rfl
  case infinite =>
    intro f rm na nb mb eb a b invalid inf product
    refine ⟨rfl, ?_, rfl, rfl, rfl, rfl, rfl, rfl, rfl, ?_, rfl, ?_, ?_⟩
    · cases na <;> cases nb <;> rfl
    · show (if mb = 0 then f.invalid else (f.inf (nb != na), 0)) = if mb = 0 then f.invalid else (f.inf (na != nb), 0)
      rw [bne_comm]
    · show (f.zero (nb != na), (0 : FpFlags)) = _
      rw [bne_comm]
    · cases na <;> rfl

end Sys2Proof.Proofs
end
